-- ==== Sys2Proof/Word.lean ====
section
/-! DEFINITION. The words of the FL64: bytes, register words, and the names of the things the
manual numbers (channels, stage dies, ports, bus masters). R2, R6, Table 1-7. -/

namespace Sys2Proof

/-- One byte; an offset names one byte (R6). -/
abbrev Byte := BitVec 8

/-- CH0 to CH63 (R2). -/
abbrev Chan := Fin 64

/-- SD0 to SD7 (R2). -/
abbrev Die := Fin 8

/-- Lenex ports A and B. -/
inductive Port where
  | a
  | b
  deriving DecidableEq, Repr

/-- The seven bus masters of Table 1-7: `m0` Larkspur, `m1` and `m2` the link mailboxes, `m3` the
Sweetpea mirror, `m4` the two-wire port, `m5` Hollyhock trace, `m6` the build loader. -/
inductive Master where
  | m0
  | m1
  | m2
  | m3
  | m4
  | m5
  | m6
  deriving DecidableEq, Repr

/-- The master's number, 0 to 6 (Table 13-4, Table 1-10). -/
def Master.num : Master → Nat
  | .m0 => 0
  | .m1 => 1
  | .m2 => 2
  | .m3 => 3
  | .m4 => 4
  | .m5 => 5
  | .m6 => 6

/-- The other port. -/
def Port.other : Port → Port
  | .a => .b
  | .b => .a

/-- Port INDEX and port number: 0 for A, 1 for B (R336). -/
def Port.num : Port → Nat
  | .a => 0
  | .b => 1

/-- Port A is served by M1, port B by M2 (The control slice and the mailbox). -/
def Port.master : Port → Master
  | .a => .m1
  | .b => .m2

/-- CHn sits on SD(n div 8) (R2). -/
def Chan.die (n : Chan) : Die := ⟨n.val / 8, by omega⟩

/-- CHn stands at position n mod 8 of its die (R2). -/
def Chan.pos (n : Chan) : Fin 8 := ⟨n.val % 8, Nat.mod_lt _ (by decide)⟩

/-- Map a vector through its list, a form that the kernel evaluates. -/
def vmap {α β : Type} {n : Nat} (f : α → β) (v : Vector α n) : Vector β n :=
  ⟨⟨v.toArray.toList.map f⟩, by simp⟩

/-- Map a vector with each position's index. -/
def vmapIdx {α β : Type} {n : Nat} (f : Fin n → α → β) (v : Vector α n) : Vector β n :=
  Vector.ofFn (fun i => f i v[i])

end Sys2Proof
end

