-- ==== Sys2Proof/Syntax.lean ====
section
/-! DEFINITION. The commands of the block: one constructor per row of spec/opcode_table.json, with
the operands that the row's rule gives the step (assumption 2). -/

namespace Sys2Proof

/-- What one channel's stage half meets in one tick (R176, R172, R183, R184), and whether the channel's
own completion flags were sampled set at the capture edge (R21, R22). -/
structure ChanIn where
  /-- The 32 samples of the voltage ADC, unclipped codes, 1 LSB = 2⁻¹⁷ V (Table 6-3). -/
  vs : List Int
  /-- The 32 samples of the current ADC, unclipped codes, 1 LSB = 2⁻¹⁹ A (Table 6-3). -/
  is : List Int
  /-- The modulator-stability detector of the voltage ADC did not trip in the tick (R184). -/
  vStable : Bool
  /-- The same of the current ADC. -/
  iStable : Bool
  /-- The completion flags of this channel's own engines were sampled set (R21). -/
  done : Bool
  /-- Common mode of FBP_n and FBN_n in units of 2⁻¹⁰ V (R176). -/
  cm : BitVec 16
  /-- Free-running frequency of each modulation cycle of the tick, 0.1 kHz (R170, R172). -/
  freqs : List (BitVec 16)
  deriving DecidableEq, Repr

/-- What one stage die meets in one tick (R186). -/
structure DieIn where
  /-- PVDD at the die averaged over the tick, 1 LSB = 2⁻¹⁰ V. -/
  pvdd : BitVec 16
  /-- Junction temperatures of the eight channels' sensors, two's complement, 0.125 °C. -/
  tjs : List (BitVec 16)
  deriving DecidableEq, Repr

/-- An edge of TST_TCK; TST_TMS and TST_TDI are sampled on the rising one (R405). -/
inductive TapEdge where
  | rise (tms tdi : Bool)
  | fall
  deriving DecidableEq, Repr

/-- Everything the surroundings give the device at one tick boundary (R21, R23 to R25, R49, R78, R145,
R213, R256, R262, R294, R386). -/
structure TickIn where
  chans : List ChanIn
  dies : List DieIn
  /-- Resampler instances whose flag was sampled clear, one bit a slot (R24). -/
  rsMiss : BitVec 96
  /-- FIR engines whose flag was sampled clear (R24). -/
  firMiss : BitVec 8
  /-- Worst class P margin of the tick, in percent (R25). -/
  margin : BitVec 7
  /-- Engine with that margin (Table 1-12). -/
  engine : BitVec 8
  /-- Measured offset of the frame rate from nominal, units of 0.1 ppm (R78, Table 3-6). -/
  ppm : Int
  /-- Offset in MTB cycles from the start of the tick to a rising mains edge in it (R145, R146). -/
  mainsEdge : Option (Fin 128)
  /-- TWIN_PRES_N sampled high in the middle of the tick (R256). -/
  twinPresHigh : Bool
  /-- MUTE_N sampled high at the boundary (R213). -/
  muteN : Bool
  /-- The crystal oscillator's amplitude detector holds in the tick (R49). -/
  xtalAmp : Bool
  /-- VAUX in mV (R294). -/
  vaux : Nat
  /-- Phase error of MTB against the twin's timebase, as SWP_TB_ERR codes it (Table 9-9). -/
  tbErr : BitVec 16
  /-- Core die temperature sample, 0.125 °C (R386). -/
  coreTemp : BitVec 16
  /-- MTB held its reference within ±1 ppm in frequency (R385). -/
  refHeld : Bool
  /-- Carrier present on port A (bit 0) and port B (bit 1) (R265). -/
  carrier : BitVec 2
  /-- The matrix serves no burst of M4 in the tick (R35, R358). -/
  m4Held : Bool
  /-- Edges of TST_TCK in the tick, in order (R405). -/
  tck : List TapEdge
  deriving DecidableEq, Repr

/-- A frame as the lane delivers it: its data characters, whether R266's delimiting held, and its arrival in the
running tick, in 1/8 MTB cycles (R76). -/
structure RawFrame where
  bytes : List Byte
  delimOk : Bool
  stamp : Fin 1024
  deriving DecidableEq, Repr

/-- What the test of R167 meets on a channel: the differential and the common-mode difference in each of the last 64
modulation cycles, in units of 2⁻¹⁰ V. -/
structure FbTest where
  chan : Chan
  cycles : List (BitVec 16 × BitVec 16)
  deriving DecidableEq, Repr

/-- What a current limit meets on a channel (R180, R182): the half-bridge and its conducting switch, the magnitude of
the switch's current in 2⁻¹⁰ A, how many modulation cycles passed without an act since the last one, and whether it ends
a further interval in the modulation cycle of that one. -/
structure LimitTest where
  chan : Chan
  leg : Bool
  high : Bool
  amps : BitVec 16
  gap : Nat
  same : Bool
  deriving DecidableEq, Repr

/-- The mirrored current of a switch of a channel, 2⁻¹⁰ A (R209). -/
structure MirrorTest where
  chan : Chan
  amps : BitVec 16
  deriving DecidableEq, Repr

/-- The ECC-protected memories of R18. -/
inductive EccMem where
  | buildStore
  | journal
  | trace
  deriving DecidableEq, Repr

/-- The blocks of Table 1-8 that have no step of their own. -/
inductive BlockId where
  | fir (e : Fin 8)
  | slice (q : Fin 16)
  | link (p : Port)
  | sweetpea
  | twoWire
  | trace
  deriving DecidableEq, Repr

/-- The class S loops of Table 1-5. -/
inductive ClassS where
  | coil (n : Chan)
  | die (k : Die)
  | pilot (n : Chan)
  | ripple (n : Chan)
  | ident (n : Chan)
  deriving DecidableEq, Repr

/-- The thermal models whose sixteenth miss brings the fall-back gain (R29). -/
inductive Thermal where
  | coil (n : Chan)
  | die (k : Die)
  deriving DecidableEq, Repr

/-- Mains sources (R146, Table 5-5). -/
inductive MainsSrc where
  | none
  | mainsRef
  | ripple
  deriving DecidableEq, Repr

/-- What the fitter computes: Re, Le, Bl, Kms, Rms and RESID as binary32 patterns (R153). -/
structure FitIn where
  re : BitVec 32
  le : BitVec 32
  bl : BitVec 32
  kms : BitVec 32
  rms : BitVec 32
  resid : BitVec 32
  deriving DecidableEq, Repr

/-- Outcome of the keeper boot of Table 11-1: complete, or the step that failed (R292). -/
inductive BootResult where
  | ok
  | fuse
  | selftest
  | firmware
  | identity
  deriving DecidableEq, Repr

/-- The commands: the rows of spec/opcode_table.json, in its order. -/
inductive Instr where
  | tickBoundary (t : TickIn)
  | paceTrip (n : Chan)
  | vcoreDownTrim
  | laneTransferError (k : Die) (up : Bool)
  | stageDieLost (k : Die)
  | stageHizLocal (k : Die)
  | stageDieRestored (k : Die)
  | eccCorrected (mem : EccMem)
  | storeUncorrectable
  | journalRamFailed
  | traceRamUncorrectable (buf : Bool) (slot : Fin 16) (idx : BitVec 16)
  | channelEngineFailed (n : Chan)
  | blockFailed (b : BlockId)
  | mtbReferenceChange (xtalRuns : Bool)
  | xtalReferenceValid
  | sysMatrixWrite (m : Master) (v : Byte)
  | registerWrite (m : Master) (addr : BitVec 32) (data : List Byte)
  | coilModelUpdate (n : Chan)
  | dieModelUpdate (k : Die)
  | classSDeadlineMiss (loop : ClassS)
  | thermalFallback (loop : Thermal)
  | coilCapExpiry (n : Chan)
  | bldBegin (m : Master)
  | bldAbort (m : Master)
  | bldPatchGo (m : Master)
  | bldPatchClear (m : Master)
  | bldPatchDataWrite (m : Master) (d : BitVec 32)
  | loadTimeout
  | buildCheckComplete
  | rollbackAdvance (readBackOk : Bool)
  | patchCheckComplete
  | patchApply
  | heldPatchMatch
  | heldPatchTimeout
  | reqA (m : Master) (n : Chan)
  | reqB (m : Master) (n : Chan)
  | prerollEnd (n : Chan)
  | fadeEnd (n : Chan)
  | settleEnd (n : Chan)
  | graphFadeInEnd (n : Chan)
  | syncReset (m : Master)
  | trackerAcquisitionEnd
  | fadeLenWrite (m : Master) (n : Chan) (v : BitVec 16)
  | lagWrite (m : Master) (v : BitVec 5)
  | enable (m : Master) (n : Chan)
  | play (m : Master) (n : Chan)
  | quiet (m : Master) (n : Chan)
  | openLoop (m : Master) (n : Chan)
  | closeLoop (m : Master) (n : Chan)
  | stop (m : Master) (n : Chan)
  | clear (m : Master) (n : Chan)
  | rampComplete (n : Chan)
  | autoReclose (n : Chan)
  | followingErrorDrop (n : Chan)
  | lostFeedback (n : Chan)
  | transferEnd (n : Chan)
  | channelFadeEnd (n : Chan)
  | identStart (m : Master) (n : Chan)
  | startAll (m : Master)
  | identAbort (m : Master) (n : Chan)
  | identAtStart (n : Chan)
  | sweepEnd (n : Chan)
  /-- `fit`: the result that the completion reports. -/
  | identFitComplete (n : Chan) (fit : FitIn)
  | mainsSourceChange (src : MainsSrc)
  | rippleLearnerUpdate (n : Chan)
  | rlClear (m : Master) (n : Chan)
  | fbFault (x : FbTest)
  | currentLimit (x : LimitTest)
  | sdCtlWrite (m : Master) (k : Die) (v : Byte)
  | sdRampWrite (m : Master) (k : Die) (v : Byte)
  | shortTrip (n : Chan)
  | fastShort (x : MirrorTest)
  | dieShutdown (k : Die)
  | loadCheckComplete (n : Chan)
  | shortRetryClear (n : Chan)
  | openLoad (n : Chan)
  | muteAssert
  | muteRelease
  | muteFadeEnd
  | pvddWarningSet
  | pvddWarningClear
  | dipReleaseEnd
  | recal (m : Master) (n : Chan)
  | pilotEstimate (n : Chan)
  /-- `frame`: the 2,048 pairs of decimated samples, voltage and current, newest first (R229). -/
  | programmeFrame (n : Chan) (frame : List (Rat × Rat))
  | diagReport (n : Chan)
  | sweetpeaFrame (bytes : List Byte)
  | sweetpeaFrameMissed (partBOnly : Bool)
  | laneUp
  | tbLock
  | twinJoin
  | joinWaitExpiry
  | carriedCommandApply
  | soloTakeover (n : Chan)
  | shareFault (n : Chan)
  | twinSilent
  /-- `lineLow`: the sample of TWIN_PRES_N in the slot that decides (R257). -/
  | twinLossDecision (lineLow : Bool)
  | farewell (m : Master)
  | farewellHandover
  | farewellHalt
  | rejoin (m : Master)
  | uvSoloReturn (n : Chan)
  | lenexFrame (p : Port) (f : RawFrame)
  | carrierLoss (p : Port)
  | lockLoss (p : Port)
  | laneLocked (p : Port)
  | portFirstActivation (p : Port)
  | portSwitch
  | take (m : Master) (p : Port)
  | lnkReset (m : Master) (p : Port)
  | inputLost
  | mbRead (p : Port) (seq : Byte) (addr : BitVec 32) (len : Byte)
  | mbWrite (p : Port) (seq : Byte) (addr : BitVec 32) (data : List Byte)
  | mbJournal (p : Port) (seq : Byte) (first : BitVec 64) (count : BitVec 32)
  | mbTrace (p : Port) (seq : Byte) (data : List Byte)
  | mbAttest (p : Port) (seq : Byte) (data : List Byte)
  | mbCancel (p : Port) (seq : Byte)
  | sessionStart (p : Port) (seq : Byte)
  | sessionStartReady (p : Port)
  | sessionOffer (p : Port) (seq : Byte) (idx : Byte) (cnt : Byte) (data : List Byte)
  | sessionVerifyComplete (p : Port)
  | sessionRead (p : Port) (seq : Byte) (idx : Byte)
  | sessionStatus (p : Port) (seq : Byte)
  | sessionEnd (p : Port) (seq : Byte)
  | sessionLapse (p : Port)
  | sessionFrameLimit (p : Port)
  | attestReportReady (p : Port)
  | bootComplete (r : BootResult)
  | keeperFailed
  | enrollArm (m : Master)
  | enrollDataWrite (m : Master) (d : BitVec 32)
  | enrollGo (m : Master)
  | enrollComplete (slot0Ok : Bool) (slot1Ok : Bool)
  | enrollWindowExpiry
  | lockArm (m : Master)
  | lockGo (m : Master)
  | lockWindowExpiry
  | testModeEntry
  | arm (m : Master)
  | run (m : Master)
  | hold (m : Master)
  | disarm (m : Master)
  | disarmComplete
  | discard (m : Master)
  | halt (m : Master)
  | haltClear (m : Master)
  | standby (m : Master)
  | wake
  | powerOnReset
  | brownOutReset (vaux : Bool)
  | pinReset
  | resetRelease (vioGood : Bool) (pvddGood : Bool)
  | soft (m : Master)
  | chReset (m : Master) (mask : BitVec 64)
  | channelResetApply (n : Chan)
  | pvddUndervoltageShutdown
  | pvddOvervoltageShutdown
  | pvddRecovered
  | vioLoss
  | vioReturn
  | pvddWarnWrite (m : Master) (v : Byte)
  | clrAll (m : Master)
  | evtMaskWrite (m : Master) (upstream : Bool) (g : Fin 32) (v : Byte)
  | journalEntryWrite
  | jrnRdSeqWrite (m : Master) (seq : BitVec 64)
  | twpAddress (addr : BitVec 7) (read : Bool) (strap : BitVec 3) (repeated : Bool)
  | twpWriteByte (b : Byte)
  | twpReadByte (ack : Bool)
  | twpStop
  | twpIdleTimeout
  | stretchCap (beforeAck : Bool)
  | wakeStretchCap
  | sdaRelease
  | alertResponse (wins : Bool)
  | trcArm (m : Master)
  | traceRunStart
  | trcTrig (m : Master)
  | traceTrigger
  | traceComplete
  | trcStop (m : Master)
  | pinGo (m : Master)
  | pinStop (m : Master)
  | injGo (m : Master)
  | injStop (m : Master)
  | capGo (m : Master)
  | captureStart
  | captureComplete
  | flxCapDataRead (m : Master)
  | coefSelWrite (m : Master) (q : Fin 16) (v : BitVec 32)
  | coefPageCapture (q : Fin 16)
  | drbgHealthFailure
  | dbgLockFuseComplete (blown : Fin 4)
  | clockRecoveryLock (p : Port)
  | trcClkEdge
  | twpPortClocked (heldRead : Bool)
  | tbLockTimeout
  deriving DecidableEq, Repr

end Sys2Proof
end

