-- ==== Sys2Proof/Decode.lean ====
section
/-! DEFINITION. Decoding. The block's commands have no words: spec/opcode_table.json gives no row
any bits, so no word spells a command (assumption 1). -/

namespace Sys2Proof

/-- The command that a word of the table spells: none, because no row has bits. -/
def decodeTableWord (_nbits _w : Nat) : Option Instr := none

end Sys2Proof
end

