-- ==== Sys2Proof/Config.lean ====
section
/-! DEFINITION. What one implementation or one device fixes and the spec does not give: free
values (opaque constants without a body) and the uninterpreted functions that named standards or
real arithmetic define. Assumptions 4 to 8. -/

namespace Sys2Proof.Config

/-! ## Real functions (assumption 4): the device's value of a real function at a rational -/

/-- The device's value of π. -/
opaque pi : Rat
/-- sin, argument in radians. -/
opaque sinR : Rat → Rat
/-- cos, argument in radians. -/
opaque cosR : Rat → Rat
/-- tan, argument in radians, for the prewarped corners of R137 and R141. -/
opaque tanR : Rat → Rat
/-- e to a power. -/
opaque expR : Rat → Rat
/-- 10 to a power, for decibels and for the test frequencies of R158. -/
opaque pow10R : Rat → Rat
/-- Base-10 logarithm, for attenuation codes in decibels (R218). -/
opaque log10R : Rat → Rat
/-- Natural logarithm (R151). -/
opaque lnR : Rat → Rat
/-- Square root. -/
opaque sqrtR : Rat → Rat

/-! ## Cryptographic functions (assumption 5): those of the standards that chapter 11 names -/

/-- SHA-384 (FIPS 180-4), the digest's first byte most significant. -/
opaque sha384 : List Byte → BitVec 384
/-- Full GMAC tag (SP 800-38D) under a 256-bit key and a 12-byte nonce, over the bytes as AAD. -/
opaque gmac : BitVec 256 → List Byte → List Byte → BitVec 128
/-- ECDSA P-384 verification of a 96-byte signature over a digest under a 97-byte point. -/
opaque ecdsaVerify : List Byte → BitVec 384 → List Byte → Bool
/-- ECDSA P-384 signature (RFC 6979), r followed by s, by a private scalar over a digest. -/
opaque ecdsaSign : BitVec 384 → BitVec 384 → BitVec 768
/-- A 97-byte string is a valid uncompressed P-384 point. -/
opaque pointValid : List Byte → Bool
/-- The public point of a private scalar, uncompressed SEC 1, 97 bytes. -/
opaque publicKey : BitVec 384 → BitVec 776
/-- The x-coordinate of ECDH of a private scalar with a point. -/
opaque ecdhX : BitVec 384 → List Byte → BitVec 384
/-- HKDF-SHA-384 with inputs IKM, salt and info, 32 bytes of output. -/
opaque hkdf32 : List Byte → List Byte → List Byte → BitVec 256
/-- HKDF-SHA-384 with inputs IKM, salt and info, 56 bytes of output (R296). -/
opaque hkdf56 : List Byte → List Byte → List Byte → BitVec 448
/-- AES-256 key unwrap (RFC 3394); none when its integrity check fails. -/
opaque aesUnwrap : BitVec 256 → List Byte → Option (BitVec 256)
/-- AES-256-GCM decryption under key, nonce, AAD, ciphertext and tag; none when the tag fails. -/
opaque gcmDecrypt : BitVec 256 → List Byte → List Byte → List Byte → List Byte → Option (List Byte)
/-- The order n of P-384 (FIPS 186-5). -/
def p384Order : Nat :=
  0xFFFFFFFFFFFFFFFFFFFFFFFFFFFFFFFFFFFFFFFFFFFFFFFFC7634D81F4372DDF581A0DB248B0A77AECEC196ACCC52973

/-! ## Values that each device carries (assumption 6): wafer test, final test, ROM -/

/-- SERIAL (Table 11-2). -/
opaque serial : BitVec 64
/-- ID_SEED (Table 11-2), wired to the key unit alone (R32). -/
opaque idSeed : BitVec 256
/-- CERT_DIGEST (Table 11-2). -/
opaque certDigest : BitVec 384
/-- FW_DIGEST (R291). -/
opaque fwDigest : BitVec 384
/-- A byte of the boot ROM before its last 48 (T0, R291). -/
opaque romCode : Nat → Byte
/-- A byte of the boot ROM: the ROM stage, then the keeper firmware, which ends with FW_DIGEST (R291). -/
def romByte (a : Nat) : Byte :=
  if a < 0xFFD0 then romCode a else BitVec.ofNat 8 (fwDigest.toNat / 256 ^ (0xFFFF - a))
/-- The 48 KiB of keeper firmware, which follow the 16 KiB of the ROM stage (R291). -/
def firmware : List Byte := (List.range 0xC000).map fun i => romByte (0x4000 + i)

/-! ## Free values (assumption 7): a fresh one for each value of the counter of State -/

/-- A free binary word. -/
opaque freeBits : (w : Nat) → Nat → BitVec w
/-- A free real value. -/
opaque freeRat : Nat → Rat
/-- 32 bytes drawn from the DRBG (R298, R302, R343). -/
opaque drbg : Nat → BitVec 256
/-- A private scalar drawn from the DRBG (R302). -/
opaque drbgScalar : Nat → BitVec 384
/-- A seed of the noise generator of R375 (the spec gives none): generator, draw. -/
opaque noiseSeed : Nat → Nat → BitVec 31
/-- A byte of the coefficient banks T2, whose layout the manual does not publish. -/
opaque coefBankByte : Nat → Nat → Byte

/-! ## Constants of the design that the spec describes and does not list (assumption 8) -/

/-- Which ROM holds the resampler's prototype, as a number that spells the taps of one half of it, and the width of a tap
(R83, R84). The manual states the response of the prototype and lists no tap. -/
opaque prototypePick : Nat
opaque romWidth : Nat
/-- The levels that the board ties ADDR2-ADDR0 to, where no START on the bus has shown them yet (R326). -/
opaque addrPins : BitVec 3
/-- The bound of R53 on the tail of a section's L1 norm, from its coefficients b0 b1 b2 a1 a2. -/
opaque l1Tail : Int → Int → Int → Int → Int → Rat
/-- Proportional and integral gain, per tick, of the tracker's second-order loop at a bandwidth in Hz
(R76, R77). -/
opaque trackerGain : Rat → Rat × Rat
/-- Half-width of a modulator's lock range, as a fraction of 384 kHz; ±4 % typical (R172). -/
opaque lockRange : Rat
/-- Modulation cycles within the lock range after which a modulator is locked; 16 typical (R172). -/
opaque lockCycles : Nat
/-- Which of the points of equal least cost the fitter of R153 ends at, as a number of 160 bits: measured impedances
(frequency, real and imaginary part), the constants Mms, BOX_ALPHA, ω_B and Q_L of the model, and the start values Re, Le, Bl,
Kms, Rms decide it. The manual states what is minimised and where the search starts, not its steps. -/
opaque fitPick : List (Rat × Rat × Rat) → List Rat → List Rat → Nat
/-- The test-access port (IEEE 1149.1): the instruction that Test-Logic-Reset selects, and what Capture-IR loads. -/
opaque tapReset : List Bool
opaque tapIr : List Bool
/-- What Capture-DR loads into the data register of an instruction other than BYPASS: instruction, capture. -/
opaque tapDr : List Bool → Nat → List Bool
/-- What a quotient by 0 gives, by its dividend, where the manual gives no value (Z_p of R225 with I_p = 0, γ² of R231 over
an empty spectrum). -/
opaque overZero : Rat → Rat
/-- Tap i of the decimation filter of R229, which is flat to 2.5 kHz. -/
opaque decimTap : Nat → Rat

end Sys2Proof.Config
end

