-- ==== Sys2Proof/Machine/Types.lean ====
section
/-! DEFINITION. The data that State is made of: the records of a build, the parts of a channel, of a
stage die, of a link port, of the twin, of events, journal and trace. Plain data throughout. -/

namespace Sys2Proof.Machine

/-! ## The build in force (chapter The Build Image) -/

/-- One second-order section, Q3.29 (Table 2-9). -/
structure Section where
  b0 : Int
  b1 : Int
  b2 : Int
  a1 : Int
  a2 : Int
  deriving DecidableEq, Repr

/-- One bank's list: sections and FIR taps in Q1.31 (Table 2-9). -/
structure FilterList where
  secs : List Section
  taps : List Int
  deriving DecidableEq, Repr

/-- A channel definition (Table 2-8). -/
structure ChanDef where
  law : Nat
  fadeEn : Bool
  firFade : Bool
  sectMax : Nat
  fir : Option (Fin 8)
  firShadow : Option (Fin 8)
  phase : Nat
  /-- Used inputs: slot and gain in Q3.29. -/
  inputs : List (Nat × Int)
  deriving DecidableEq, Repr

/-- Tagged parameters as given: identifier and binary32 value (Table 2-10). -/
abbrev Params := List (Nat × BitVec 32)

/-- A loudspeaker model record, binary32 values (Table 2-11). -/
structure Model where
  kind : Nat
  re : BitVec 32
  le : BitVec 32
  bl : BitVec 32
  mms : BitVec 32
  kms : BitVec 32
  rms : BitVec 32
  xlim : BitVec 32
  fb : BitVec 32
  deriving DecidableEq, Repr

/-- A position table: three arrays of 33 binary32 values (Table 2-12). -/
structure PTable where
  bl : List (BitVec 32)
  kms : List (BitVec 32)
  le : List (BitVec 32)
  deriving DecidableEq, Repr

/-- Everything a build says about one channel; the image copies serve R154. -/
structure ChanCfg where
  dfn : ChanDef
  bankA : FilterList
  bankB : FilterList
  law : Params
  model : Model
  table : Option PTable
  prot : Params
  diag : Params
  imgModel : Model
  imgTable : Option PTable
  deriving DecidableEq, Repr

/-- The resource claim (Table 2-6). -/
structure Claim where
  chMask : BitVec 64
  streams : Nat
  fir : Nat
  models : Nat
  ptables : Nat
  ripple : Nat
  xtal : Bool
  sections : Nat
  deriving DecidableEq, Repr

/-- The twin plan (Table 2-13). -/
structure TwinPlan where
  twinMask : BitVec 64
  leadMask : BitVec 64
  pairId : BitVec 64
  tbFollower : Bool
  deriving DecidableEq, Repr

/-- A record of the record region (Table 2-3). -/
inductive Record where
  | claim (c : Claim)
  | streams (l : List (Nat × Nat))
  | chanDef (n : Chan) (d : ChanDef)
  | filter (n : Chan) (bankB : Bool) (f : FilterList)
  | law (n : Chan) (subtype : Nat) (p : Params)
  | model (n : Chan) (m : Model)
  | table (n : Chan) (t : PTable)
  | prot (n : Chan) (subtype : Nat) (p : Params)
  | diag (n : Chan) (subtype : Nat) (p : Params)
  | twin (t : TwinPlan) (followerByte : Nat)
  | policy (alert : BitVec 256) (upstream : BitVec 256)
  deriving DecidableEq, Repr

/-- A record with its offset in the image. -/
structure RecAt where
  off : Nat
  body : Record
  deriving DecidableEq, Repr

/-- The build in force (R40). -/
structure Build where
  claim : Claim
  streams : List (Nat × Nat)
  chans : Vector (Option ChanCfg) 64
  twin : Option TwinPlan
  policy : Option (BitVec 256 × BitVec 256)
  bench : Bool
  rollback : BitVec 64
  id : BitVec 128
  digest : BitVec 384
  deriving DecidableEq, Repr

/-- A patch that passed its check (R66). -/
structure Patch where
  recs : List RecAt
  seq : BitVec 32
  /-- First 16 bytes of the SHA-384 of the patch. -/
  digest16 : BitVec 128
  /-- TARGET_DIGEST. -/
  target16 : BitVec 128
  /-- First 16 bytes of the SHA-384 of the decrypted record region (R252). -/
  matchDigest : BitVec 128
  deriving DecidableEq, Repr

/-! ## Sparse memories -/

/-- A byte memory: listed cells, addresses strictly rising, none equal to the byte an unlisted
address reads as (assumption 11). -/
abbrev Mem := List Host.Cell

/-! ## One channel -/

/-- Channel states (Table 4-6). -/
inductive ChState where
  | off
  | rampUp
  | quiet
  | openLoop
  | closedLoop
  | tripped
  | retry
  | rampDown
  deriving DecidableEq, Repr

/-- The commands of CH_CMD (Table 4-10). -/
inductive ChCmd where
  | enable
  | play
  | quiet
  | open_
  | close
  | stop
  | clear
  deriving DecidableEq, Repr

/-- A channel command that waits for the decisions of its tick (R127): its master and the bytes of its write, none for a
command of a device transition. -/
structure HeldCmd where
  host : Option (Master × List Byte)
  cmd : ChCmd
  deriving DecidableEq, Repr

/-- What a running fade of R126, R213 or R332 ends in. -/
inductive FadeEnd where
  | none
  | play
  | quiet
  | stop
  | mute
  | rejoin
  deriving DecidableEq, Repr

/-- State of the loop and of the channel's sequence that a channel reset clears (Table 12-8). -/
structure ChLoop where
  uvHold : Bool
  resume : ChState
  /-- Fade factor φ in units of 1/98,304 (R126, R213). -/
  phi : Nat
  fading : FadeEnd
  /-- Decrement of φ per tick of the running fade; 0 for a fade-in. -/
  fadeStep : Nat
  /-- The playing state that a QUIET command left (Table 4-7). -/
  quietFrom : ChState
  openCause : BitVec 3
  intSat : Bool
  demandClamp : Bool
  ovl : Bool
  invalid : Bool
  frozen : Bool
  bfOvf : Bool
  /-- A stage needed an exponent above +31 in the last tick (R110). -/
  bfActing : Bool
  /-- VALID and OVL markers of the last current sample (Table 9-3). -/
  curValid : Bool
  curOvl : Bool
  paceMiss : Bool
  feCount : Nat
  /-- CH_FE_PEAK, binary32. -/
  fePeak : BitVec 32
  /-- c exceeded TICKS in the tick that ended; the decision is still to be reported (R119, R31). -/
  feDue : Bool
  /-- The sense was suspect in that tick, whose drop then names lost feedback (R122). -/
  feSuspect : Bool
  /-- The class P work of the last tick has begun the transfer of a drop that is still to be recorded (R112, R115). -/
  shaped : Bool
  /-- A fault drop of a joined channel travels and has not applied (R122, R251). -/
  dropSent : Bool
  /-- Ticks of the last fault drops, newest first, at most four (R122). -/
  dropTimes : List Nat
  dropTotal : Nat
  lastDrop : Option Nat
  lastPaceMiss : Option Nat
  paceFaultRun : Nat
  /-- Integrator state I, V. -/
  integ : Rat
  /-- C of R115 and the ticks left of the transfer. -/
  tC : Rat
  tLeft : Nat
  /-- P + I + REP + T of the last closed-loop tick with valid sense (R115). -/
  lastFb : Rat
  /-- Sign of the excess that the clamp removed in the previous tick, 0 when it did not act. -/
  clampSign : Int
  suspect : Bool
  /-- Causes of suspect sense found in the last tick: bit 0 overload, 1 invalid, 2 frozen. -/
  suspectMask : BitVec 3
  lastV : BitVec 24
  lastI : BitVec 24
  sameV : Nat
  sameI : Nat
  okRun : Nat
  /-- Issue side of the setpoint's tick register (R21, R164). -/
  setpoint : BitVec 24
  /-- Its staging side. -/
  staged : BitVec 24
  coilDm : Bool
  pilotDm : Bool
  rippleDm : Bool
  identDm : Bool
  coilFallback : Bool
  coilMissRun : Nat
  /-- The loop closes in the coming class P work (R116). -/
  closing : Bool
  /-- The RETRY ramp has completed (Table 6-2). -/
  ramped : Bool
  /-- The channel returns to RESUME when its ramp completes (R318). -/
  uvResume : Bool
  /-- The running suspect spell has been reported (R120, R424). -/
  lfReported : Bool
  /-- PLAY waits for the end of a ramp or an identification (R323). -/
  runPlay : Bool
  /-- That PLAY belongs to a device transition to RUN, whose entry names the channel (R123). -/
  devPlay : Bool
  /-- Commands that wait for the decisions of their tick, oldest first (R127). -/
  heldCmds : List HeldCmd
  /-- A channel reset waits for the fade and the ramp (R332). -/
  resetPending : Bool
  /-- Probe values of the last tick (Table 15-1). -/
  probes : List Rat
  deriving DecidableEq, Repr

/-- Estimator, forward and target models (R135 to R144). -/
structure ChModel where
  fwd : Bool
  tableEdge : Bool
  xClamp : Bool
  xClampActing : Bool
  reClamp : Bool
  reSrc : BitVec 2
  x : Rat
  v : Rat
  a : Rat
  vRaw : Rat
  aRaw : Rat
  uPrev : Rat
  iPrev : Rat
  /-- Re_t. -/
  reT : Rat
  /-- The latest valid pilot Re and the tick of its arrival. -/
  rePilot : Option (Rat × Nat)
  xf : Rat
  vf : Rat
  cf : Rat
  xp : Rat
  vp : Rat
  xT : Rat
  vT : Rat
  aT : Rat
  tS1 : Rat
  tS2 : Rat
  ffPrev : Rat
  xpR : Rat
  vpR : Rat
  deriving DecidableEq, Repr

/-- Ripple learner (R145 to R149). Entries that the lists do not hold are 0. -/
structure ChLearn where
  table : List Rat
  sums : List Rat
  counts : List Nat
  /-- The period so far must be discarded (R149). -/
  tainted : Bool
  /-- Sums, counts and taint of the period that ended. -/
  ready : Option (List Rat × List Nat × Bool)
  clamped : Bool
  lastDiscarded : Bool
  updates : Nat
  deriving DecidableEq, Repr

/-- Identification sweep in progress (R150 to R156). -/
structure ChIdent where
  running : Bool
  t : Nat
  fitPending : Bool
  /-- Voltage and coil current of the sweep's ticks, newest first (R153). -/
  samples : List (Rat × Rat)
  deriving DecidableEq, Repr

/-- Limiter, coil model and load checks (R192 to R214). -/
structure ChProt where
  gX : Rat
  gV : Rat
  gC : Rat
  gD : Rat
  gF : Rat
  gL : Rat
  /-- g_L in use after R250. -/
  gUsed : Rat
  /-- g_req of the last ticks, newest first (R196). -/
  reqs : List Rat
  /-- Look-ahead line, newest first: x_T, v_T, a_T or y_FG (R193). -/
  line : List (Rat × Rat × Rat)
  /-- L_A in force. -/
  la : Nat
  laPending : Bool
  guardFlag : Bool
  guardActing : Bool
  xPred : Rat
  vPred : Rat
  cPred : Rat
  xpPred : Rat
  vpPred : Rat
  vCeil : Bool
  /-- V_CEIL / |u_u| of the ceiling act of the last tick (R198). -/
  ceilRatio : Option Rat
  dip : Bool
  vLow : Rat
  /-- The value the release line had reached when the warning set again (R199). -/
  dipCap : Option Rat
  /-- Ticks of the release line of R200, none before the warning clears. -/
  dipRelease : Option Nat
  tc : Rat
  tm : Rat
  coilCap : Bool
  /-- Ticks since the restart of the coil model (R204). -/
  coilAge : Nat
  /-- The pilot Re that corrects the coil model at its next update (R202). -/
  correction : Option Rat
  /-- Sum of i² since the last release of the coil model, and the mean at that release (R201). -/
  powSum : Rat
  powRel : Rat
  coilLimit : Bool
  coilOver : Bool
  muted : Bool
  openWarn : Bool
  blkU : Rat
  blkI : Rat
  blkCount : Nat
  openRun : Nat
  openActed : Bool
  /-- Mean square of u over the last whole block, V² (R212). -/
  openMs : Rat
  /-- CH_PEAK_X, binary32. -/
  peakX : BitVec 32
  /-- Load check of R210: ticks run, and the transform sums at CHK_F. -/
  check : Option Nat
  chkUre : Rat
  chkUim : Rat
  chkIre : Rat
  chkIim : Rat
  deriving DecidableEq, Repr

/-- Load diagnostics (R219 to R236), the part that a channel reset clears. -/
structure ChDiag where
  cls : BitVec 4
  raw : BitVec 4
  pilotOn : Bool
  pilVal : Bool
  reVal : Bool
  fsVal : Bool
  cohVal : Bool
  re : Rat
  tpil : Rat
  zre : Rat
  zim : Rat
  fs : Rat
  coh : Rat
  /-- The registers as the last report loaded them, binary32: RE, TPIL, ZRE, ZIM, FS, COH. -/
  regs : List (BitVec 32)
  /-- STATUS bits 12:8 as the last report loaded them. -/
  regFlags : BitVec 5
  /-- Pilot weight, 0 to 960 (R220). -/
  weight : Nat
  /-- Samples of the window, newest first: u, i, usable, at full weight. -/
  window : List (Rat × Rat × Bool × Bool)
  /-- The window and T_c at the running release of the estimator (R225, R227, R28). -/
  snap : List (Rat × Rat × Bool × Bool)
  snapTc : Rat
  /-- Ten releases have passed since the last report was due (R232, R234). -/
  rptDue : Bool
  /-- Peak and frequency of the running pilot, which a stop keeps (R220). -/
  pilA : Rat
  pilF : Rat
  /-- u and i of the last ticks, newest first, as the decimator reads them (R229). -/
  hist : List (Rat × Rat)
  /-- Decimated u and i, newest first, at most 2,048, and ticks since the last frame began. -/
  slow : List (Rat × Rat)
  slowAge : Nat
  /-- A programme frame that is complete: its samples, and whether each of its ticks counts. -/
  frameDue : Option (List (Rat × Rat) × Bool)
  /-- The latest release gave a pilot estimate; an impedance estimate. -/
  pilotEst : Bool
  impEst : Bool
  /-- A pilot estimate was seen since the last report. -/
  estSeen : Bool
  /-- Ticks since the last unusable tick, for the programme frames. -/
  progRun : Nat
  sii : List Rat
  suu : List Rat
  siuRe : List Rat
  siuIm : List Rat
  frames : Nat
  runCode : BitVec 4
  runLen : Nat
  noRaw : Nat
  recal : Bool
  /-- Pilot model of R222. -/
  xPil : Rat
  vPil : Rat
  cPil : Rat
  xpPil : Rat
  vpPil : Rat
  deriving DecidableEq, Repr

/-- Share trim and partner view of a twinned channel (R247 to R253). -/
structure ChTwin where
  shareP : Rat
  shareI : Rat
  shareSat : Bool
  satRun : Nat
  partnerState : BitVec 4
  partnerHiz : Bool
  /-- Ticks for which the partner's HIZ has stood while the own ramp is complete (R319). -/
  uvWait : Nat
  uvRampDone : Bool
  /-- The half's role changed in the running tick, which is unusable (R224). -/
  roleNew : Bool
  /-- The share clamp that acts has been reported (R248, R424). -/
  shareFaulted : Bool
  /-- The partner took the channel solo while a PVDD shutdown held this half (R319). -/
  outHeld : Bool
  deriving DecidableEq, Repr

/-- Phases of the filter graph (R93, R99). -/
inductive FgPhase where
  | idle
  | preroll
  | fade
  | settle
  | fadeIn
  deriving DecidableEq, Repr

/-- Four states of a section in Q4.60 (R88). -/
structure SecState where
  x1 : Int
  x2 : Int
  y1 : Int
  y2 : Int
  deriving DecidableEq, Repr

/-- Running filter graph (Table 12-8: cleared by CHR and SYNC). -/
structure ChFg where
  phase : FgPhase
  pos : Nat
  len : Nat
  /-- The output start of R99 is awaited. -/
  waitStart : Bool
  incoming : Bool
  secA : List SecState
  secB : List SecState
  firA : List Int
  firB : List Int
  deriving DecidableEq, Repr

/-- Filter graph settings that CHR and SYNC keep. -/
structure ChFgKeep where
  /-- Active bank, true for B. -/
  active : Bool
  latched : Option Bool
  fadeLen : BitVec 14
  settle : BitVec 14
  sat : BitVec 32
  /-- The conversion saturated in the last tick (R90). -/
  satNow : Bool
  /-- Old gains and ticks done of a ramp under R69. -/
  gainFrom : List Int
  gainPos : Nat
  deriving DecidableEq, Repr

/-- Channel settings and lasting records (Table 12-8). -/
structure ChKeep where
  holdOpen : Bool
  playOnRecover : Bool
  tripCause : BitVec 4
  /-- Tick of the last trip (R31, R216). -/
  tripAt : Nat
  /-- The state the channel left when it tripped was a playing state. -/
  wasPlaying : Bool
  /-- The state left at the last trip, and the cause with which lost feedback would have failed its check (R216). -/
  tripFrom : ChState
  tripCheck : BitVec 4
  freeze : Bool
  pilotOff : Bool
  shortLatch : Bool
  retries : BitVec 2
  /-- Tick at which the series issues its internal CLEAR (R211). -/
  retryAt : Option Nat
  shorts : BitVec 16
  result : BitVec 4
  fits : BitVec 8
  fit : FitIn
  idAtStartDone : Bool
  cal : Bool
  fsRefSet : Bool
  /-- FS_REF is to be captured at the next valid resonance estimate (R227). -/
  fsWait : Bool
  zcalRe : Rat
  zcalIm : Rat
  reCal : Rat
  fsRef : Rat
  seq : BitVec 32
  fbFault : Bool
  /-- FE_TIME in ticks and FE_LIM in force. -/
  feTicks : BitVec 18
  feLim : BitVec 32
  deriving DecidableEq, Repr

/-- Status of a channel's stage half as its lane last delivered it (Table 6-7, R190). -/
structure StageStat where
  bridge : BitVec 2
  modRun : Bool
  locked : Bool
  limiting : Bool
  freq : BitVec 16
  depth : BitVec 7
  deriving DecidableEq, Repr

/-- The stage half of a channel (chapter Modulator and Power Stage) and its ramp (R176). -/
structure ChStage where
  bridge : BitVec 2
  modRun : Bool
  stat : StageStat
  /-- The reference of the running tick moves from the first of these setpoints to the second (R165). -/
  refFrom : BitVec 24
  refTo : BitVec 24
  /-- Modulation cycles in a row whose free-running frequency lay in the lock range (R172). -/
  inRange : Nat
  /-- Sum of the switching frequencies and number of cycles of the last 192 ticks, newest first. -/
  freqs : List (Nat × Nat)
  /-- Peak |u_diff| / V_P of the last 192 ticks, newest first. -/
  depths : List Rat
  /-- The last 16 modulation cycles up to the last act, newest first: which were limit acts (R208). -/
  actCycles : List Bool
  /-- The switch of each half-bridge that the comparator turned on for the rest of the half-cycle: half-bridge, high
  side (R180). -/
  forced : List (Bool × Bool)
  acts : BitVec 32
  actsTick : Nat
  lastAct : Option Nat
  /-- Common-mode target, V, and rate per tick of the running ramp. -/
  cm : Rat
  rate : Rat
  /-- The running ramp has reached its end and reports it. -/
  rampDone : Bool
  fbBad : Bool
  deriving DecidableEq, Repr

/-- One class S loop (R28): release and deadline of the pending run, and whether a run passed its
deadline and is still to be reported. -/
structure ClsSlot where
  run : Option (Nat × Nat)
  missDue : Bool
  deriving DecidableEq, Repr

/-- The class S loops of a channel (Table 1-5). -/
structure ChCls where
  coil : ClsSlot
  pilot : ClsSlot
  ripple : ClsSlot
  ident : ClsSlot
  deriving DecidableEq, Repr

/-- Issue side of the class S outputs that class P work reads: they change at a tick boundary alone
(R21, chapter Device Architecture). -/
structure ChIssue where
  tc : Rat
  rePilot : Option (Rat × Nat)
  table : List Rat
  /-- The cap of R204 and the fall-back of R29. -/
  cap : Bool
  fallback : Bool
  deriving DecidableEq, Repr

/-- One channel. -/
structure Channel where
  st : ChState
  cls : ChCls
  issue : ChIssue
  loop : ChLoop
  model : ChModel
  learn : ChLearn
  ident : ChIdent
  prot : ChProt
  diag : ChDiag
  twin : ChTwin
  fg : ChFg
  fgk : ChFgKeep
  keep : ChKeep
  stage : ChStage
  /-- I_LIM in force in 0.1 A, and the phase in force. -/
  ilim : BitVec 8
  phaseNow : BitVec 4
  deriving DecidableEq, Repr

/-! ## One stage die (Table 6-6, R205 to R207) -/

structure DieState where
  lost : Bool
  laneErr : Bool
  hizLocal : Bool
  injEn : Bool
  /-- INJ_EN as the die uses it; a write takes effect at the next boundary (R173). -/
  injNow : Bool
  rampMs : BitVec 7
  laneErrs : BitVec 16
  pvdd : BitVec 16
  tj : BitVec 16
  dieDm : Bool
  dieFallback : Bool
  dieMissRun : BitVec 8
  /-- Failed transfers of the running tick, and runs of failed and good ticks. -/
  upFail : Bool
  downFail : Bool
  failRun : Nat
  goodRun : Nat
  /-- Ticks in a row without a good downward transfer, as the die counts them (R187). -/
  downRun : Nat
  shutdown : Bool
  /-- ΔT of the eight channels (R205). -/
  dT : Vector Rat 8
  powSum : Vector Rat 8
  /-- Mean heat at the running release (R205). -/
  powRel : Vector Rat 8
  /-- T_die at that release, °C. -/
  tRel : Rat
  tModel : Rat
  /-- Attenuation of the sensors and of the model, dB, not above 0. -/
  attS : Rat
  attM : Rat
  /-- Issue side of the model's attenuation (R21). -/
  attUse : Rat
  /-- The fall-back of R29 that class P work uses. -/
  fallbackUse : Bool
  cls : ClsSlot
  folding : Bool
  deriving DecidableEq, Repr

/-! ## Device-level blocks -/

/-- Device states (Table 12-3). -/
inductive DevState where
  | standby
  | boot
  | unbuilt
  | built
  | armed
  | run
  | halt
  deriving DecidableEq, Repr

/-- HALT causes (Table 12-5). -/
inductive HaltCause where
  | none
  | boot
  | store
  | lane
  | farewell
  | host
  deriving DecidableEq, Repr

/-- States of the controller of the test-access port (IEEE 1149.1). -/
inductive TapState where
  | testLogicReset
  | runTestIdle
  | selectDr
  | captureDr
  | shiftDr
  | exit1Dr
  | pauseDr
  | exit2Dr
  | updateDr
  | selectIr
  | captureIr
  | shiftIr
  | exit1Ir
  | pauseIr
  | exit2Ir
  | updateIr
  deriving DecidableEq, Repr

/-- The test-access port (R405). -/
structure Tap where
  state : TapState
  /-- The instruction, none for the one that Test-Logic-Reset selects, and the register that shifts; the bit that leaves first
  comes first. -/
  inst : Option (List Bool)
  reg : List Bool
  /-- TST_TDO, none at high impedance. -/
  tdo : Option Bool
  /-- The model's own count of captures. -/
  captures : Nat
  deriving DecidableEq, Repr

/-- Which reset holds the core die. -/
inductive Held where
  | running
  | por
  | bor
  | pin
  | standby
  deriving DecidableEq, Repr

/-- Window 0x00 beyond matrix and pace (Tables 12-5, 7-7, 16-17). -/
structure Dev where
  held : Held
  state : DevState
  disarming : Bool
  haltCause : HaltCause
  refuse : BitVec 4
  tick : Nat
  /-- Ticks since the core die started, which time the releases of Table 1-5. -/
  clsTick : Nat
  mutePin : Bool
  /-- MUTE_N at the last boundary, true for low, also while VIO is not good (R320). -/
  muteRaw : Bool
  /-- MUTE_N at the last two boundaries, newest first, true for low (R213). -/
  muteLow : Bool × Bool
  /-- The twin has carried a mute that it has not released (R251). -/
  twinMute : Bool
  /-- The mute of this device has applied on the channels of a joined pair (R251). -/
  muteApplied : Bool
  /-- What asserted or released this device's mute last, as a source of Table 13-4: MUTE_N or VIO. -/
  muteBy : Byte
  muteResume : Bool
  /-- Channels that the running mute took from a playing state. -/
  muteTook : BitVec 64
  /-- A release of MUTE_N, of the VIO mute, or of a carried mute arrived while the mute fade ran (R214). -/
  muteReleasing : Bool
  vioReleasing : Bool
  twinReleasing : Bool
  /-- Blocks that a failure has removed (Table 1-8). -/
  gone : List BlockId
  deriving DecidableEq, Repr

/-- Fuse slots of an owner key hash and of a rollback value (Table 11-2, R294). -/
structure OwnerSlot where
  used : Bool
  valid : Bool
  hash : BitVec 384
  deriving DecidableEq, Repr

structure RbSlot where
  used : Bool
  valid : Bool
  value : BitVec 64
  deriving DecidableEq, Repr

/-- The fuse bank (Table 11-2). -/
structure Fuses where
  owner0 : OwnerSlot
  owner1 : OwnerSlot
  rb : List RbSlot
  dbg : BitVec 3
  deriving DecidableEq, Repr

/-- Snowdrop's retained state (Table 12-8, R325, R365). -/
structure Snow where
  por : Bool
  borVaux : Bool
  borVddin : Bool
  pin : Bool
  wake : Bool
  borCount : BitVec 8
  /-- Stored journal head: sequence number and chain hash. -/
  stored : Option (BitVec 64 × BitVec 128)
  wakeStretch : BitVec 16
  deriving DecidableEq, Repr

/-- The keeper (chapter Security and Trust). -/
structure Keeper where
  ok : Bool
  failed : Bool
  rngFail : Bool
  step : BitVec 3
  fail : BitVec 8
  lastCode : BitVec 8
  lastSource : BitVec 8
  signPub : BitVec 776
  agreePub : BitVec 776
  testSeen : Bool
  /-- DBG_LOCK closed in the core die's logic (R309). -/
  lockNow : Bool
  /-- A rollback slot is being programmed (R301), and the value that it takes. -/
  fuseBusy : Bool
  rbTarget : BitVec 64
  /-- The DBG_LOCK bits are being programmed (R309), and the master of the procedure. -/
  lockBusy : Bool
  lockBy : Master
  /-- VAUX left its range while a fuse write was in progress (R294). -/
  vauxCut : Bool
  deriving DecidableEq, Repr

/-- Enrollment and DBG_LOCK windows (R298, R309), cleared by SOFT. -/
structure SecWin where
  enrollOpen : Option Master
  enrollBuf : List Byte
  overflow : Bool
  nonce : BitVec 256
  /-- Enrollment check and programming under way: master, buffer, nonce. -/
  enrollCheck : Option (Master × List Byte × BitVec 256)
  lockOpen : Option Master
  deriving DecidableEq, Repr

/-- Supply settings, counters and status (Table 12-11). -/
structure Pwr where
  vauxOk : Bool
  /-- VAUX as last measured, mV (R294). -/
  vauxMv : Nat
  vddinOk : Bool
  vioOk : Bool
  pvddOk : Bool
  warn : Bool
  uv : Bool
  ov : Bool
  vioMute : Bool
  warnLevel : BitVec 6
  pvddMin : BitVec 16
  uvs : BitVec 8
  ovs : BitVec 8
  warns : BitVec 8
  vioLosses : BitVec 8
  /-- Tick at which PVDD was last reported beyond a shutdown threshold (R318). -/
  outAt : Nat
  /-- Ticks at which the shutdown and the dip began. -/
  shutAt : Nat
  dipAt : Nat
  /-- A PVDD shutdown happened during the dip (R200). -/
  dipUv : Bool
  /-- PVDD was last reported beyond its overvoltage threshold, a level that no reset reaches (R314, R333). -/
  pvddHigh : Bool
  deriving DecidableEq, Repr

/-- Matrix settings and SYS_PACE_CTL (Table 12-8). -/
structure Matrix where
  remap : Bool
  park : BitVec 2
  downTrim : Bool
  deriving DecidableEq, Repr

/-- Matrix incident log and pace monitor (Tables 1-10, 1-11). -/
structure Pace where
  mxMaster : BitVec 3
  mxTarget : BitVec 3
  mxKind : BitVec 2
  mxBeats : BitVec 5
  vcore : BitVec 8
  /-- Steps still to rise after a pace miss (R25). -/
  rise : Nat
  margin : BitVec 7
  engine : BitVec 8
  /-- Margins and engines of the last 1,024 ticks, newest first. -/
  margins : List (Nat × Nat)
  faults : BitVec 8
  /-- Consecutive ticks above 40 %. -/
  calm : Nat
  deriving DecidableEq, Repr

/-- Image checks under way at Larkspur (R60, R61). -/
inductive LoadPhase where
  | idle
  | receiving
  | checking
  deriving DecidableEq, Repr

/-- The build loader and the patch buffer (Table 12-8: cleared by SOFT). -/
structure Loader where
  phase : LoadPhase
  /-- How far a check has come: 0 verifying, 1 checking, 2 expanding (Table 2-19). -/
  stage : Nat
  /-- Covered 64-byte granules, rising. -/
  covered : List Nat
  /-- The master that began the load (Table 11-16). -/
  loadBy : Master
  /-- The master that gave PATCH_GO for the patch under check (Table 11-16). -/
  patchBy : Master
  owner : Option Master
  /-- Patch buffer, newest word first. -/
  patchWords : List (BitVec 32)
  patchOver : Bool
  patchCheck : Bool
  /-- A patch that passed its check and awaits its boundary, and the tick of its acceptance. -/
  accepted : Option Patch
  acceptedAt : Nat
  /-- A held patch with its proposed apply tick and the tick of its acceptance. -/
  heldPatch : Option (Patch × Nat × Nat)
  /-- The held patch met its match: apply at this tick. -/
  heldApply : Option Nat
  deriving DecidableEq, Repr

/-- BLD registers and the build in force. -/
structure Bld where
  len : BitVec 23
  port : Bool
  lastKind : Bool
  lastCode : BitVec 8
  refuseAt : BitVec 32
  patchSeq : BitVec 32
  received : BitVec 32
  store : Mem
  build : Option Build
  /-- Tick of the acceptance, for the join wait of R245. -/
  acceptedAt : Nat
  deriving DecidableEq, Repr

/-- One message of Table 13-2. -/
structure EvMsg where
  source : Byte
  index : Byte
  count : BitVec 16
  frame : BitVec 32
  arg : BitVec 32
  jseq : BitVec 32
  deriving DecidableEq, Repr

/-- Events (Table 13-8). -/
structure Events where
  flags : BitVec 256
  amask : BitVec 256
  umask : BitVec 256
  total : BitVec 32
  /-- Newest first, at most 64. -/
  history : List EvMsg
  /-- Flags raised in the running tick (R337). -/
  raised : BitVec 256
  /-- ALERT_N pulled low (R338). -/
  alert : Bool
  deriving DecidableEq, Repr

/-- Per-master copies (R341, R350): M0, M1, M2, M4. -/
structure Bank where
  age : BitVec 6
  rdSeq : BitVec 64
  rdStat : BitVec 2
  rdEntry : List Byte
  deriving DecidableEq, Repr

/-- A journal entry before it is written: bytes 8 to 47 of Table 13-3 but for those that the
journal logic fills. -/
structure JEntry where
  frame : BitVec 32
  src : Byte
  kind : Byte
  result : Byte
  index : Byte
  /-- Given DIGEST; none for the descriptor of R345. -/
  digest : Option (BitVec 128)
  data : List Byte
  deriving DecidableEq, Repr

/-- The journal (Table 13-9). -/
structure Journal where
  /-- Written entries, newest first: SEQ and the 64 bytes. -/
  ents : List (BitVec 64 × List Byte)
  head : BitVec 64
  next : BitVec 64
  chain : BitVec 128
  nonce : BitVec 256
  failed : Bool
  continued : Bool
  noNonce : Bool
  dropped : BitVec 16
  /-- Entries dropped since the last gap entry. -/
  gap : Nat
  /-- Entries waiting, oldest first. -/
  queue : List JEntry
  /-- Entries may be written: step 3 of the boot is done (R343). -/
  started : Bool
  deriving DecidableEq, Repr

/-! ## Links (chapter The Lenex Link, sessions of chapter Security and Trust) -/

/-- Lane states (Table 10-1). -/
inductive Lane where
  | down
  | locking
  | locked
  deriving DecidableEq, Repr

/-- A session's key, number and counts (R303 to R306). -/
structure Session where
  num : BitVec 16
  key : BitVec 256
  /-- RB_MAX of the operator certificate, none without CHAIN. -/
  rbMax : Option (BitVec 64)
  /-- First 16 bytes of the leaf key's SHA-384. -/
  leaf16 : BitVec 128
  confirm : BitVec 128
  wrapDown : BitVec 32
  wrapUp : BitVec 32
  newest : Option (BitVec 32)
  frames : Nat
  deriving DecidableEq, Repr

/-- The exchange in progress on a port (R302). -/
inductive ExPhase where
  | none
  | startPending
  | startReady
  | verifying
  | done
  deriving DecidableEq, Repr

structure Exchange where
  phase : ExPhase
  nD : BitVec 256
  dD : BitVec 384
  response : List Byte
  /-- Fragments received: index and bytes. -/
  frags : List (Nat × List Byte)
  cnt : Nat
  /-- Result code of the exchange (Table 11-10). -/
  code : BitVec 8
  /-- Number and CONFIRM of the session that a successful OFFER gave (R302). -/
  num : BitVec 16
  confirm : BitVec 128
  deriving DecidableEq, Repr

/-- The upstream slice that every upstream frame repeats (R283). -/
structure Response where
  seq : Byte
  op : Byte
  len : Nat
  status : Byte
  addr : BitVec 32
  arg : BitVec 32
  data : List Byte
  deriving DecidableEq, Repr

/-- A trace readout in progress (R372): buffer, slots left, next index, end. -/
structure TraceRead where
  buf : Bool
  slots : List Nat
  first : Nat
  next : Nat
  stop : Nat
  deriving DecidableEq, Repr

structure LinkPort where
  lane : Lane
  carrier : Bool
  txOn : Bool
  session : Option Session
  pendSess : Option Session
  counter : BitVec 16
  untrusted : Bool
  auto : Bool
  crcRun : Nat
  accRun : Nat
  rate : BitVec 3
  streams : Nat
  frame : BitVec 32
  /-- Arrivals of the last 64 frames, newest first: counter and time in 1/1,024 tick (R76, R80). -/
  stamps : List (BitVec 32 × Nat)
  /-- Newest FRAME of R271, admitted frames counted as accepted. -/
  newest : Option (BitVec 32)
  errCrc : BitVec 16
  errFormat : BitVec 16
  errAuth : BitVec 16
  errStale : BitVec 16
  /-- The last 1,024 frames that passed their CRC, newest first: rejected. -/
  rejWin : List Bool
  conceal : BitVec 32
  missing : BitVec 96
  switchCount : BitVec 16
  lastCause : BitVec 3
  evtDrop : BitVec 16
  rptDrop : BitVec 16
  mbValid : Bool
  mbSeq : Byte
  resp : Response
  bulkIgnored : BitVec 16
  /-- Samples of the last 8 accepted frames, newest first (R279). -/
  shadow : List (BitVec 32 × List Int)
  evtQ : List EvMsg
  rptQ : List (List Byte)
  jrnRead : Option (Nat × Nat)
  trcRead : Option TraceRead
  attest : Option (BitVec 256)
  attestQ : List (List Byte)
  recSeq : List Nat
  upSeq : BitVec 32
  /-- The last upstream frame sent (R287). -/
  tx : List Byte
  ex : Exchange
  deriving DecidableEq, Repr

/-- Which port plays, and the switch that waits (R277 to R281). -/
structure Link where
  active : Option Port
  /-- A pending switch away from the active port, with its cause. -/
  pendSwitch : Option (BitVec 3)
  /-- A switch whose trigger found the other port READY: it happens at the next boundary (R278). -/
  dueSwitch : Option (BitVec 3)
  /-- A TAKE accepted for the next boundary. -/
  pendTake : Option Port
  inputLost : Bool
  /-- Ticks since the active port's last accepted frame. -/
  silent : Nat
  /-- Sum and number of the differences of arrival of port B after port A for equal counters, 1/1,024 tick (R80). -/
  arrSum : Int
  arrCount : Nat
  /-- What switches have removed from the phase detector, 1/1,024 tick (R80). -/
  arrOffset : Rat
  deriving DecidableEq, Repr

/-! ## Streams and tracker -/

/-- One stream slot: samples written and not yet read, and the window (R74, R273, R274). -/
structure SlotBuf where
  /-- Positions above those read, with their samples. -/
  raw : List (BitVec 32 × Int)
  /-- The last values read, newest first, at most 64. -/
  win : List Int
  /-- h and m of the running or continued concealment. -/
  held : Int
  m : Nat
  /-- Next recovery position 1 to 8, 0 when none. -/
  recov : Nat
  deriving DecidableEq, Repr

structure Streams where
  slots : Vector SlotBuf 96
  /-- p in units of 2⁻³², modulo 2⁶⁴; meaningless while not placed. -/
  p : BitVec 64
  placed : Bool
  /-- Newest frame counter received on the active port. -/
  newest : BitVec 32
  ratio : Rat
  /-- Phase error of the last accepted frame against the arrival that p predicts, in frames (R76). -/
  phase : Rat
  /-- Frequency state of the second-order loop, frames a tick above nominal. -/
  loopState : Rat
  locked : Bool
  holdover : Bool
  clamped : Bool
  wide : Bool
  acqTicks : Nat
  ppm : BitVec 16
  /-- Positions read since the reset or acceptance (R99). -/
  since : Nat
  /-- Unconcealed positions in a row (R273). -/
  cleanRun : Nat
  deriving DecidableEq, Repr

/-- MTB window settings and counters kept by SYNC (Tables 3-4 to 3-6, 5-5, 16-18). -/
structure Mtb where
  lag : BitVec 5
  /-- LAG in force since the last synchronising reset (R102). -/
  lagNow : BitVec 5
  rate : BitVec 3
  slips : BitVec 16
  clipCount : BitVec 16
  clipSlot : BitVec 7
  refSrc : BitVec 2
  refLocked : Bool
  refRun : Nat
  refChanges : BitVec 8
  xtalOk : Bool
  xtalRuns : Bool
  /-- Consecutive ticks for which the amplitude detector has held (R49). -/
  xtalHold : Nat
  mainsSrc : MainsSrc
  mainsChanges : BitVec 14
  mainsPeriod : BitVec 24
  /-- MTB cycles since phase 0 at the running tick's start. -/
  mainsCycles : Nat
  /-- REP fades to 0 under R146: ticks left. -/
  repFade : Nat
  /-- Period that the running fade of REP plays at, 0 for none. -/
  repPeriod : Nat
  /-- Learning waits for the first complete period. -/
  mainsFresh : Bool
  /-- Measured edge intervals, newest first, MTB cycles; cycles since the last edge, a second where none has come. -/
  edges : List Nat
  edgeAge : Nat
  /-- Ripple path of R146: high-pass state, last sign, intervals, minimum and maximum. -/
  ripHp : Rat
  ripPrev : Rat
  ripAge : Nat
  ripEdges : List Nat
  ripMin : Rat
  ripMax : Rat
  /-- Peak-to-peak ripple over the last interval. -/
  ripPp : Rat
  coreSum : Int
  coreCount : Nat
  coreTemp : BitVec 16
  tjMax : BitVec 16
  tjDie : BitVec 3
  deriving DecidableEq, Repr

/-! ## Two-wire port -/

/-- Phases of a transaction at the port (R354, R361). -/
inductive TwPhase where
  | idle
  | pointer
  | write
  | read
  | deaf
  deriving DecidableEq, Repr

structure Twp where
  clocked : Bool
  araEn : Bool
  /-- ADDR2-ADDR0 at the last START (Table 14-2). -/
  addr : BitVec 3
  /-- The levels of ADDR2-ADDR0 as a START on the bus last showed them; the board ties them, and no reset reaches
  them (R326). -/
  pins : Option (BitVec 3)
  answered : Bool
  caps : BitVec 8
  sdaReleases : BitVec 8
  unfinished : BitVec 8
  trans : BitVec 32
  window : Byte
  pointer : Byte
  phase : TwPhase
  /-- Window current at the transaction's first START. -/
  txWindow : Byte
  /-- Staged bytes in the order in which each offset was first staged. -/
  staged : List (Byte × Byte)
  /-- The matrix served no burst of M4 in the last tick (R358). -/
  held : Bool
  /-- A commit in flight: its window and staged bytes (R358). -/
  flight : Option (Byte × List (Byte × Byte))
  /-- The port stretches SCL before the acknowledge bit of its address while a commit is in flight (R358). -/
  ackDue : Bool
  /-- A byte of a read phase waits for its register, and whether the host acknowledges it (R358). -/
  readDue : Option Bool
  /-- Snapshot of one register: first offset and bytes. -/
  snap : Option (Nat × List Byte)
  /-- The byte last put on SDA. -/
  out : Byte
  /-- Bytes read as 0xFF for the rest of the transaction (R358). -/
  mute : Bool
  /-- The last address was acknowledged. -/
  acked : Bool
  /-- Snowdrop holds SCL low after the address of a wake (R359). -/
  wakeHeld : Bool
  /-- The wake event is still to be raised (R359). -/
  wakeEvt : Bool
  deriving DecidableEq, Repr

/-! ## Twin -/

/-- A carried command (Table 9-4). -/
structure CmdEntry where
  kind : Byte
  code : Byte
  origin : Byte
  apply : BitVec 32
  mask : BitVec 64
  cause : Byte
  deriving DecidableEq, Repr

/-- Part A of the frame used in the running tick (R240). -/
structure PartA where
  cur : List (BitVec 24)
  half : List Byte
  gain : List Nat
  deriving DecidableEq, Repr

/-- A farewell in progress: which side this device is, and the handover tick. -/
structure Farewell where
  leaving : Bool
  handover : Nat
  done : Bool
  deriving DecidableEq, Repr

/-- Phases of a rejoin of one channel (R261). -/
inductive RejoinPhase where
  | none
  /-- The solo half fades out; not before this tick is the out half enabled. -/
  | fadeOut (ready : Nat)
  /-- The out half has received ENABLE; it has to leave OFF by this tick. -/
  | enable (until_ : Nat)
  /-- The out half takes part: it leaves OFF by this tick, and ramps. -/
  | out (until_ : Nat)
  deriving DecidableEq, Repr

structure Twin where
  laneUp : Bool
  /-- Tick at which the lane came up (Table 9-10). -/
  laneUpAt : Nat
  tbLock : Bool
  joined : Bool
  live : Bool
  soloAll : Bool
  farewellSent : Bool
  farewellRx : Bool
  joinCode : BitVec 4
  lastLoss : BitVec 2
  lead : BitVec 64
  solo : BitVec 64
  mismatch : BitVec 64
  rejoinMask : BitVec 64
  crcErrs : BitVec 16
  missed : BitVec 16
  losses : BitVec 16
  twinHead : BitVec 64
  tbErr : BitVec 16
  /-- Consecutive good and missed frames. -/
  goodRun : Nat
  missRun : Nat
  /-- A frame for the running tick was accounted for. -/
  frameSeen : Bool
  part : Option PartA
  /-- TERM of the frame of the previous tick, binary32. -/
  term : List (BitVec 32)
  partnerPlan : Option TwinPlan
  /-- The twin's tick count in the running tick: that of its last frame, counted on. -/
  partnerTick : BitVec 32
  digestsSeen : BitVec 64
  /-- Boundary of silence (R255), and whether the line sampled low in the first twin slot after it (R257). -/
  silentAt : Option Nat
  lossLow : Option Bool
  waitOver : Bool
  /-- Samples of the life line: tick of the last low sample; tick of the first drive. -/
  lastLow : Option Nat
  drivenSince : Option Nat
  /-- Entries to send, and entries that wait for APPLY, oldest first. -/
  outQ : List CmdEntry
  /-- With whether the entry came from the twin. -/
  applyQ : List (Bool × CmdEntry)
  /-- Part B of the frame of the running tick, used from the next tick on (R240). -/
  partB : Option (List Byte)
  /-- LEAD bits of the twin's last frame. -/
  partnerLead : BitVec 64
  farewell : Option Farewell
  /-- The twin's held patch: PATCH_MATCH and proposed tick. -/
  heldMsg : Option (BitVec 128 × BitVec 32)
  /-- Fit results that both halves apply, with the tick of each. -/
  fitQ : List (BitVec 32 × List Byte)
  /-- Messages to send in SLOW: kind and bytes. -/
  slowQ : List (Byte × List Byte)
  rejoin : Vector RejoinPhase 64
  rejoinPlay : BitVec 64
  hb : BitVec 16
  /-- The last Sweetpea frame sent (R239). -/
  tx : List Byte
  /-- This device pulls TWIN_PRES_N low in the running tick (R256). -/
  pull : Bool
  deriving DecidableEq, Repr

/-! ## Trace, injection, peek -/

/-- A trace buffer: descriptor and samples (Table 15-3). -/
structure TrcBuf where
  run : BitVec 32
  trigPos : BitVec 32
  tick0 : BitVec 32
  trigFrame : BitVec 32
  complete : Bool
  invalid : Bool
  trigSrc : BitVec 3
  decim : BitVec 4
  mean : Bool
  slots : List (BitVec 16)
  /-- Samples of the 16 slots, newest first, binary32. -/
  data : List (List (BitVec 32))
  count : Nat
  /-- Words with an uncorrectable error: slot and index. -/
  badWords : List (Nat × Nat)
  deriving DecidableEq, Repr

structure TrcRam where
  buf0 : TrcBuf
  buf1 : TrcBuf
  capA : List (BitVec 32)
  capB : List (BitVec 32)
  /-- Buffer that holds the last completed run. -/
  lastDone : Option Bool
  lastRun : BitVec 32
  deriving DecidableEq, Repr

inductive TrcState where
  | idle
  | armed
  | triggered
  deriving DecidableEq, Repr

structure Trc where
  decim : BitVec 4
  mean : Bool
  pinBuf : Bool
  pre : BitVec 16
  evtEn : Bool
  thrEn : Bool
  frameEn : Bool
  evtSrc : Byte
  evtIndex : Byte
  thrSlot : BitVec 4
  thrMode : BitVec 2
  thrLevel : BitVec 32
  trcFrame : BitVec 32
  slots : Vector (BitVec 16) 16
  state : TrcState
  target : Bool
  cfgRefused : Bool
  armPending : Bool
  manualTrig : Bool
  /-- An event and a frame that match occurred in the running tick. -/
  evtHit : Bool
  frameHit : Bool
  /-- The compared slot crossed its threshold. -/
  thrHit : Bool
  /-- A condition held in the tick whose sample is the newest recorded one. -/
  trigLate : Bool
  /-- Last undecimated value of the compared slot. -/
  thrLast : Option Rat
  /-- Partial decimation sums and ticks. -/
  accSums : List Rat
  accCount : Nat
  /-- Samples to record after the trigger. -/
  left : Nat
  pinBusy : Bool
  /-- The buffer that the pin stream took. -/
  pinFrom : Bool
  /-- The pin stream: the block being sent and those after it, edges at 0x0 before it, and how many lie between blocks (R373). -/
  pinRead : Option TraceRead
  pinWait : Nat
  pinGap : Nat
  /-- Nibbles sent of the block, and those still to send once its FLAGS have gone out. -/
  pinSent : Nat
  pinData : List (BitVec 4)
  /-- The nibble driven. -/
  pinOut : BitVec 4
  deriving DecidableEq, Repr

structure Flx where
  ch : BitVec 6
  point : BitVec 2
  signal : BitVec 2
  mlsOrder : BitVec 4
  capSync : Bool
  level : BitVec 8
  freq : BitVec 32
  capSelA : BitVec 5
  capSelB : BitVec 5
  injOn : Bool
  capRun : Bool
  capDone : Bool
  refused : Bool
  reason : BitVec 4
  capIdx : BitVec 14
  /-- Running injection: captured channel, point, signal, order, level, frequency. -/
  injCh : Chan
  injPoint : BitVec 2
  injSignal : BitVec 2
  injOrder : Nat
  injLevel : Nat
  injFreq : Rat
  injT : Nat
  /-- Ticks left of the fade-out of R376. -/
  injFade : Option Nat
  mls : BitVec 16
  noise : List (BitVec 31)
  capWait : Bool
  capCh : Chan
  capCount : Nat
  deriving DecidableEq, Repr

/-- Page states (Table 16-21). -/
inductive PageState where
  | empty
  | loading
  | valid
  | stale
  | error
  deriving DecidableEq, Repr

structure Coef where
  sel : BitVec 32
  /-- The selector of the last accepted load (R389). -/
  asked : BitVec 32
  state : PageState
  code : BitVec 8
  count : BitVec 8
  tick : BitVec 32
  words : List (BitVec 32)
  deriving DecidableEq, Repr

end Sys2Proof.Machine
end

