-- ==== Sys2Proof/Machine/Num.lean ====
section
/-! DEFINITION. Numbers: rounding, fixed point, binary32, byte order, CRC-32. R3, R6, R11, R72, R73. -/

namespace Sys2Proof.Machine

/-- 2 to an integer power. -/
def pow2 (e : Int) : Rat := if 0 ≤ e then (2 ^ e.toNat : Nat) else 1 / ((2 ^ (-e).toNat : Nat) : Rat)

/-- To the nearest integer, ties to even (R73). -/
def roundEven (q : Rat) : Int :=
  let f := q.floor
  let d := q - f
  if d < 1 / 2 then f else if 1 / 2 < d then f + 1 else if f % 2 = 0 then f else f + 1

/-- Divide an integer by 2^k, to nearest with ties to even (R73) (assumption 35). -/
def shiftEven (x : Int) (k : Nat) : Int :=
  let m : Int := (2 ^ k : Nat)
  let q := x / m
  let r := x % m
  if 2 * r < m then q else if m < 2 * r then q + 1 else if q % 2 = 0 then q else q + 1

/-- Two's complement wrap to 64 bits: Q4.60 modulo 16 (R72). -/
def wrap64 (x : Int) : Int := (x + 2 ^ 63) % 2 ^ 64 - 2 ^ 63

/-- Clamp an integer. -/
def clampI (lo hi x : Int) : Int := if x < lo then lo else if hi < x then hi else x

/-- Clamp a rational. -/
def clampR (lo hi x : Rat) : Rat := if x < lo then lo else if hi < x then hi else x

def absR (x : Rat) : Rat := if x < 0 then -x else x

def minR (x y : Rat) : Rat := if x ≤ y then x else y

def maxR (x y : Rat) : Rat := if x ≤ y then y else x

/-- Saturating increment of a counter field. -/
def satInc {w : Nat} (b : BitVec w) : BitVec w := if b.toNat + 1 < 2 ^ w then b + 1 else b

/-- Saturating addition to a counter field. -/
def satAdd {w : Nat} (b : BitVec w) (n : Nat) : BitVec w :=
  if b.toNat + n < 2 ^ w then b + BitVec.ofNat w n else BitVec.ofNat w (2 ^ w - 1)

/-! ## Bytes -/

/-- Least significant byte first (R6, R11). -/
def leBytes (n : Nat) (v : Nat) : List Byte := (List.range n).map fun i => BitVec.ofNat 8 (v >>> (8 * i))

/-- Most significant byte first, for digests, keys and tags (R11). -/
def beBytes (n : Nat) (v : Nat) : List Byte := (leBytes n v).reverse

/-- The number that bytes spell, least significant first. -/
def leNat (l : List Byte) : Nat := l.foldr (fun b acc => b.toNat + 256 * acc) 0

/-- The number that bytes spell, most significant first. -/
def beNat (l : List Byte) : Nat := leNat l.reverse

/-- A slice of a byte string; absent bytes read 0. -/
def slice (l : List Byte) (off n : Nat) : List Byte :=
  let t := (l.drop off).take n
  t ++ List.replicate (n - t.length) 0

/-- A little-endian field of a byte string. -/
def field (l : List Byte) (off n : Nat) : Nat := leNat (slice l off n)

def byteAt (l : List Byte) (i : Nat) : Byte := l.getD i 0

/-- Bytes of ASCII text. -/
def ascii (t : String) : List Byte := t.toList.map fun c => BitVec.ofNat 8 c.toNat

/-- Replace the bytes from an offset on. -/
def overlay (l : List Byte) (off : Nat) (bs : List Byte) : List Byte :=
  l.take off ++ bs ++ l.drop (off + bs.length)

/-- First 16 bytes of a digest (R345). -/
def first16 (d : BitVec 384) : BitVec 128 := BitVec.ofNat 128 (d.toNat >>> 256)

/-- Set position j of a list that is 0 beyond its end. -/
def lset {α : Type} (z : α) : List α → Nat → α → List α
  | [], 0, v => [v]
  | [], j + 1, v => z :: lset z [] j v
  | _ :: t, 0, v => v :: t
  | a :: t, j + 1, v => a :: lset z t j v

/-! ## binary32 -/

/-- The value of a binary32 pattern; none for a NaN or an infinity. -/
def f32Val (b : BitVec 32) : Option Rat :=
  let n := b.toNat
  let e : Nat := n / 2 ^ 23 % 256
  let m : Nat := n % 2 ^ 23
  if e = 255 then none
  else
    let a : Rat := if e = 0 then (m : Rat) * pow2 (-149) else ((m + 2 ^ 23 : Nat) : Rat) * pow2 ((e : Int) - 150)
    some (if n / 2 ^ 31 = 1 then -a else a)

/-- The value of a finite pattern, 0 for a NaN or an infinity (assumption 9). -/
def f32 (b : BitVec 32) : Rat := (f32Val b).getD 0

/-- The exponent e with 2^e ≤ q < 2^(e+1), for q > 0. -/
def expOf (q : Rat) : Int :=
  let e : Int := (Nat.log2 q.num.natAbs : Int) - (Nat.log2 q.den : Int)
  if q < pow2 e then e - 1 else e

/-- Round to binary32, to nearest with ties to even (R366) (assumption 9). -/
def toF32 (q : Rat) : BitVec 32 :=
  if q = 0 then 0
  else
    let a := absR q
    let e := max (expOf a) (-126)
    let m := (roundEven (a / pow2 (e - 23))).toNat
    let bits := if m < 2 ^ 23 then m else ((e + 126).toNat) * 2 ^ 23 + m
    let bits := min bits 0x7F800000
    BitVec.ofNat 32 (if q < 0 then bits + 2 ^ 31 else bits)

/-- A peak register after a magnitude (R7, R119): the larger of the two, a pattern that is no finite number
counting as 0 but for +infinity, which stays (assumption 29). -/
def peakBits (b : BitVec 32) (q : Rat) : BitVec 32 :=
  if b = 0x7F800000 then b else if f32 b < q then toF32 q else b

/-- A quotient of measured values: by 0, which the manual gives no value, it is a free one (assumption 96). -/
def quot (a b : Rat) : Rat := if b = 0 then Config.overZero a else a / b

/-- A decimal bound or default rounded to the nearest binary32 (R54) (assumption 9). -/
def rnd32 (q : Rat) : Rat := f32 (toF32 q)

/-- The digits of an attenuation code: 0.25 dB units, saturating at 0xFF (R218). -/
def attCode (db : Rat) : BitVec 8 := BitVec.ofNat 8 (clampI 0 255 (roundEven (-4 * db))).toNat

/-! ## CRC-32 (IEEE 802.3) -/

def crcStep (c : BitVec 32) : BitVec 32 :=
  if c.getLsbD 0 then (c >>> 1) ^^^ 0xEDB88320#32 else c >>> 1

def crcByte (c : BitVec 32) (b : Byte) : BitVec 32 :=
  let x := c ^^^ b.setWidth 32
  crcStep (crcStep (crcStep (crcStep (crcStep (crcStep (crcStep (crcStep x)))))))

/-- CRC-32 over bytes (R239, R267). -/
def crc32 (l : List Byte) : BitVec 32 := ~~~ (l.foldl crcByte 0xFFFFFFFF#32)

end Sys2Proof.Machine
end

