-- ==== Sys2Proof/Machine/Sources.lean ====
section
/-! DEFINITION. The event sources of Table 13-1: source s = 8 × group + bit. -/

namespace Sys2Proof.Machine.Ev

def accessDenied : Nat := 0
def burstCut : Nat := 1
def eccCorrected : Nat := 2
def storeUncorrectable : Nat := 3
def parkRefused : Nat := 4
def halt : Nat := 5
def deviceCommandRefused : Nat := 6
def paceMiss : Nat := 8
def paceFault : Nat := 9
def coilDeadlineMiss : Nat := 10
def dieDeadlineMiss : Nat := 11
def pilotDeadlineMiss : Nat := 12
def rippleDeadlineMiss : Nat := 13
def identDeadlineMiss : Nat := 14
def blockExponentOverflow : Nat := 15
def pvddDip : Nat := 16
def pvddShutdown : Nat := 17
def pvddRecovered : Nat := 18
def vio : Nat := 19
def warningLevelRefused : Nat := 20
def mute : Nat := 21
def referenceLost : Nat := 22
def mainsSource : Nat := 23
def buildAccepted : Nat := 24
def buildRefused : Nat := 25
def segmentError : Nat := 26
def patchAccepted : Nat := 27
def patchOverflow : Nat := 28
def journalFailed : Nat := 29
def journalGap : Nat := 30
def bootFailed : Nat := 32
def keeperReady : Nat := 33
def keeperFailed : Nat := 34
def enrolled : Nat := 35
def securityRefused : Nat := 36
def rollbackAdvanced : Nat := 37
def rollbackFull : Nat := 38
def rngFailed : Nat := 39
def sessionEstablished : Nat := 40
def sessionEnded : Nat := 41
def sessionAge : Nat := 42
def debugLocked : Nat := 43
def testMode : Nat := 44
def injectionLocked : Nat := 45
def carrierLost : Nat := 48
def lockLost : Nat := 49
def frameCrc : Nat := 50
def frameFormat : Nat := 51
def frameAuth : Nat := 52
def portUntrusted : Nat := 53
def mailboxError : Nat := 54
def portTakeRefused : Nat := 55
def portSwitch : Nat := 64
def concealmentStart : Nat := 65
def missingStream : Nat := 66
def inputLost : Nat := 67
def upstreamDrop : Nat := 68
def trackerSlip : Nat := 72
def trackerClamp : Nat := 73
def streamClip : Nat := 74
def synchronisingReset : Nat := 75
def lagRefused : Nat := 76
def filterOutputSaturation : Nat := 80
def bankRequestRefused : Nat := 81
def bankRequestReplaced : Nat := 82
def bankSwapComplete : Nat := 83
def fadeLengthRefused : Nat := 84
def demandClamp : Nat := 88
def followingError : Nat := 89
def lostFeedback : Nat := 90
def loopClosed : Nat := 91
def channelTrip : Nat := 92
def channelCommandRefused : Nat := 93
def tableEdge : Nat := 96
def reClamp : Nat := 97
def estimatorRange : Nat := 98
def learnerClamp : Nat := 99
def identificationStart : Nat := 100
def identificationResult : Nat := 101
def identificationRefused : Nat := 102
def laneError : Nat := 104
def stageDieLost : Nat := 105
def stageDieRestored : Nat := 106
def feedbackFault : Nat := 107
def currentLimit : Nat := 108
def rampLengthRefused : Nat := 109
def excursionGuard : Nat := 112
def coilLimit : Nat := 113
def coilOver : Nat := 114
def dieFoldBack : Nat := 115
def dieShutdown : Nat := 116
def shortTrip : Nat := 117
def shortLatch : Nat := 118
def openLoad : Nat := 119
def diagnosticReference : Nat := 120
def diagnosticClass : Nat := 121
def twinJoined : Nat := 128
def twinLost : Nat := 129
def twinMismatch : Nat := 130
def shareFault : Nat := 131
def twinSolo : Nat := 132
def farewellRefused : Nat := 133
def rejoinRefused : Nat := 134
def stretchCap : Nat := 136
def sdaRelease : Nat := 137
def wake : Nat := 138
def alertResponse : Nat := 139
def traceTrigger : Nat := 144
def traceComplete : Nat := 145
def traceInvalid : Nat := 146
def captureComplete : Nat := 147
def blockRemoved : Nat := 152

/-- Groups 0x06 and 0x07 assign the link sources to port A and port B. -/
def ofPort (p : Port) (s : Nat) : Nat := s + 8 * p.num

end Sys2Proof.Machine.Ev
end

