-- ==== Sys2Proof/Machine/State.lean ====
section
/-! DEFINITION. The state of the block, its queue of waiting commands, the state right after reset,
and the reasons a command can stop. -/

namespace Sys2Proof.Machine

/-- Why a command ends in a fault. -/
inductive Fault where
  /-- Raised by TICK_BOUNDARY and REGISTER_WRITE whose operands are not well formed (`Instr.wf`): no
  such step happens on the hardware. Safe: the model stops. -/
  | illFormed
  deriving DecidableEq, Repr

/-- Why a command is refused by the model. -/
inductive Refusal where
  /-- Answered by a command of the table that this model gives no meaning yet. Safe: the model
  stops. -/
  | notModelled (mnemonic : String)
  deriving DecidableEq, Repr

/-- The state: every block of Table 12-8, and the queue of waiting commands. -/
structure State where
  /-- Commands that wait, first in, first out. -/
  pending : List Instr
  /-- The model's own count of tick boundaries, never reset: it times what rules count in ticks. -/
  now : Nat
  /-- The model's own counter of free values drawn (assumption 7). -/
  fresh : Nat
  dev : Dev
  fuse : Fuses
  snow : Snow
  keeper : Keeper
  win : SecWin
  pwr : Pwr
  mx : Matrix
  pace : Pace
  ldr : Loader
  bld : Bld
  /-- The keeper's working RAM (T0). -/
  ram : Mem
  evt : Events
  bank0 : Bank
  bank1 : Bank
  bank2 : Bank
  bank4 : Bank
  jrn : Journal
  portA : LinkPort
  portB : LinkPort
  link : Link
  stm : Streams
  mtb : Mtb
  chans : Vector Channel 64
  dies : Vector DieState 8
  twp : Twp
  swp : Twin
  ram6 : TrcRam
  trc : Trc
  flx : Flx
  coef : Vector Coef 16
  tap : Tap
  /-- Staged beats of registers wider than 32 bits: master, address, byte (R34). -/
  wide : List (Master × Nat × Byte)
  deriving DecidableEq, Repr

/-! ## Reset values -/

def ChLoop.reset : ChLoop :=
  { uvHold := false, resume := .off, phi := 98304, fading := .none, fadeStep := 0, quietFrom := .openLoop,
    openCause := 0, intSat := false, demandClamp := false, ovl := false, invalid := false,
    frozen := false, bfOvf := false, bfActing := false, curValid := true, curOvl := false, paceMiss := false, feCount := 0, fePeak := 0, feDue := false, feSuspect := false, shaped := false, dropSent := false, dropTimes := [],
    dropTotal := 0, lastDrop := none, lastPaceMiss := none, paceFaultRun := 0, integ := 0, tC := 0,
    tLeft := 0, lastFb := 0, clampSign := 0, suspect := false, suspectMask := 0, lastV := 0,
    lastI := 0, sameV := 0, sameI := 0, okRun := 0, setpoint := 0, staged := 0, coilDm := false,
    pilotDm := false, rippleDm := false, identDm := false, coilFallback := false, coilMissRun := 0,
    closing := false, ramped := false, uvResume := false, lfReported := false,
    runPlay := false, devPlay := false, heldCmds := [], resetPending := false, probes := [] }

def ChModel.reset : ChModel :=
  { fwd := false, tableEdge := false, xClamp := false, xClampActing := false, reClamp := false,
    reSrc := 0, x := 0, v := 0, a := 0, vRaw := 0, aRaw := 0, uPrev := 0, iPrev := 0, reT := 0,
    rePilot := none, xf := 0, vf := 0, cf := 0, xp := 0, vp := 0, xT := 0, vT := 0, aT := 0,
    tS1 := 0, tS2 := 0, ffPrev := 0, xpR := 0, vpR := 0 }

def ChLearn.reset : ChLearn :=
  { table := [], sums := [], counts := [], tainted := true, ready := none, clamped := false,
    lastDiscarded := false, updates := 0 }

def ChIdent.reset : ChIdent := { running := false, t := 0, fitPending := false, samples := [] }

def ChProt.reset : ChProt :=
  { gX := 1, gV := 1, gC := 1, gD := 1, gF := 1, gL := 1, gUsed := 1, reqs := [], line := [], la := 0,
    laPending := false, guardFlag := false, guardActing := false, xPred := 0, vPred := 0, cPred := 0,
    xpPred := 0, vpPred := 0, vCeil := false, ceilRatio := none, dip := false, vLow := 0,
    dipCap := none, dipRelease := none, tc := 0, tm := 0, coilCap := false, coilAge := 0, correction := none,
    powSum := 0, powRel := 0, coilLimit := false, coilOver := false, muted := false,
    openWarn := false, blkU := 0, blkI := 0, blkCount := 0, openRun := 0, openActed := false,
    openMs := 0,
    peakX := 0, check := none, chkUre := 0, chkUim := 0, chkIre := 0, chkIim := 0 }

def ChDiag.reset : ChDiag :=
  { cls := 0, raw := 0, pilotOn := false, pilVal := false, reVal := false, fsVal := false,
    cohVal := false, re := 0, tpil := 0, zre := 0, zim := 0, fs := 0, coh := 0,
    regs := List.replicate 6 0, regFlags := 0, weight := 0, window := [], snap := [], snapTc := 0, rptDue := false, pilA := 0, pilF := 0, hist := [], slow := [], slowAge := 0, frameDue := none, pilotEst := false,
    impEst := false, estSeen := false, progRun := 0, sii := [], suu := [], siuRe := [], siuIm := [],
    frames := 0, runCode := 0, runLen := 0, noRaw := 0, recal := false, xPil := 0, vPil := 0,
    cPil := 0, xpPil := 0, vpPil := 0 }

def ChTwin.reset : ChTwin :=
  { shareP := 0, shareI := 0, shareSat := false, satRun := 0, partnerState := 0, partnerHiz := false,
    uvWait := 0, uvRampDone := false, roleNew := false, shareFaulted := false, outHeld := false }

def ChFg.reset : ChFg :=
  { phase := .idle, pos := 0, len := 0, waitStart := false, incoming := false, secA := [], secB := [],
    firA := [], firB := [] }

def ChFgKeep.reset : ChFgKeep :=
  { active := false, latched := none, fadeLen := 0x0200, settle := 0x0030, sat := 0, satNow := false, gainFrom := [],
    gainPos := 64 }

def ChKeep.reset : ChKeep :=
  { holdOpen := false, playOnRecover := true, tripCause := 0, tripAt := 0, wasPlaying := false, tripFrom := .off, tripCheck := 0, freeze := false,
    pilotOff := false, shortLatch := false, retries := 0, retryAt := none, shorts := 0, result := 0,
    fits := 0, fit := { re := 0, le := 0, bl := 0, kms := 0, rms := 0, resid := 0 },
    idAtStartDone := false, cal := false, fsRefSet := false, fsWait := false, zcalRe := 0,
    zcalIm := 0, reCal := 0, fsRef := 0, seq := 0, fbFault := false, feTicks := 0x00F00, feLim := 0 }

def StageStat.reset : StageStat :=
  { bridge := 0, modRun := false, locked := false, limiting := false, freq := 0, depth := 0 }

def ClsSlot.reset : ClsSlot := { run := none, missDue := false }

def ChCls.reset : ChCls := { coil := .reset, pilot := .reset, ripple := .reset, ident := .reset }

def ChIssue.reset : ChIssue := { tc := 0, rePilot := none, table := [], cap := false, fallback := false }

def ChStage.reset : ChStage :=
  { bridge := 0, modRun := false, stat := .reset, refFrom := 0, refTo := 0, inRange := 0, freqs := [],
    depths := [], actCycles := [], forced := [], acts := 0, actsTick := 0, lastAct := none, cm := 0, rate := 0, rampDone := false, fbBad := false }

def Channel.reset : Channel :=
  { st := .off, cls := .reset, issue := .reset, loop := .reset, model := .reset, learn := .reset, ident := .reset, prot := .reset,
    diag := .reset, twin := .reset, fg := .reset, fgk := .reset, keep := .reset, stage := .reset,
    ilim := 0x5A, phaseNow := 0 }

def DieState.reset : DieState :=
  { lost := false, laneErr := false, hizLocal := false, injEn := true, injNow := true,
    rampMs := 0x14, laneErrs := 0, pvdd := 0, tj := 0, dieDm := false, dieFallback := false,
    dieMissRun := 0, upFail := false, downFail := false, failRun := 0, goodRun := 0, downRun := 0,
    shutdown := false, dT := Vector.replicate 8 0, powSum := Vector.replicate 8 0,
    powRel := Vector.replicate 8 0, tRel := 0, tModel := 0, attS := 0, attM := 0, attUse := 0, fallbackUse := false, cls := .reset, folding := false }

/-- The device right after power-on: held in reset; SYS_STATE reads BOOT (Table 12-5). -/
def Dev.reset : Dev :=
  { held := .por, state := .boot, disarming := false, haltCause := .none, refuse := 0, tick := 0, clsTick := 0,
    mutePin := false, muteRaw := false, muteLow := (false, false), twinMute := false, muteApplied := false, muteBy := 0x15, muteResume := false, muteTook := 0, muteReleasing := false, vioReleasing := false, twinReleasing := false,
    gone := [] }

/-- The fuses of a device as shipped: PROVISIONED, no owner, no rollback slot used, DBG_LOCK open
(R295, Table 17-14) (assumption 18). -/
def Fuses.shipped : Fuses :=
  { owner0 := { used := false, valid := false, hash := 0 },
    owner1 := { used := false, valid := false, hash := 0 },
    rb := List.replicate 48 { used := false, valid := false, value := 0 }, dbg := 0 }

def Snow.reset : Snow :=
  { por := true, borVaux := false, borVddin := false, pin := false, wake := false, borCount := 0,
    stored := none, wakeStretch := 0 }

def Keeper.reset : Keeper :=
  { ok := false, failed := false, rngFail := false, step := 0, fail := 0, lastCode := 0,
    lastSource := 0, signPub := 0, agreePub := 0, testSeen := false, lockNow := false,
    fuseBusy := false, rbTarget := 0, lockBusy := false, lockBy := .m0, vauxCut := false }

def SecWin.reset : SecWin :=
  { enrollOpen := none, enrollBuf := [], overflow := false, nonce := 0, enrollCheck := none,
    lockOpen := none }

def Pwr.reset : Pwr :=
  { vauxOk := false, vauxMv := 0, vddinOk := false, vioOk := false, pvddOk := false, warn := false, uv := false,
    ov := false, vioMute := false, warnLevel := 0x10, pvddMin := 0xFFFF, uvs := 0, ovs := 0,
    warns := 0, vioLosses := 0, outAt := 0, shutAt := 0, dipAt := 0, dipUv := false, pvddHigh := false }

def Matrix.reset : Matrix := { remap := false, park := 0, downTrim := true }

def Pace.reset : Pace :=
  { mxMaster := 0, mxTarget := 0, mxKind := 0, mxBeats := 0, vcore := 0x96, rise := 0,
    margin := 0x64, engine := 0, margins := [], faults := 0, calm := 0 }

def Loader.reset : Loader :=
  { phase := .idle, stage := 0, covered := [], loadBy := .m0, patchBy := .m0, owner := none, patchWords := [], patchOver := false,
    patchCheck := false, accepted := none, acceptedAt := 0, heldPatch := none, heldApply := none }

def Bld.reset : Bld :=
  { len := 0, port := false, lastKind := false, lastCode := 0,
    refuseAt := 0xFFFFFFFF, patchSeq := 0, received := 0, store := [], build := none,
    acceptedAt := 0 }

/-- Default alert masks of groups 0 to 31 (Table 13-1). -/
def defaultAlertMasks : List Nat :=
  [0x04, 0x01, 0x00, 0x00, 0x00, 0x00, 0x04, 0x04, 0x00, 0x04, 0x09, 0x09, 0x1B, 0x11, 0x02, 0x01,
   0x00, 0x08, 0x00, 0x00, 0x00, 0x00, 0x00, 0x00, 0x00, 0x00, 0x00, 0x00, 0x00, 0x00, 0x00, 0x00]

/-- The 256-bit map of a list of group bytes. -/
def groupBits (l : List Nat) : BitVec 256 :=
  BitVec.ofNat 256 (l.foldr (fun b acc => b + 256 * acc) 0)

def Events.reset : Events :=
  { flags := 0, amask := groupBits defaultAlertMasks, umask := 0, total := 0, history := [],
    raised := 0, alert := false }

def Bank.reset : Bank := { age := 0, rdSeq := 0, rdStat := 0, rdEntry := [] }

def Journal.reset : Journal :=
  { ents := [], head := 0, next := 0, chain := 0, nonce := 0, failed := false, continued := false,
    noNonce := false, dropped := 0, gap := 0, queue := [], started := false }

def Exchange.reset : Exchange :=
  { phase := .none, nD := 0, dD := 0, response := [], frags := [], cnt := 0, code := 0, num := 0, confirm := 0 }

def Response.reset : Response :=
  { seq := 0, op := 0, len := 0, status := 0, addr := 0, arg := 0, data := [] }

def LinkPort.reset : LinkPort :=
  { lane := .down, carrier := false, txOn := false, session := none, pendSess := none, counter := 0,
    untrusted := false, auto := true, crcRun := 0, accRun := 0, rate := 7,
    streams := 0, frame := 0, stamps := [], newest := none, errCrc := 0, errFormat := 0, errAuth := 0,
    errStale := 0, rejWin := [], conceal := 0, missing := 0, switchCount := 0, lastCause := 0,
    evtDrop := 0, rptDrop := 0, mbValid := false, mbSeq := 0, resp := .reset, bulkIgnored := 0,
    shadow := [], evtQ := [], rptQ := [], jrnRead := none, trcRead := none, attest := none,
    attestQ := [], recSeq := [0, 0, 0, 0, 0], upSeq := 0, tx := [], ex := .reset }

def Link.reset : Link :=
  { active := none, pendSwitch := none, dueSwitch := none, pendTake := none, inputLost := false, silent := 0,
    arrSum := 0, arrCount := 0, arrOffset := 0 }

def SlotBuf.reset : SlotBuf := { raw := [], win := [], held := 0, m := 0, recov := 0 }

def Streams.reset : Streams :=
  { slots := Vector.replicate 96 .reset, p := 0, placed := false, newest := 0, ratio := 0, phase := 0,
    loopState := 0, locked := false, holdover := false, clamped := false, wide := false,
    acqTicks := 0, ppm := 0, since := 0, cleanRun := 0 }

def Mtb.reset : Mtb :=
  { lag := 2, lagNow := 2, rate := 7, slips := 0, clipCount := 0, clipSlot := 0, refSrc := 0,
    refLocked := false, refRun := 0, refChanges := 0, xtalOk := false, xtalRuns := false, xtalHold := 0,
    mainsSrc := .none, mainsChanges := 0, mainsPeriod := 0, mainsCycles := 0, repFade := 0, repPeriod := 0,
    mainsFresh := true, edges := [], edgeAge := 24576000, ripHp := 0, ripPrev := 0, ripAge := 24576000,
    ripEdges := [], ripMin := 0, ripMax := 0, ripPp := 0, coreSum := 0, coreCount := 0, coreTemp := 0,
    tjMax := 0, tjDie := 0 }

def Twp.reset : Twp :=
  { clocked := false, araEn := true, addr := 0, pins := none, answered := false, caps := 0, sdaReleases := 0,
    unfinished := 0, trans := 0, window := 0, pointer := 0, phase := .idle, txWindow := 0,
    staged := [], held := false, flight := none, ackDue := false, readDue := none, snap := none, out := 0, mute := false, acked := false,
    wakeHeld := false, wakeEvt := false }

def Twin.reset : Twin :=
  { laneUp := false, laneUpAt := 0, tbLock := false, joined := false, live := false, soloAll := false,
    farewellSent := false, farewellRx := false, joinCode := 1, lastLoss := 0, lead := 0, solo := 0,
    mismatch := 0, rejoinMask := 0, crcErrs := 0, missed := 0, losses := 0, twinHead := 0, tbErr := 0,
    goodRun := 0, missRun := 0, frameSeen := false, part := none, term := [], partnerPlan := none,
    partnerTick := 0, digestsSeen := 0, silentAt := none, lossLow := none, waitOver := false,
    lastLow := none, drivenSince := none, outQ := [], applyQ := [], partB := none, partnerLead := 0, farewell := none, heldMsg := none,
    fitQ := [], slowQ := [], rejoin := Vector.replicate 64 .none, rejoinPlay := 0, hb := 0, tx := [],
    pull := false }

def TrcBuf.reset : TrcBuf :=
  { run := 0, trigPos := 0xFFFFFFFF, tick0 := 0, trigFrame := 0, complete := false, invalid := false,
    trigSrc := 0, decim := 0, mean := false, slots := List.replicate 16 0, data := [], count := 0,
    badWords := [] }

def TrcRam.reset : TrcRam :=
  { buf0 := .reset, buf1 := .reset, capA := [], capB := [], lastDone := none, lastRun := 0 }

/-- The test-access port at power-up (assumption 87). -/
def Tap.reset : Tap := { state := .testLogicReset, inst := none, reg := [], tdo := none, captures := 0 }

def Trc.reset : Trc :=
  { decim := 0, mean := false, pinBuf := false, pre := 0x8000, evtEn := false, thrEn := false,
    frameEn := false, evtSrc := 0, evtIndex := 0xFF, thrSlot := 0, thrMode := 0, thrLevel := 0,
    trcFrame := 0, slots := Vector.replicate 16 0, state := .idle, target := false,
    cfgRefused := false, armPending := false, manualTrig := false, evtHit := false, frameHit := false, thrHit := false,
    trigLate := false,
    thrLast := none, accSums := [], accCount := 0, left := 0, pinBusy := false, pinFrom := false, pinRead := none, pinWait := 0,
    pinGap := 0, pinSent := 0, pinData := [],
    pinOut := 0 }

def Flx.reset : Flx :=
  { ch := 0, point := 2, signal := 0, mlsOrder := 13, capSync := true, level := 0x50,
    freq := 0x447A0000, capSelA := 6, capSelB := 0x14, injOn := false, capRun := false,
    capDone := false, refused := false, reason := 0, capIdx := 0, injCh := 0, injPoint := 2,
    injSignal := 0, injOrder := 13, injLevel := 0x50, injFreq := 0, injT := 0, injFade := none,
    mls := 0, noise := [], capWait := false, capCh := 0, capCount := 0 }

def Coef.reset : Coef :=
  { sel := 0, asked := 0, state := .empty, code := 0, count := 0, tick := 0, words := [] }

/-- The block right after power-on: every field at its reset value, held in reset, no command
waiting (assumptions 10 and 18). -/
def State.reset : State :=
  { pending := [], now := 0, fresh := 0, dev := .reset, fuse := .shipped, snow := .reset,
    keeper := .reset, win := .reset, pwr := .reset, mx := .reset, pace := .reset, ldr := .reset,
    bld := .reset, ram := [], evt := .reset, bank0 := .reset, bank1 := .reset, bank2 := .reset,
    bank4 := .reset, jrn := .reset, portA := .reset, portB := .reset, link := .reset, stm := .reset,
    mtb := .reset, chans := Vector.replicate 64 .reset, dies := Vector.replicate 8 .reset,
    twp := .reset, swp := .reset, ram6 := .reset, trc := .reset, flx := .reset,
    coef := Vector.replicate 16 .reset, tap := .reset, wide := [] }

end Sys2Proof.Machine
end

