-- ==== Sys2Proof/Machine/Ops.lean ====
section
/-! DEFINITION. The named operations over the state: access to channels, dies, ports and banks, byte
memories, events (R336 to R341) and journal entries (R342 to R348). -/

namespace Sys2Proof.Machine

/-- The outcome of a command. -/
abbrev Out := Host.Outcome State Fault Refusal

/-! ## Access -/

def allChans : List Chan := List.finRange 64

def allDies : List Die := List.finRange 8

def State.ch (s : State) (n : Chan) : Channel := s.chans[n]

def State.modCh (s : State) (n : Chan) (f : Channel → Channel) : State :=
  { s with chans := s.chans.set n.val (f s.chans[n]) }

def State.die (s : State) (k : Die) : DieState := s.dies[k]

def State.modDie (s : State) (k : Die) (f : DieState → DieState) : State :=
  { s with dies := s.dies.set k.val (f s.dies[k]) }

def State.port (s : State) : Port → LinkPort
  | .a => s.portA
  | .b => s.portB

def State.setPort (s : State) : Port → LinkPort → State
  | .a, l => { s with portA := l }
  | .b, l => { s with portB := l }

def State.modPort (s : State) (p : Port) (f : LinkPort → LinkPort) : State := s.setPort p (f (s.port p))

/-- The bank of a master; masters without a copy see that of M0 (R341, R350). -/
def State.bank (s : State) : Master → Bank
  | .m1 => s.bank1
  | .m2 => s.bank2
  | .m4 => s.bank4
  | _ => s.bank0

def State.setBank (s : State) (m : Master) (b : Bank) : State :=
  match m with
  | .m1 => { s with bank1 := b }
  | .m2 => { s with bank2 := b }
  | .m4 => { s with bank4 := b }
  | _ => { s with bank0 := b }

/-- Apply a change to every channel that a test picks, in channel order. -/
def State.overChans (s : State) (p : State → Chan → Bool) (f : State → Chan → State) : State :=
  allChans.foldl (fun s n => if p s n then f s n else s) s

/-- Draw a fresh free value's index (assumption 7). -/
def State.draw (s : State) : Nat × State := (s.fresh, { s with fresh := s.fresh + 1 })

/-- Bit n of a channel mask. -/
def inMask (m : BitVec 64) (n : Chan) : Bool := m.getLsbD n.val

def bitOf (n : Chan) : BitVec 64 := 1#64 <<< n.val

def setMask (m : BitVec 64) (n : Chan) (b : Bool) : BitVec 64 :=
  if b then m ||| bitOf n else m &&& ~~~ bitOf n

/-- The mask of the channels that satisfy a test. -/
def maskOf (p : Chan → Bool) : BitVec 64 :=
  allChans.foldl (fun m n => if p n then m ||| bitOf n else m) 0

/-- CH_MASK of the build in force; 0 with none. -/
def State.chMask (s : State) : BitVec 64 :=
  match s.bld.build with
  | some b => b.claim.chMask
  | none => 0

/-- The configuration of a channel, none outside CH_MASK or with no build in force. -/
def State.cfg (s : State) (n : Chan) : Option ChanCfg :=
  match s.bld.build with
  | some b => if inMask b.claim.chMask n then b.chans[n] else none
  | none => none

/-- The channel is in CH_MASK of a build in force. -/
def State.used (s : State) (n : Chan) : Bool := (s.cfg n).isSome

/-- LAW of a channel; 0 where there is none. -/
def State.law (s : State) (n : Chan) : Nat :=
  match s.cfg n with
  | some c => c.dfn.law
  | none => 0

/-- The twin plan of the build in force. -/
def State.plan (s : State) : Option TwinPlan := s.bld.build.bind (·.twin)

def State.twinned (s : State) (n : Chan) : Bool :=
  match s.plan with
  | some t => inMask t.twinMask n
  | none => false

/-- Both halves of the channel take part: it is twinned, the pair is joined, and it is not mismatched, for then
the TB leader's half alone may play it (R244) (assumption 51). -/
def State.joinedTwin (s : State) (n : Chan) : Bool := s.swp.joined && s.twinned n && ! inMask s.swp.mismatch n

/-- This device leads the channel, or the channel has no twin that could (R246). -/
def State.leads (s : State) (n : Chan) : Bool := ! s.joinedTwin n || inMask s.swp.lead n

/-- A half that follows (R247). -/
def State.follows (s : State) (n : Chan) : Bool := s.joinedTwin n && ! inMask s.swp.lead n

/-! ## Codes -/

def ChState.code : ChState → Nat
  | .off => 0
  | .rampUp => 1
  | .quiet => 2
  | .openLoop => 3
  | .closedLoop => 4
  | .tripped => 5
  | .retry => 6
  | .rampDown => 7

def ChState.ofCode : Nat → ChState
  | 1 => .rampUp
  | 2 => .quiet
  | 3 => .openLoop
  | 4 => .closedLoop
  | 5 => .tripped
  | 6 => .retry
  | 7 => .rampDown
  | _ => .off

/-- OPEN_LOOP and CLOSED_LOOP (Channel states). -/
def ChState.playing : ChState → Bool
  | .openLoop => true
  | .closedLoop => true
  | _ => false

def DevState.code : DevState → Nat
  | .standby => 0
  | .boot => 1
  | .unbuilt => 2
  | .built => 3
  | .armed => 4
  | .run => 5
  | .halt => 6

def HaltCause.code : HaltCause → Nat
  | .none => 0
  | .boot => 1
  | .store => 2
  | .lane => 3
  | .farewell => 4
  | .host => 5

/-! ## Byte memories -/

/-- What an address that nothing has written reads as (assumption 11). -/
def Mem.blank : Byte := 0

/-- Read one byte (assumption 11). -/
def Mem.read : Mem → Nat → Byte
  | [], _ => Mem.blank
  | (a, b) :: t, x => if x = a then b else Mem.read t x

/-- Write one byte, keeping the canonical form (assumption 11). -/
def Mem.write : Mem → Nat → Byte → Mem
  | [], x, v => if v = Mem.blank then [] else [(x, v)]
  | (a, b) :: t, x, v =>
    if x < a then (if v = Mem.blank then (a, b) :: t else (x, v) :: (a, b) :: t)
    else if x = a then (if v = Mem.blank then t else (a, v) :: t)
    else (a, b) :: Mem.write t x v

/-- The canonical form: addresses strictly rising, no listed byte equal to the blank byte (assumption 11). -/
def Mem.wf : Mem → Bool
  | [] => true
  | [(_, b)] => b != Mem.blank
  | (a, b) :: (c, d) :: t => b != Mem.blank && decide (a < c) && Mem.wf ((c, d) :: t)

/-- Write bytes from an address on. -/
def Mem.writes : Mem → Nat → List Byte → Mem
  | m, _, [] => m
  | m, x, b :: t => Mem.writes (Mem.write m x b) (x + 1) t

/-- Read n bytes from an address on. -/
def Mem.reads (m : Mem) (x n : Nat) : List Byte := (List.range n).map fun i => Mem.read m (x + i)

/-! ## Journal (R342 to R348) -/

/-- The active port's frame counter, all ones with no active port (Table 13-3). -/
def State.activeFrame (s : State) : BitVec 32 :=
  match s.link.active with
  | some p => (s.port p).frame
  | none => 0xFFFFFFFF

/-- The gap entry that precedes the next entry after a drop (R347). -/
def gapEntry (frame : BitVec 32) (n : Nat) : JEntry :=
  { frame := frame, src := 0x17, kind := 0x11, result := 0, index := 0xFF, digest := some 0,
    data := leBytes 4 n }

/-- Places that an entry queued now needs: its own, and that of the gap entry before it (R347). -/
def Journal.need (j : Journal) : Nat := if j.gap = 0 then 1 else 2

/-- An entry queued now is dropped: the journal RAM has failed, or the queue of 1,024 has no room (R347, R348). -/
def Journal.full (j : Journal) : Bool := j.failed || decide (1024 < j.queue.length + j.need)

/-- SEQ that an entry queued now will carry, none where it is dropped (R347, Table 13-2). -/
def Journal.nextSeq (j : Journal) : Option (BitVec 64) :=
  if j.full then none else some (j.next + BitVec.ofNat 64 (j.queue.length + j.need - 1))

/-- Queue an entry: up to 1,024 wait, a further one is dropped and counted; the next one that finds room stands after a
gap entry; none is written once the journal RAM has failed (R347, R348) (assumption 78). -/
def Journal.push (j : Journal) (e : JEntry) : Journal :=
  if j.failed then { j with dropped := satInc j.dropped }
  else if j.full then { j with dropped := satInc j.dropped, gap := j.gap + 1 }
  else if j.gap = 0 then { j with queue := j.queue ++ [e] }
  else { j with queue := j.queue ++ [gapEntry e.frame j.gap, e], gap := 0 }

/-- Journal an entry: SRC, KIND, outcome, code, INDEX, DATA, DIGEST (Table 13-3) (assumption 59). -/
def State.jot (s : State) (src kind out code idx : Nat) (data : List Byte := [])
    (digest : Option (BitVec 128) := none) : State :=
  let e : JEntry :=
    { frame := s.activeFrame, src := BitVec.ofNat 8 src, kind := BitVec.ofNat 8 kind,
      result := BitVec.ofNat 8 (out * 32 + code), index := BitVec.ofNat 8 idx, digest := digest,
      data := data }
  { s with jrn := s.jrn.push e }

/-- The register descriptor's digest (R345). -/
def regDigest (w oo : Nat) (bs : List Byte) : BitVec 128 :=
  first16 (Config.sha384 ([BitVec.ofNat 8 w, BitVec.ofNat 8 oo, BitVec.ofNat 8 bs.length] ++ bs))

/-- Journal a register write, KIND 0x01, by a master (R345). Outcome 0 accepted, 1 refused. -/
def State.jotWrite (s : State) (m : Master) (w oo : Nat) (bs : List Byte) (out : Nat) : State :=
  s.jot m.num 0x01 out 0 0xFF
    ([BitVec.ofNat 8 w, BitVec.ofNat 8 oo, BitVec.ofNat 8 bs.length] ++ bs.take 13)
    (some (regDigest w oo bs))

/-! ## Events (R336 to R341) -/

/-- Add an occurrence to the history (R341). -/
def histAdd (h : List EvMsg) (e : EvMsg) : List EvMsg :=
  match h with
  | x :: t =>
    if x.source = e.source && x.index = e.index then
      { x with count := satInc x.count, arg := e.arg } :: t
    else (e :: x :: t).take 64
  | [] => [e]

/-- Merge an occurrence into a waiting message of the same SOURCE and INDEX (R340). -/
def queueMerge (e : EvMsg) : List EvMsg → Option (List EvMsg)
  | [] => none
  | x :: t =>
    if x.source = e.source && x.index = e.index then
      some ({ x with count := satInc x.count, arg := e.arg } :: t)
    else (queueMerge e t).map (x :: ·)

/-- Queue an occurrence on a port (R289, R340). -/
def LinkPort.queueEv (l : LinkPort) (e : EvMsg) : LinkPort :=
  if l.session.isNone then l
  else
    match queueMerge e l.evtQ with
    | some q => { l with evtQ := q }
    | none =>
      if l.evtQ.length < 512 then { l with evtQ := l.evtQ ++ [e] }
      else { l with evtDrop := satInc l.evtDrop }

/-- The flag, the count and the history of an occurrence, ANSWERED under R362, and the trace trigger
on events (R369). -/
def State.noteEv (s : State) (e : EvMsg) : State :=
  let src := e.source.toNat
  let bit := 1#256 <<< src
  let newAlert := ! s.evt.flags.getLsbD src && ! s.evt.amask.getLsbD src && src != Ev.alertResponse
  let hit := e.source = s.trc.evtSrc && (s.trc.evtIndex = 0xFF || s.trc.evtIndex = e.index)
  { s with
    evt := { s.evt with
      flags := s.evt.flags ||| bit, raised := s.evt.raised ||| bit, total := s.evt.total + 1,
      history := histAdd s.evt.history e }
    twp := { s.twp with answered := s.twp.answered && ! newAlert }
    trc := { s.trc with evtHit := s.trc.evtHit || hit } }

/-- The message of an occurrence (Table 13-2) (assumption 68). -/
def State.evMsg (s : State) (src idx arg : Nat) (jseq : Option (BitVec 64)) : EvMsg :=
  { source := BitVec.ofNat 8 src, index := BitVec.ofNat 8 idx, count := 1, frame := s.activeFrame,
    arg := BitVec.ofNat 32 arg,
    jseq := match jseq with
      | some q => q.setWidth 32
      | none => 0xFFFFFFFF }

/-- Queue an occurrence on both ports unless its upstream mask suppresses it (R340) (assumption 68). -/
def State.queueEvs (s : State) (e : EvMsg) : State :=
  if s.evt.umask.getLsbD e.source.toNat then s
  else { s with portA := s.portA.queueEv e, portB := s.portB.queueEv e }

/-- The ports whose queue dropped a message in a change of state. -/
def dropped (s t : State) (p : Port) : Bool := (s.port p).evtDrop != (t.port p).evtDrop

/-- Raise an occurrence of a source with its INDEX, ARG and the SEQ of its entry (R336) (assumption 68). -/
def State.raise (s : State) (src : Nat) (idx : Nat := 0xFF) (arg : Nat := 0)
    (jseq : Option (BitVec 64) := none) : State :=
  let e := s.evMsg src idx arg jseq
  let t := (s.noteEv e).queueEvs e
  let up (t : State) (p : Port) : State :=
    if dropped s t p then
      let d := t.evMsg Ev.upstreamDrop p.num 0 none
      (t.noteEv d).queueEvs d
    else t
  up (up t .a) .b

/-- SEQ of the entry that was queued last, none where it was dropped (R347, Table 13-2). -/
def Journal.lastSeq (j : Journal) : Option (BitVec 64) :=
  if j.failed || j.gap != 0 || j.queue.isEmpty then none else some (j.next + BitVec.ofNat 64 (j.queue.length - 1))

/-- SEQ of the last entry that a change from `s` has queued, none where it queued none (Table 13-2). -/
def State.seqSince (t s : State) : Option (BitVec 64) := if t.jrn = s.jrn then none else t.jrn.lastSeq

/-- Raise the event that the entry queued last records. -/
def State.raiseLast (s : State) (src idx arg : Nat) : State := s.raise src idx arg s.jrn.lastSeq

/-- Raise an event, and then make the change whose last entry records it. -/
def State.raiseFor (s : State) (src idx arg : Nat) (f : State → State) : State :=
  f (s.raise src idx arg ((f s).seqSince s))

/-- Flags that count for ANSWERED: every source but alert-response (R362). -/
def notAlertResponse : BitVec 256 := ~~~ (1#256 <<< Ev.alertResponse)

/-- Flags that are alerting (R338). -/
def State.alerting (s : State) : BitVec 256 := s.evt.flags &&& ~~~ s.evt.amask

/-- The alert mask is loaded: ANSWERED clears when a flag becomes alerting (R362). -/
def State.loadAmask (s : State) (m : BitVec 256) : State :=
  let t := { s with evt := { s.evt with amask := m } }
  let new := t.alerting &&& ~~~ s.alerting &&& notAlertResponse
  { t with twp := { t.twp with answered := t.twp.answered && Decidable.decide (new = 0) } }

/-- Write a journal entry and raise the event that it records. -/
def State.jotRaise (s : State) (src kind out code idx : Nat) (data : List Byte) (ev evIdx arg : Nat)
    (digest : Option (BitVec 128) := none) : State :=
  let q := s.jrn.nextSeq
  (s.jot src kind out code idx data digest).raise ev evIdx arg q

/-- Raise an event when a condition begins to hold (R424). -/
def State.raiseEdge (s : State) (was is : Bool) (src idx arg : Nat) : State :=
  if is && ! was then s.raise src idx arg else s

/-! ## Masters and rights -/

/-- M0, M1, M2 and M4: the masters that the register rights name (R71, R129, R163 and others). -/
def mayWrite : Master → Bool
  | .m0 => true
  | .m1 => true
  | .m2 => true
  | .m4 => true
  | _ => false

/-! ## Denials (R32) -/

/-- Write SYS_MXLOG. -/
def State.mxLog (s : State) (m : Master) (target kind beats : Nat) : State :=
  { s with pace := { s.pace with
    mxMaster := BitVec.ofNat 3 m.num, mxTarget := BitVec.ofNat 3 target, mxKind := BitVec.ofNat 2 kind,
    mxBeats := BitVec.ofNat 5 beats } }

/-- SYS_MXLOG as two bytes (Table 1-10). -/
def Pace.mxBytes (p : Pace) : List Byte :=
  leBytes 2 (p.mxMaster.toNat + 8 * p.mxTarget.toNat + 64 * p.mxKind.toNat + 256 * p.mxBeats.toNat)

/-- Data of a KIND 0x10 entry. -/
def mxData (p : Pace) (addr : Nat) : List Byte := p.mxBytes ++ [0, 0] ++ leBytes 4 addr

/-- A denied read or write: logged, reported, and a denied write is journalled (R32) (assumption 24). -/
def State.deny (s : State) (m : Master) (target addr : Nat) (write : Bool) : State :=
  let s := s.mxLog m target 1 0
  if write then s.jotRaise m.num 0x10 2 0 0xFF (mxData s.pace addr) Ev.accessDenied 0xFF 0
  else s.raise Ev.accessDenied 0xFF 0

/-- A master without the right to write the register space is turned away (R32, Table 1-7) (assumption 24). -/
def State.denyReg (s : State) (m : Master) (w off : Nat) : State := s.deny m 3 (0x30000000 + 256 * w + off) true

/-- Registers that no rule keeps from M3, which Table 1-7 lets write T3: SYS_PACE_CTL, MTB_TRK_CTL and MTB_RS_CLIP. It writes
the CH windows only to apply carried entries (R262) (assumption 24). -/
def openReg (w off : Nat) : Bool := (w = 0 && off = 0x18) || w = 0x0C

/-- The master may write the register at an offset of a window (R32) (assumption 24). -/
def regRight (m : Master) (w off : Nat) : Bool := mayWrite m || (m = .m3 && openReg w off)

/-- A write of a register takes effect for a master with the right to write it, and is denied for another (assumption 24). -/
def State.byMaster (s : State) (m : Master) (w off : Nat) (t : State) : State :=
  if regRight m w off then t else s.denyReg m w off

end Sys2Proof.Machine
end

