-- ==== Sys2Proof/Machine/Operands.lean ====
section
/-! DEFINITION. Parameters of the tagged records: identifiers, laws, ranges and defaults (Tables 4-9,
5-2, 7-5, 8-3), and the values in force of a channel. -/

namespace Sys2Proof.Machine

/-- One row of a parameter table. `openLo`: the lower bound is excluded. `values`: the only values
accepted, empty for a range. -/
structure ParSpec where
  id : Nat
  laws : List Nat
  lo : Rat
  hi : Rat
  dflt : Rat
  openLo : Bool := false
  values : List Rat := []
  deriving DecidableEq, Repr

/-- Tables 4-9 and 5-2. Defaults that differ by law stand in `lawDefault`. -/
def lawPars : List ParSpec :=
  [ { id := 0x0001, laws := [0], lo := 1, hi := 56, dflt := 20 },
    { id := 0x0002, laws := [3], lo := 1 / 10, hi := 10, dflt := 2 },
    { id := 0x0010, laws := [1, 2, 3], lo := 0, hi := 10000, dflt := 20 },
    { id := 0x0011, laws := [1, 2, 3], lo := 0, hi := 1000000, dflt := 2000 },
    { id := 0x0012, laws := [1, 2, 3], lo := 0, hi := 56, dflt := 10 },
    { id := 0x0013, laws := [1, 2, 3], lo := 0, hi := 1000, dflt := 1 / 10, openLo := true },
    { id := 0x0014, laws := [1, 2, 3], lo := 1 / 10000, hi := 1, dflt := 2 / 100 },
    { id := 0x0015, laws := [1, 2, 3], lo := 1 / 10, hi := 10, dflt := 1 },
    { id := 0x0016, laws := [1, 2, 3], lo := 0, hi := 1, dflt := 1, values := [0, 1] },
    { id := 0x0017, laws := [1, 2, 3], lo := 0, hi := 1, dflt := 1 } ] ++
  [ { id := 0x0100, laws := [1, 2], lo := 5, hi := 500, dflt := 40 },
    { id := 0x0101, laws := [1, 2], lo := 3 / 10, hi := 2, dflt := 707 / 1000 },
    { id := 0x0102, laws := [1, 2], lo := 1, hi := 100000, dflt := 1000 },
    { id := 0x0103, laws := [1, 2], lo := -24, hi := 24, dflt := 0 },
    { id := 0x0110, laws := [0, 1, 2, 3], lo := 500, hi := 8000, dflt := 4000 },
    { id := 0x0111, laws := [0, 1, 2, 3], lo := 1 / 10, hi := 5, dflt := 1 },
    { id := 0x0112, laws := [0, 1, 2, 3], lo := 1, hi := 5 / 2, dflt := 3 / 2 },
    { id := 0x0113, laws := [0, 1, 2], lo := 1 / 10, hi := 20, dflt := 1 },
    { id := 0x0114, laws := [0, 1, 2], lo := 1, hi := 50, dflt := 7 },
    { id := 0x0115, laws := [0, 1, 2, 3], lo := 0, hi := 1 / 100000, dflt := 0 } ] ++
  [ { id := 0x0120, laws := [1, 2], lo := 0, hi := 1, dflt := 0, values := [0, 1] },
    { id := 0x0121, laws := [1, 2], lo := 5, hi := 50, dflt := 10 },
    { id := 0x0122, laws := [1, 2], lo := 200, hi := 2000, dflt := 1000 },
    { id := 0x0123, laws := [1, 2], lo := 1 / 100, hi := 2 / 10, dflt := 5 / 100 },
    { id := 0x0124, laws := [1, 2], lo := 5 / 100, hi := 5 / 10, dflt := 25 / 100 },
    { id := 0x0125, laws := [1, 2], lo := 1, hi := 56, dflt := 20 },
    { id := 0x0130, laws := [1, 2, 3], lo := 0, hi := 5 / 10, dflt := 25 / 100 },
    { id := 0x0131, laws := [1, 2, 3], lo := 0, hi := 1 / 10, dflt := 1 / 1000 },
    { id := 0x0132, laws := [1, 2, 3], lo := 0, hi := 64, dflt := 4 },
    { id := 0x0133, laws := [1, 2, 3], lo := 0, hi := 5, dflt := 2 } ]

/-- Table 7-5. -/
def protPars : List ParSpec :=
  let all := [0, 1, 2, 3]
  [ { id := 0x0200, laws := all, lo := 3, hi := 10, dflt := 9 },
    { id := 0x0201, laws := all, lo := 0, hi := 256, dflt := 0 },
    { id := 0x0202, laws := all, lo := 3 / 10, hi := 1, dflt := 9 / 10 },
    { id := 0x0203, laws := all, lo := 1 / 100, hi := 2, dflt := 2 / 10 },
    { id := 0x0204, laws := all, lo := 1, hi := 2, dflt := 12 / 10 },
    { id := 0x0205, laws := all, lo := 1, hi := 56, dflt := 56 },
    { id := 0x0206, laws := all, lo := 1 / 100, hi := 2, dflt := 2 / 10 },
    { id := 0x0210, laws := all, lo := -20, hi := 60, dflt := 35 },
    { id := 0x0211, laws := all, lo := 0, hi := 50, dflt := 25 },
    { id := 0x0212, laws := all, lo := 3 / 1000, hi := 45 / 10000, dflt := 393 / 100000 },
    { id := 0x0213, laws := all, lo := 1 / 10, hi := 50, dflt := 3 },
    { id := 0x0214, laws := all, lo := 1 / 10, hi := 500, dflt := 8 } ] ++
  [ { id := 0x0215, laws := all, lo := 1 / 10, hi := 50, dflt := 3 / 2 },
    { id := 0x0216, laws := all, lo := 10, hi := 100000, dflt := 1200 },
    { id := 0x0217, laws := all, lo := 50, hi := 300, dflt := 150 },
    { id := 0x0218, laws := all, lo := 60, hi := 320, dflt := 200 },
    { id := 0x0219, laws := all, lo := -40, hi := -3, dflt := -20 },
    { id := 0x021A, laws := all, lo := 0, hi := 5 / 10, dflt := 1 / 10 },
    { id := 0x0220, laws := all, lo := -40, hi := 0, dflt := -12 },
    { id := 0x0230, laws := all, lo := 100, hi := 4000, dflt := 400 },
    { id := 0x0231, laws := all, lo := 1 / 10, hi := 9 / 10, dflt := 1 / 2 },
    { id := 0x0232, laws := all, lo := 3 / 2, hi := 50, dflt := 8 },
    { id := 0x0233, laws := all, lo := 0, hi := 1, dflt := 1, values := [0, 1] },
    { id := 0x0234, laws := all, lo := 5, hi := 100, dflt := 20 },
    { id := 0x0235, laws := all, lo := 1 / 2, hi := 20, dflt := 2 } ]

/-- Table 8-3. PIL_F has its own rule (R219); the row's range spans both modes. -/
def diagPars : List ParSpec :=
  let all := [0, 1, 2, 3]
  [ { id := 0x0300, laws := all, lo := 0, hi := 2, dflt := 1, values := [0, 1, 2] },
    { id := 0x0301, laws := all, lo := 4, hi := 40000, dflt := 32000 },
    { id := 0x0302, laws := all, lo := -60, hi := -30, dflt := -46 },
    { id := 0x0303, laws := all, lo := 0, hi := 1, dflt := 1, values := [0, 1] },
    { id := 0x0304, laws := all, lo := 1, hi := 60, dflt := 10 },
    { id := 0x0310, laws := all, lo := 1, hi := 50, dflt := 5 },
    { id := 0x0311, laws := all, lo := 2, hi := 50, dflt := 8 },
    { id := 0x0312, laws := all, lo := 1 / 10, hi := 9 / 10, dflt := 1 / 2 },
    { id := 0x0313, laws := all, lo := 2 / 100, hi := 1 / 2, dflt := 1 / 10 },
    { id := 0x0314, laws := all, lo := 2 / 100, hi := 1 / 2, dflt := 1 / 10 },
    { id := 0x0315, laws := all, lo := 2 / 100, hi := 1 / 2, dflt := 15 / 100 },
    { id := 0x0316, laws := all, lo := 1 / 2, hi := 99 / 100, dflt := 8 / 10 } ]

/-- Defaults of Table 4-9 that depend on LAW, and PIL_F's default that depends on PIL_MODE (assumption 33). -/
def lawDefault (law id : Nat) (d : Rat) : Rat :=
  if id = 0x0010 then (if law = 1 then 20 else if law = 2 then 2 / 100 else 4)
  else if id = 0x0011 then (if law = 1 then 2000 else if law = 2 then 2 else 8000)
  else if id = 0x0013 then (if law = 0 then 0 else if law = 1 then 1 / 10 else if law = 2 then 100 else 1)
  else d

/-- The row of an identifier (assumption 33). -/
def parSpec (t : List ParSpec) (id : Nat) : Option ParSpec := t.find? fun p => p.id = id

/-- The pattern in force of a parameter: given, else the default rounded to binary32 (R54). -/
def parBits (t : List ParSpec) (law : Nat) (p : Params) (id : Nat) : BitVec 32 :=
  match p.find? (fun e => e.1 = id) with
  | some e => e.2
  | none =>
    match parSpec t id with
    | some r => toF32 (lawDefault law id r.dflt)
    | none => 0

/-- A control-law parameter in force (R128, R162) (assumption 33). -/
def ChanCfg.lawP (c : ChanCfg) (id : Nat) : Rat := f32 (parBits lawPars c.dfn.law c.law id)

/-- A protection parameter in force (R217) (assumption 33). -/
def ChanCfg.protP (c : ChanCfg) (id : Nat) : Rat := f32 (parBits protPars c.dfn.law c.prot id)

/-- The pattern of a diagnostic parameter in force; PIL_F's default follows PIL_MODE (R219, R235). -/
def ChanCfg.diagBits (c : ChanCfg) (id : Nat) : BitVec 32 :=
  if id = 0x0301 && (c.diag.find? (fun e => e.1 = id)).isNone then
    let m := f32 (parBits diagPars 0 c.diag 0x0300)
    toF32 (if m = 1 then 32000 else if m = 2 then 8 else 0)
  else parBits diagPars 0 c.diag id

/-- A diagnostic parameter in force (assumption 33). -/
def ChanCfg.diagP (c : ChanCfg) (id : Nat) : Rat := f32 (c.diagBits id)

/-! ## Named values in force -/

/-- fT, Hz (R5). -/
def fT : Rat := 192000

/-- LOOKAHEAD rounded to the nearest tick (R217). -/
def ChanCfg.lookahead (c : ChanCfg) : Nat := (roundEven (c.protP 0x0201)).toNat

/-- I_LIM in units of 0.1 A, 30 under a bench build (R181, R217, R70). -/
def ChanCfg.ilimCode (c : ChanCfg) (bench : Bool) : BitVec 8 :=
  if bench then 30 else BitVec.ofNat 8 (roundEven (10 * c.protP 0x0200)).toNat

/-- FE_TIME in ticks (R119). -/
def ChanCfg.feTicks (c : ChanCfg) : BitVec 18 := BitVec.ofNat 18 (roundEven (c.lawP 0x0014 * fT)).toNat

/-- Model record values. -/
def ChanCfg.re (c : ChanCfg) : Rat := f32 c.model.re

def ChanCfg.xlim (c : ChanCfg) : Rat := f32 c.model.xlim

def ChanCfg.mms (c : ChanCfg) : Rat := f32 c.model.mms

def ChanCfg.rms (c : ChanCfg) : Rat := f32 c.model.rms

/-- A table value P(x) of R134. -/
def tableAt (t : List (BitVec 32)) (xlim x : Rat) : Rat :=
  let p := clampR 0 32 (16 + 16 * x / xlim)
  let j := min p.floor.toNat 31
  let f := p - j
  (1 - f) * f32 (t.getD j 0) + f * f32 (t.getD (j + 1) 0)

/-- Bl(x), Kms(x) and Le(x) in force (R133, R134). -/
def ChanCfg.blAt (c : ChanCfg) (x : Rat) : Rat :=
  match c.table with
  | some t => tableAt t.bl c.xlim x
  | none => f32 c.model.bl

def ChanCfg.kmsAt (c : ChanCfg) (x : Rat) : Rat :=
  match c.table with
  | some t => tableAt t.kms c.xlim x
  | none => f32 c.model.kms

def ChanCfg.leAt (c : ChanCfg) (x : Rat) : Rat :=
  match c.table with
  | some t => tableAt t.le c.xlim x
  | none => f32 c.model.le

/-- Point-16 values, or those of the model record without a table. -/
def ChanCfg.bl0 (c : ChanCfg) : Rat := c.blAt 0

def ChanCfg.kms0 (c : ChanCfg) : Rat := c.kmsAt 0

def ChanCfg.le0 (c : ChanCfg) : Rat := c.leAt 0

/-- V_S of R210, the channel scale. -/
def ChanCfg.vScale (c : ChanCfg) : Rat :=
  if c.dfn.law = 0 then c.lawP 0x0001
  else if c.dfn.law = 3 then c.lawP 0x0002 * c.re
  else c.lawP 0x0125

/-- 10^(dB/20). -/
def dbGain (db : Rat) : Rat := if db = 0 then 1 else Config.pow10R (db / 20)

/-- The list of a bank in force; both banks use the bank A taps when FIR_FADE = 0 (R52). -/
def ChanCfg.bank (c : ChanCfg) (b : Bool) : FilterList := if b then c.bankB else c.bankA

/-- The taps that a bank's output runs through (R52, R96). -/
def ChanCfg.taps (c : ChanCfg) (b : Bool) : List Int :=
  if b && c.dfn.firFade then c.bankB.taps else c.bankA.taps

/-- Change the configuration of a channel in the build in force. -/
def State.modCfg (s : State) (n : Chan) (f : ChanCfg → ChanCfg) : State :=
  match s.bld.build with
  | none => s
  | some b =>
    { s with bld := { s.bld with build := some { b with chans := b.chans.set n.val (b.chans[n].map f) } } }

end Sys2Proof.Machine
end

