-- ==== Sys2Proof/Machine/Pages.lean ====
section
/-! DEFINITION. The object pages of the coefficient peek (R387 to R391, Table 16-22). -/

namespace Sys2Proof.Machine

/-- The fields of COEF_SEL (Table 16-21). -/
def selChan (sel : BitVec 32) : Chan := ⟨sel.toNat % 64, Nat.mod_lt _ (by decide)⟩

def selBank (sel : BitVec 32) : Bool := sel.getLsbD 6

def selKind (sel : BitVec 32) : Nat := sel.toNat / 256 % 16

def selIndex (sel : BitVec 32) : Nat := sel.toNat / 65536 % 4096

def wordOf (x : Int) : BitVec 32 := BitVec.ofInt 32 x

/-- Parameters of a table that apply, identifier and value in force, in ascending order. -/
def parItems (t : List ParSpec) (ok : ParSpec → Bool) (bits : Nat → BitVec 32) : List (List (BitVec 32)) :=
  (t.filter ok).map fun r => [BitVec.ofNat 32 r.id, bits r.id]

/-- LINK_POS of a stream slot. -/
def linkPos (m : List (Nat × Nat)) (slot : Nat) : Nat :=
  match m.find? (fun e => e.1 = slot) with
  | some e => e.2
  | none => 0

/-- Capacity of a page in items (Table 16-22). -/
def pageCap (kind : Nat) : Nat :=
  if kind = 1 || kind = 4 || kind = 7 || kind = 8 then 30 else if kind = 2 then 12 else 60

/-- Every item of a per-channel object; none where the object does not exist. -/
def chanItems (m : List (Nat × Nat)) (c : ChanCfg) (table : List Rat) (kind : Nat) (bank : Bool) :
    Option (List (List (BitVec 32))) :=
  match kind with
  | 1 => some (c.dfn.inputs.map fun e => [BitVec.ofNat 32 (e.1 + 256 * linkPos m e.1), wordOf e.2])
  | 2 =>
    if bank && ! c.dfn.fadeEn then none
    else some ((c.bank bank).secs.map fun x => [wordOf x.b0, wordOf x.b1, wordOf x.b2, wordOf x.a1, wordOf x.a2])
  | 3 =>
    if c.dfn.fir.isNone || (bank && ! c.dfn.fadeEn) then none
    else some ((List.range 2048).map fun i => [wordOf ((c.taps bank).getD i 0)])
  | 4 => some (parItems lawPars
      (fun r => r.laws.contains c.dfn.law && ((r.id != 0x0113 && r.id != 0x0114) || c.model.kind = 2))
      (parBits lawPars c.dfn.law c.law))
  | 5 =>
    let x := c.model
    some ([x.re, x.le, x.bl, x.mms, x.kms, x.rms, x.xlim, x.fb].map fun w => [w])
  | 6 => c.table.map fun t => (t.bl ++ t.kms ++ t.le).map fun w => [w]
  | 7 => some (parItems protPars (fun _ => true) (parBits protPars c.dfn.law c.prot))
  | 8 => some (parItems diagPars (fun _ => true) c.diagBits)
  | 9 => some ((List.range 1024).map fun i => [toF32 (if c.dfn.law = 0 then 0 else table.getD i 0)])
  | _ => none

/-- A page: its item count and its words, or the code of Table 16-21 (R391). -/
def State.page (s : State) (sel : BitVec 32) : Except (BitVec 8) (Nat × List (BitVec 32)) :=
  match s.bld.build with
  | none => .error 1
  | some b =>
    let kind := selKind sel
    let n := selChan sel
    let items : Except (BitVec 8) (List (List (BitVec 32))) :=
      if kind = 0 || 10 < kind then .error 2
      else if kind = 10 then .ok (b.streams.map fun e => [BitVec.ofNat 32 (e.1 + 256 * e.2)])
      else
        match s.cfg n with
        | none => .error 3
        | some c =>
          match chanItems b.streams c (s.ch n).issue.table kind (selBank sel) with
          | none => .error 4
          | some l => .ok l
    match items with
    | .error e => .error e
    | .ok l =>
      if l.length ≤ selIndex sel then .error 5
      else
        let p := (l.drop (selIndex sel)).take (pageCap kind)
        .ok (p.length, p.flatten)

/-- A VALID page whose items a change has altered becomes STALE (R390) (assumption 63). -/
def State.recheckPages (s : State) : State :=
  { s with coef := vmap (fun c =>
      if c.state = .valid then
        match s.page c.asked with
        | .ok (_, w) => if w = c.words then c else { c with state := .stale }
        | .error _ => { c with state := .stale }
      else c) s.coef }

end Sys2Proof.Machine
end

