-- ==== Sys2Proof/Machine/Channel.lean ====
section
/-! DEFINITION. The channel state machine: Table 4-7, the judging of commands (R123 to R125), fault
drops and trips (R115 to R122, R216), and what is carried to a twin (R251). -/

namespace Sys2Proof.Machine

/-- The bit of CH_CMD that a command occupies (Table 4-10, Table 9-4 CODE). -/
def ChCmd.bit : ChCmd → Nat
  | .enable => 0
  | .play => 1
  | .quiet => 2
  | .open_ => 3
  | .close => 4
  | .stop => 5
  | .clear => 6

def ChCmd.ofBit : Nat → Option ChCmd
  | 0 => some .enable
  | 1 => some .play
  | 2 => some .quiet
  | 3 => some .open_
  | 4 => some .close
  | 5 => some .stop
  | 6 => some .clear
  | _ => none

/-- Trip causes (Table 4-8). -/
def causeDrops : Nat := 1
def causePace : Nat := 2
def causeShort : Nat := 3
def causeOpenLoad : Nat := 4
def causeDie : Nat := 5
def causeLane : Nat := 6
def causeIdent : Nat := 7
def causeEngine : Nat := 8

/-- Place of a cause in the precedence list of R216, first is 0. -/
def causeRank (c : Nat) : Nat :=
  if c = causeEngine then 0 else if c = causeLane then 1 else if c = causeDie then 2
  else if c = causeShort then 3 else if c = causeOpenLoad then 4 else if c = causePace then 5
  else if c = causeDrops then 6 else if c = causeIdent then 7 else 8

/-- A mute of this device holds: MUTE_N asserted, or VIO lost (R213, R214, R320). -/
def State.muted (s : State) : Bool := s.dev.mutePin || s.pwr.vioMute

/-- A mute holds for a channel: one of this device, which on a joined channel holds from its APPLY on, or on a twinned channel
one that the twin carries (R251). -/
def State.mutedAt (s : State) (n : Chan) : Bool :=
  (if s.joinedTwin n then s.dev.muteApplied else s.muted) || (s.dev.twinMute && s.twinned n)

/-- The source of the mute that holds for a channel; with several, one of this device (Table 13-4) (assumption 98). -/
def State.muteSrc (s : State) (n : Chan) : Nat :=
  if (if s.joinedTwin n then s.dev.muteApplied else s.muted) then s.dev.muteBy.toNat else 3

/-- The DATA of a KIND 0x03 entry (Table 13-5). -/
def chData (old new : ChState) (c : Channel) : List Byte :=
  [BitVec.ofNat 8 old.code, BitVec.ofNat 8 new.code, c.keep.tripCause.setWidth 8,
   c.loop.openCause.setWidth 8, c.keep.retries.setWidth 8]

/-- Journal a channel's change of state, KIND 0x03. -/
def State.jotCh (s : State) (src : Nat) (n : Chan) (old new : ChState) (out code : Nat) : State :=
  s.jot src 0x03 out code n.val (chData old new (s.ch n))

/-! ## Conditions of R117 -/

/-- Condition 1: the law closes a loop. -/
def State.cond1 (s : State) (n : Chan) : Bool := s.law n != 0

/-- Condition 2: AUTO_CLOSE is 1 and HOLD_OPEN is 0. -/
def State.cond2 (s : State) (n : Chan) : Bool :=
  match s.cfg n with
  | some c => c.lawP 0x0016 = 1 && ! (s.ch n).keep.holdOpen
  | none => false

/-- Condition 4: RECLOSE_HOLD has passed since the last drop. -/
def State.cond4 (s : State) (n : Chan) : Bool :=
  match s.cfg n, (s.ch n).loop.lastDrop with
  | some c, some t => (t : Rat) + c.lawP 0x0015 * fT ≤ (s.now : Rat)
  | some _, none => true
  | none, _ => false

/-- Condition 5: the last 256 sense samples are good. -/
def State.cond5 (s : State) (n : Chan) : Bool := 256 ≤ (s.ch n).loop.okRun

/-- Condition 6: after a pace-fault drop, no pace miss for 1,024 ticks. -/
def State.cond6 (s : State) (n : Chan) : Bool :=
  let l := (s.ch n).loop
  l.openCause != 4 || (match l.lastPaceMiss with
    | some t => t + 1024 ≤ s.now
    | none => true)

/-- Condition 7: no sweep runs. The tables in force are never those of a sweep whose fit missed its
deadline, because a late fit is discarded (R28, R29). -/
def State.cond7 (s : State) (n : Chan) : Bool := ! (s.ch n).ident.running

/-- A filter-pool slice or FIR engine that the channel uses has failed (Table 1-8). -/
def usesFir (c : ChanCfg) (e : Fin 8) : Bool := c.dfn.fir = some e || c.dfn.firShadow = some e

/-- Sections that a channel claims. -/
def ChanCfg.sections (c : ChanCfg) : Nat := c.dfn.sectMax * (if c.dfn.fadeEn then 2 else 1)

/-- First section of a channel, sections being laid out in channel order (assumption 12). -/
def State.firstSection (s : State) (n : Chan) : Nat :=
  (allChans.filter fun j => j.val < n.val).foldl (fun a j => a + match s.cfg j with
    | some c => c.sections
    | none => 0) 0

/-- The channel's lists use slice q of 64 sections (assumption 12). -/
def State.usesSlice (s : State) (n : Chan) (q : Fin 16) : Bool :=
  match s.cfg n with
  | some c =>
    let a := s.firstSection n
    0 < c.sections && a < 64 * (q.val + 1) && 64 * q.val < a + c.sections
  | none => false

/-- A failed block keeps the channel from playing (assumption 26). -/
def State.blockGone (s : State) (n : Chan) : Bool :=
  s.dev.gone.any fun b => match b with
    | .fir e => match s.cfg n with
      | some c => usesFir c e
      | none => false
    | .slice q => s.usesSlice n q
    | _ => false

/-- Condition 8: no fade runs; the mute fade of R213 counts as one (DESIGN CHOICE, assumption 89). -/
def State.cond8 (s : State) (n : Chan) : Bool := (s.ch n).loop.fading = .none

/-- Every condition of R117 for a channel in OPEN_LOOP. -/
def State.reclosable (s : State) (n : Chan) : Bool :=
  (s.ch n).st = .openLoop && s.cond1 n && s.cond2 n && (s.ch n).loop.openCause != 1 && s.cond4 n &&
    s.cond5 n && s.cond6 n && s.cond7 n && s.cond8 n && ! s.follows n

/-! ## Judging a command (Table 4-7) -/

/-- While a channel is mismatched, the half of the TB follower may not play it (R244). -/
def State.mismatchBars (s : State) (n : Chan) : Bool :=
  inMask s.swp.mismatch n && (match s.plan with
    | some t => t.tbFollower
    | none => false)

/-- The partner half of a joined pair drives its bridge, so that this half, when it is out, takes no check (R253); the half
of the TB follower takes none on a mismatched channel either (R244) (assumption 51). -/
def State.outHalf (s : State) (n : Chan) : Bool :=
  s.swp.joined && s.twinned n && (! (s.ch n).twin.partnerHiz || s.mismatchBars n)

/-- A twinned channel that this device may enable (R244, R245, R253). -/
def State.twinEnable (s : State) (n : Chan) : Bool :=
  match s.plan with
  | none => true
  | some t =>
    if inMask t.twinMask n then
      (s.swp.joined || s.swp.soloAll) && ! s.mismatchBars n &&
        ! (s.swp.joined && ! (s.ch n).twin.partnerHiz)
    else true

/-- R125: the trip cause lets CLEAR be accepted. -/
def State.clearable (s : State) (n : Chan) : Bool :=
  let c := (s.ch n).keep.tripCause.toNat
  if c = causeDie then ! (s.die n.die).shutdown
  else if c = causeLane then ! (s.die n.die).lost
  else c != causeEngine

/-- The state that an accepted command leads to, none for a refusal (Table 4-7). -/
def State.judge (s : State) (n : Chan) (c : ChCmd) : Option ChState :=
  let k := s.ch n
  let armed := s.dev.state = .armed || s.dev.state = .run
  if ! s.used n then none
  else
    match c with
    | .enable =>
      if k.st = .off && armed && ! s.dev.disarming && s.twinEnable n then some .rampUp else none
    | .play =>
      if k.st = .quiet && s.dev.state = .run && ! s.dev.disarming && ! s.mutedAt n && ! s.blockGone n &&
          ! s.mismatchBars n then
        if k.loop.fading = .quiet then some k.loop.quietFrom
        else if s.cond1 n && s.cond2 n && s.cond5 n && s.cond7 n then some .closedLoop
        else some .openLoop
      else none
    | .quiet => if k.st.playing then some .quiet else none
    | .open_ => if k.st = .closedLoop then some .openLoop else none
    | .close =>
      if k.st = .openLoop && s.cond1 n && s.cond5 n && s.cond6 n && s.cond7 n && s.cond8 n then
        some .closedLoop
      else none
    | .stop =>
      match k.st with
      | .rampUp => some (if k.loop.uvHold then .off else .rampDown)
      | .quiet => some .rampDown
      | .openLoop => some .rampDown
      | .closedLoop => some .rampDown
      | .retry => some .rampDown
      | _ => none
    | .clear =>
      if k.st = .tripped && s.clearable n then
        if s.outHalf n then some .off
        else if armed then some .retry
        else if s.dev.state = .built then some .off
        else none
      else none

/-! ## Moving a channel -/

/-- End of a sweep or pending fit by abort: RESULT ABORTED, event, entry (R152) (assumption 39). -/
def State.abortIdent (s : State) (n : Chan) : State :=
  let c := s.ch n
  if c.ident.running || c.ident.fitPending then
    let s := s.modCh n fun c =>
      { c with ident := .reset, cls := { c.cls with ident := .reset },
               keep := { c.keep with result := 5 } }
    s.jotRaise 0x10 0x0E 0 5 n.val [5] Ev.identificationResult n.val 5 (some 0)
  else s

/-- A bridge turns high-impedance (R178); the modulation cycles that the short rule looks back on end (R208). -/
def ChStage.off (g : ChStage) : ChStage :=
  { g with bridge := 0, modRun := false, rate := 0, rampDone := false, forced := [], actCycles := [] }

/-- High-impedance at once: the bridge is off, models and pilot stop (R140, R178, R221). -/
def Channel.hiz (c : Channel) : Channel :=
  { c with
    stage := c.stage.off
    loop := { c.loop with ramped := false, closing := false, shaped := false, dropSent := false,
                          setpoint := 0, staged := 0 }
    prot := { c.prot with check := none }
    diag := { c.diag with weight := 0, pilotOn := false } }

/-- OFF and TRIPPED end a fade, a transfer and a mute; a PVDD shutdown keeps them (Tables 4-11, 7-6). -/
def Channel.stopFades (c : Channel) : Channel :=
  { c with
    loop := { c.loop with fading := .none, phi := 0, tLeft := 0, tC := 0 }
    prot := { c.prot with muted := false } }

/-- A running sweep aborts; a fitter that is pending stays (R152). -/
def State.abortSweep (s : State) (n : Chan) : State := if (s.ch n).ident.running then s.abortIdent n else s

/-- T of R115 as it stands, V. -/
def ChLoop.transfer (l : ChLoop) : Rat := l.tC * (l.tLeft : Rat) / 64

/-- The channel's fields on entering a state by a row of Table 4-7. `cause`: the trip cause. A loop that closes and
opens before a tick of its law has T where it stood (R115); a PLAY that returns to OPEN_LOOP from the fade-out of
QUIET keeps OPEN_CAUSE (assumption 77). -/
def Channel.enter (c : Channel) (new : ChState) (cause : Nat) : Channel :=
  let old := c.st
  let c1 := { c with st := new }
  match new with
  | .off =>
    let c2 := c1.hiz.stopFades
    let clr := old = .tripped
    { c2 with
      loop := { c2.loop with uvHold := false, uvResume := false, runPlay := false, devPlay := false,
                             dropTimes := if clr then [] else c2.loop.dropTimes }
      keep := { c2.keep with tripCause := if clr then 0 else c2.keep.tripCause } }
  | .rampUp => { c1 with loop := { c1.loop with phi := 0, fading := .none }
                         stage := { c1.stage with rampDone := false, fbBad := false } }
  | .quiet =>
    if old.playing then
      { c1 with loop := { c1.loop with fading := .quiet, fadeStep := 1536, quietFrom := old } }
    else
      { c1 with
        loop := { c1.loop with phi := 0, fading := .none, uvHold := false, uvResume := false, intSat := false }
        keep := if old = .retry then
            { c1.keep with tripCause := 0, retries := 0, shortLatch := false, retryAt := none }
          else c1.keep
        prot := { c1.prot with check := none } }
  | .openLoop =>
    if old = .closedLoop then
      { c1 with loop := { c1.loop with
          tC := if c1.loop.shaped then c1.loop.tC else c1.loop.lastFb,
          tLeft := if c1.loop.shaped then c1.loop.tLeft else 64, closing := false, shaped := false, dropSent := false } }
    else if c.loop.fading = .quiet && c.loop.quietFrom = .openLoop then
      { c1 with loop := { c1.loop with fading := .play, fadeStep := 0 } }
    else { c1 with loop := { c1.loop with openCause := 0, fading := .play, fadeStep := 0, phi := 0 } }
  | .closedLoop =>
    if old = .openLoop then { c1 with loop := { c1.loop with
      closing := true, shaped := false, dropSent := false, lastFb := c1.loop.transfer } }
    else if c.loop.fading = .quiet && c.loop.quietFrom = .closedLoop then
      { c1 with loop := { c1.loop with fading := .play, fadeStep := 0 } }
    else
      { c1 with loop := { c1.loop with
        integ := 0, intSat := false, feCount := 0, fading := .play, fadeStep := 0, phi := 0, closing := false,
        shaped := false, dropSent := false, lastFb := c1.loop.transfer } }
  | .tripped =>
    let c2 := c1.hiz.stopFades
    { c2 with
      keep := { c2.keep with tripCause := BitVec.ofNat 4 cause,
                             wasPlaying := if old = .retry then c2.keep.wasPlaying else old.playing }
      loop := { c2.loop with uvHold := false, uvResume := false, runPlay := false, devPlay := false } }
  | .retry =>
    { c1 with
      loop := { c1.loop with dropTimes := [], ramped := false, phi := 0, fading := .none, uvHold := false, uvResume := false }
      keep := { c1.keep with retryAt := none }
      stage := { c1.stage with rampDone := false, fbBad := false } }
  | .rampDown =>
    if old.playing then
      { c1 with loop := { c1.loop with fading := .stop, fadeStep := 1536, quietFrom := old } }
    else if c.loop.fading = .quiet then c1
    else { c1 with loop := { c1.loop with fading := .none, ramped := false }
                   prot := { c1.prot with check := none }
                   stage := { c1.stage with rampDone := false } }

/-- Move a channel to a state: leaving QUIET or RETRY aborts a sweep (R152); the change is journalled
by its source unless a device transition covers it (R123, R124). -/
def State.moveTo (s : State) (src : Nat) (jot : Bool) (n : Chan) (new : ChState) (cause : Nat) : State :=
  let old := (s.ch n).st
  let check : Nat := if (s.ch n).ident.running then causeIdent else (s.ch n).keep.tripCause.toNat
  let s := if new = .quiet && old = .quiet then s
    else if new = .quiet && old = .retry then s
    else s.abortSweep n
  let s := s.modCh n fun c => c.enter new cause
  let s := if new = .tripped then s.modCh n fun c => { c with keep := { c.keep with
    tripAt := s.now, tripFrom := old, tripCheck := BitVec.ofNat 4 check } } else s
  let s := if new = .closedLoop then s.raise Ev.loopClosed n.val 0 (if jot then s.jrn.nextSeq else none) else s
  if jot then s.jotCh src n old new 0 (if new = .tripped then cause else 0) else s

/-! ## Carrying to the twin (R251) -/

/-- Two queued entries were decided in one tick and share KIND, CODE, ORIGIN and CAUSE (R251). -/
def CmdEntry.joins (x e : CmdEntry) : Bool :=
  x.kind = e.kind && x.code = e.code && x.origin = e.origin && x.cause = e.cause && x.apply = e.apply

/-- Queue a carried entry: entries of one tick that share KIND, CODE and CAUSE join their masks, unless a later
entry names one of the same channels, whose order must stay. A queued entry holds the tick of its decision
in the place of APPLY (assumption 48). -/
def joinCmd (e : CmdEntry) : List CmdEntry → List CmdEntry
  | [] => [e]
  | x :: t =>
    if x.joins e && t.all (fun y => y.mask &&& e.mask = 0) then { x with mask := x.mask ||| e.mask } :: t
    else x :: joinCmd e t

/-- Model choice: assumption 48. -/
def State.carry (s : State) (kind code origin cause : Nat) (mask : BitVec 64) : State :=
  let e : CmdEntry :=
    { kind := BitVec.ofNat 8 kind, code := BitVec.ofNat 8 code, origin := BitVec.ofNat 8 origin,
      apply := BitVec.ofNat 32 s.now, mask := mask, cause := BitVec.ofNat 8 cause }
  { s with swp := { s.swp with outQ := joinCmd e s.swp.outQ } }

/-- Decide a channel's move: at once, or carried to both halves of a joined twinned channel, where the lead
half alone decides (R251). -/
def State.decide (s : State) (src : Nat) (jot : Bool) (n : Chan) (new : ChState) (cause : Nat) : State :=
  if s.follows n then s
  else if s.joinedTwin n then s.carry 0x01 new.code 0 cause (bitOf n) else s.moveTo src jot n new cause

/-! ## Commands -/

/-- Who issues a channel command: a host master, a device transition, or a block of the device. -/
inductive Origin where
  | host (m : Master) (bs : List Byte)
  | device
  | block (src : Nat)
  deriving DecidableEq, Repr

/-- Refuse a channel command (R123, R124). -/
def State.refuseCmd (s : State) (o : Origin) (n : Chan) : State :=
  match o with
  | .host m bs =>
    let q := s.jrn.nextSeq
    (s.jotWrite m (0x10 + n.val) 0x04 bs 1).raise Ev.channelCommandRefused n.val 0 q
  | .device => s.raise Ev.channelCommandRefused n.val 0
  | .block src => s.jotRaise src 0x03 1 0 n.val (chData (s.ch n).st (s.ch n).st (s.ch n))
      Ev.channelCommandRefused n.val 0

/-- Extra effects of an accepted command: OPEN_CAUSE of a host OPEN, and the series of R211. -/
def Channel.accepted (c : Channel) (o : Origin) (k : ChCmd) : Channel :=
  match k, o with
  | .open_, .host _ _ => { c with loop := { c.loop with openCause := 1 } }
  | .clear, .host _ _ =>
    if c.keep.tripCause.toNat = causeShort then
      { c with keep := { c.keep with retries := 0, shortLatch := false, retryAt := none } }
    else c
  | _, _ => c

/-- A channel command (R123 to R125): judged, then applied, carried or refused. A follow half sends it to
the lead half, but for the CLEAR of a half that is out (R251, R253). -/
def State.command (s : State) (o : Origin) (k : ChCmd) (n : Chan) : State :=
  let src := match o with
    | .host _ _ => 0x10
    | .device => 0x10
    | .block b => b
  let out := k = .clear && (s.ch n).st = .tripped && s.outHalf n
  if s.follows n && ! out then
    let s := match o with
      | .host m bs => s.jotWrite m (0x10 + n.val) 0x04 bs 0
      | _ => s
    s.carry 0x02 k.bit 1 0 (bitOf n)
  else
    match s.judge n k with
    | none => s.refuseCmd o n
    | some new =>
      let s := match o with
        | .host m bs => s.jotWrite m (0x10 + n.val) 0x04 bs 0
        | .block b => if k = ChCmd.clear then s.jot b 0x03 0 0 n.val (chData (s.ch n).st new (s.ch n)) else s
        | .device => s
      let s := s.modCh n fun c => c.accepted o k
      if out && s.joinedTwin n then s.moveTo src (o != Origin.device) n new 0
      else s.decide src (o != Origin.device) n new 0

/-! ## Trips and drops -/

/-- A stage or engine decision trips a channel at once (Table 4-7, R216): from TRIPPED a cause of
higher precedence replaces the recorded one, and every cause of the tick of the trip is reported (R31); OFF
trips only for ENGINE. -/
def State.trip (s : State) (src : Nat) (n : Chan) (cause : Nat) : State :=
  let c := s.ch n
  match c.st with
  | .tripped =>
    if causeRank cause < causeRank c.keep.tripCause.toNat then
      let s := s.modCh n fun c =>
        { c with keep := { c.keep with tripCause := BitVec.ofNat 4 cause, retryAt := none } }
      (s.jotCh src n .tripped .tripped 0 cause).raiseLast Ev.channelTrip n.val cause
    else if c.keep.tripAt = s.now && cause != c.keep.tripCause.toNat then s.raise Ev.channelTrip n.val cause
    else s
  | .off =>
    if cause = causeEngine then
      (s.moveTo src true n .tripped cause).raiseLast Ev.channelTrip n.val cause
    else s
  | _ => (s.moveTo src true n .tripped cause).raiseLast Ev.channelTrip n.val cause

/-- A trip that the channel engine decides: carried on a joined twinned channel (R251) (assumption 26). -/
def State.engineTrip (s : State) (n : Chan) (cause : Nat) : State :=
  if s.joinedTwin n then
    if s.follows n then s else s.carry 0x01 ChState.tripped.code 0 cause (bitOf n)
  else s.trip 0x10 n cause

/-- Record a fault drop's time and its cause, also where the drop enters TRIPPED instead of OPEN_LOOP (R122; DESIGN CHOICE,
assumption 91). -/
def Channel.recordDrop (c : Channel) (now : Nat) (cause : Nat) : Channel :=
  { c with loop := { c.loop with
      dropTimes := (now :: c.loop.dropTimes).take 4, dropTotal := min (c.loop.dropTotal + 1) 0xFFFF,
      lastDrop := some now, openCause := BitVec.ofNat 3 cause } }

/-- The drop of a joined channel travels (R251). -/
def Channel.sentDrop (c : Channel) (joined : Bool) : Channel :=
  { c with loop := { c.loop with dropSent := c.loop.dropSent || joined } }

/-- The third drop before this one lies within 11,520,000 ticks (R122). -/
def Channel.dropsMet (c : Channel) (now : Nat) : Bool :=
  match c.loop.dropTimes[2]? with
  | some t => now ≤ t + 11520000
  | none => false

/-- A fault drop of a channel in CLOSED_LOOP in tick `t`; OPEN_CAUSE 2 following error, 3 lost feedback, 4
pace fault (R119, R120, R24, R122). A follow half waits for the lead (R247), and a drop that travels to the
twin is recorded once (assumption 38). In the tick of a trip of another cause, a drop that would have met R122 reports
DROPS (R216). -/
def State.faultDrop (s : State) (n : Chan) (cause t : Nat) : State :=
  let c := s.ch n
  if c.st = .tripped && c.keep.tripAt = s.now && c.keep.tripFrom = .closedLoop && ! s.follows n && c.dropsMet t then
    s.trip 0x10 n causeDrops
  else if c.st != .closedLoop || s.follows n || c.loop.dropSent then s
  else if c.dropsMet t then
    (s.modCh n fun c => (c.recordDrop t cause).sentDrop (s.joinedTwin n)).engineTrip n causeDrops
  else
    let s := s.modCh n fun c => (c.recordDrop t cause).sentDrop (s.joinedTwin n)
    if s.joinedTwin n then
      let s := s.carry 0x01 ChState.openLoop.code 0 0 (bitOf n)
      if cause = 3 then
        (s.modCh n fun c => c.enter .openLoop 0).jotCh 0x10 n .closedLoop .openLoop 0 cause
      else s
    else
      (s.modCh n fun c => c.enter .openLoop 0).jotCh 0x10 n .closedLoop .openLoop 0 cause

/-- The check of a channel in RETRY fails with a cause; the lead half alone decides it (Table 4-7, R210, R211, R254). In
the tick of a trip of another cause it is reported (R216). -/
def State.checkFails (s : State) (n : Chan) (cause : Nat) : State :=
  let k := s.ch n
  if k.st = .tripped && k.keep.tripAt = s.now && k.keep.tripFrom = .retry then s.trip 0x10 n cause
  else if k.st = .retry && ! s.follows n then
    if s.joinedTwin n then s.carry 0x01 ChState.tripped.code 0 cause (bitOf n)
    else (s.moveTo 0x10 true n .tripped cause).raiseLast Ev.channelTrip n.val cause
  else s

/-- The check of a channel in RETRY passes: QUIET, and PLAY where PLAY_ON_RECOVER asks for it. -/
def State.checkPasses (s : State) (n : Chan) : State :=
  let c := s.ch n
  if c.st = .retry then
    let play := c.keep.playOnRecover && s.dev.state = .run && c.keep.wasPlaying
    let s := s.decide 0x10 true n .quiet 0
    if play && ! s.joinedTwin n then s.command (.block 0x10) .play n
    else if play then s.modCh n fun c => { c with loop := { c.loop with runPlay := true } }
    else s
  else s

end Sys2Proof.Machine
end

