-- ==== Sys2Proof/Machine/Graph.lean ====
section
/-! DEFINITION. Streams, resamplers, mixing, section lists, FIR engines, fades and the conversion to
the control engine (R72 to R96, R273 to R275), tick by tick. -/

namespace Sys2Proof.Machine

/-! ## Concealment (R273, R274) -/

/-- Nearest integer of a ratio, ties to even (assumption 35). -/
def divEven (x : Int) (d : Nat) : Int := roundEven ((x : Rat) / (d : Rat))

/-- The value of the m-th consecutive concealed position (assumption 37). -/
def concealed (h : Int) (m : Nat) : Int :=
  if m ≤ 1 then h else if m ≤ 33 then divEven (h * (33 - m : Nat)) 32 else 0

/-- The window takes position N of a slot: supplied, recovering or concealed. Answers the slot and
whether the position was concealed (assumption 37). -/
def SlotBuf.take (b : SlotBuf) (pos : BitVec 32) : SlotBuf × Bool :=
  let last := b.win.headD 0
  let raw := b.raw.filter fun e => e.1 != pos
  match b.raw.find? (fun e => e.1 = pos) with
  | some e =>
    if b.m = 0 then ({ b with raw := raw, win := (e.2 :: b.win).take 64 }, false)
    else
      let k := if b.recov = 0 then 1 else b.recov
      let v := roundEven ((k : Rat) / 8 * e.2 + (1 - (k : Rat) / 8) * concealed b.held (b.m + k))
      let fin := k = 8
      ({ b with raw := raw, win := (v :: b.win).take 64, recov := if fin then 0 else k + 1,
                m := if fin then 0 else b.m }, false)
  | none =>
    if b.m = 0 || b.recov != 0 then
      ({ raw := raw, win := (last :: b.win).take 64, held := last, m := 1, recov := 0 }, true)
    else
      let v := concealed b.held (b.m + 1)
      ({ b with raw := raw, win := (v :: b.win).take 64, m := b.m + 1 }, true)

/-- Slots that the stream map of the build in force names. -/
def State.mapped (s : State) : List (Nat × Nat) :=
  match s.bld.build with
  | some b => b.streams
  | none => []

/-- Read one new position into the windows of the claimed slots; count and report concealment (assumption 37). -/
def State.readPosition (s : State) (pos : BitVec 32) : State :=
  let (st, hit) := s.mapped.foldl (fun (acc : Streams × List Nat) e =>
    if h : e.1 < 96 then
      let r := (acc.1.slots[e.1]).take pos
      ({ acc.1 with slots := acc.1.slots.set e.1 r.1 }, if r.2 then acc.2 ++ [e.1] else acc.2)
    else acc) (s.stm, [])
  let st := { st with since := st.since + 1 }
  match hit with
  | [] => { s with stm := { st with cleanRun := st.cleanRun + 1 } }
  | n :: _ =>
    let start := 8 ≤ st.cleanRun
    let s := { s with stm := { st with cleanRun := 0 } }
    let s := match s.link.active with
      | some p => s.modPort p fun l => { l with conceal := satInc l.conceal }
      | none => s
    if start then s.raise Ev.concealmentStart n 0 else s

/-- Read the positions that the window first needs, in order. -/
def State.readPositions (s : State) (first : BitVec 32) : Nat → State
  | 0 => s
  | k + 1 => (s.readPosition first).readPositions (first + 1) k

/-! ## Ratio tracker (R74 to R79) -/

/-- Nominal frame rate of a rate code, Hz (Table 10-3). -/
def rateHz (r : Nat) : Nat :=
  match r with
  | 0 => 44100
  | 1 => 48000
  | 2 => 88200
  | 3 => 96000
  | 4 => 176400
  | 5 => 192000
  | _ => 0

def nominalRatio (r : Nat) : Rat := (rateHz r : Rat) / fT

/-- Position that the window ends at: floor(p) + 16. -/
def Streams.windowEnd (t : Streams) : BitVec 32 := (t.p >>> 32).setWidth 32 + 16

/-- What r may change in a tick of tracking: 20 ppm of nominal in 192 ticks (R76). -/
def slewStep (nom : Rat) : Rat := nom * (20 / 1000000) / 192

/-- Bandwidth of the tracker's loop, Hz (R76, R77). -/
def Streams.bandwidth (t : Streams) : Rat := if t.wide then 200 else 2

/-- The loop filter of R76 for a tick: its frequency state, which stays within ±1,000 ppm, and r before the
limits (assumption 36). -/
def Streams.loopStep (t : Streams) (nom : Rat) : Rat × Rat :=
  let g := Config.trackerGain t.bandwidth
  let q := clampR (-(nom / 1000)) (nom / 1000) (t.loopState + g.2 * t.phase)
  (q, nom + q + g.1 * t.phase)

/-- r of the next tick: towards the loop's value, or towards the nearer limit while the measured rate lies
outside ±1,000 ppm; within the limits always, and within the slew in tracking (R76, R77, R78). -/
def Streams.nextRatio (t : Streams) (nom : Rat) (ppm : Int) : Rat :=
  let lo := nom * (1 - 1 / 1000)
  let hi := nom * (1 + 1 / 1000)
  let want := if ppm < -10000 then lo else if 10000 < ppm then hi else clampR lo hi (t.loopStep nom).2
  if t.wide then want else clampR (t.ratio - slewStep nom) (t.ratio + slewStep nom) want

/-- The tracker's own values after a tick in which frames arrive (R76, R78) (assumption 36). -/
def Streams.track (t : Streams) (nom : Rat) (ppm : Int) : Streams :=
  { t with
    ratio := t.nextRatio nom ppm, loopState := (t.loopStep nom).1, clamped := decide (ppm < -10000) || decide (10000 < ppm),
    ppm := BitVec.ofInt 16 (clampI (-32768) 32767 ppm) }

/-- One tick of the tracker: the ratio moves under R76 to R78 or holds under R79, p advances by it, and the
window reads what it newly needs (assumption 36). -/
def State.trackerTick (s : State) (ppm : Int) : State :=
  let t := { s.stm with acqTicks := if s.stm.wide then s.stm.acqTicks + 1 else s.stm.acqTicks }
  if ! t.placed then { s with stm := t }
  else
    let t1 := if t.holdover then t else t.track (nominalRatio s.mtb.rate.toNat) ppm
    let t2 := { t1 with p := t1.p + BitVec.ofInt 64 (roundEven (t1.ratio * 4294967296)) }
    let s := { s with stm := t2 }
    let s := s.raiseEdge t.clamped t2.clamped Ev.trackerClamp 0xFF 0
    s.readPositions (t.windowEnd + 1) (t2.windowEnd - t.windowEnd).toNat

/-- The phase detector of R76 at an accepted frame on the active port: the position that p should have had at the
arrival, less the one it had there. `at_`: the arrival in the running tick, 1/1,024 tick, without what the
switches of R80 have removed (assumption 36). -/
def Streams.phaseAt (t : Streams) (lag : Nat) (frame : BitVec 32) (at_ : Rat) : Rat :=
  let whole : Int := (frame - BitVec.ofNat 32 (16 + lag) - (t.p >>> 32).setWidth 32).toInt
  (whole : Rat) - ((t.p.toNat % 2 ^ 32 : Nat) : Rat) / 4294967296 - t.ratio * at_ / 1024

/-! ## The prototype (R83, R84) -/

/-- Tap i of one half of a ROM, signed, of magnitude 2 at most. -/
def romTap (rom i : Nat) : Rat :=
  ((BitVec.ofNat Config.romWidth (rom / 2 ^ (Config.romWidth * i))).toInt : Rat) / 2 ^ (Config.romWidth - 2)

/-- Tap i of phase q by the taps of one half, at distances from the start in 1/256 of a link sample: the tap at i + q/256 link
samples of the prototype, which is even about 15.5 link samples, its group delay (R84); what lies beyond its end is 0. -/
def protoTap (half : Nat → Rat) (q i : Nat) : Rat :=
  let j := 256 * i + q
  if 7936 < j then 0 else half (min j (7936 - j))

/-- The response at ν times the link rate, without its linear phase: the taps stand 1/256 of a sample apart about the delay of
15.5 samples. -/
def protoGain (half : Nat → Rat) (ν : Rat) : Rat :=
  (List.range 7937).foldl (fun a j =>
    a + protoTap half (j % 256) (j / 256) * Config.cosR (2 * Config.pi * ν * ((3968 : Rat) - (j : Rat)) / 256)) 0 / 256

/-- What R84 asks of the response at ν: flat within ±0.01 dB up to 0.40 of the link rate, at least 96 dB down from 0.60. -/
def protoMeets (half : Nat → Rat) (ν : Rat) : Bool :=
  (! (decide (0 ≤ ν) && decide (ν ≤ 2 / 5)) ||
    decide (Config.pow10R (-1 / 2000) ≤ protoGain half ν) && decide (protoGain half ν ≤ Config.pow10R (1 / 2000))) &&
  (! (decide (3 / 5 ≤ ν) && decide (ν ≤ 128)) || decide (absR (protoGain half ν) ≤ Config.pow10R (-24 / 5)))

/-- A condition holds for every number below a bound. -/
def allBelow (p : Nat → Bool) : Nat → Bool
  | 0 => true
  | n + 1 => p n && allBelow p n

/-- The first number below a bound that meets a condition. -/
@[irreducible] def firstBelow (p : Nat → Bool) : Nat → Option Nat
  | 0 => none
  | n + 1 => (firstBelow p n).orElse fun _ => if p n then some n else none

/-- A ROM meets R84 at every 1/65,536 of the link rate, up to half the rate of the interpolated taps (assumption 8). -/
def romMeets (rom : Nat) : Bool := allBelow (fun k => protoMeets (romTap rom) ((k : Rat) / 65536)) (128 * 65536 + 1)

/-- The ROM of the device: the free one where it meets R84, else the first of all ROMs that does (assumption 8). -/
def romOf (pick : Nat) : Nat :=
  if romMeets pick then pick else (firstBelow romMeets (2 ^ (Config.romWidth * 3969))).getD pick

/-- Tap i of phase q of the resampler's prototype. -/
def prototype (q i : Nat) : Rat := protoTap (romTap (romOf Config.prototypePick)) q i

/-! ## Resamplers (R83, R85) -/

/-- The 32-tap dot product of a window, newest first, with phase q, in Q4.60: each product is rounded to 60
fractional bits, the sum is modulo 16 (R72, R73) (assumption 36). -/
def dotPhase (w : List Int) (q : Nat) : Int :=
  wrap64 ((List.range 32).foldl (fun acc i =>
    acc + roundEven (prototype q i * ((w.getD i 0 : Int) : Rat) * 536870912)) 0)

/-- The resampler output of a window at the fractional position, Q4.60: the two phases weighted, each product
rounded (R73, R83). -/
def resample (w : List Int) (p : BitVec 64) : Int :=
  let frac := p.toNat % 2 ^ 32
  let q := frac / 2 ^ 24
  let x : Int := ((frac % 2 ^ 24 : Nat) : Int)
  let next := if q = 255 then dotPhase (0 :: w) 0 else dotPhase w (q + 1)
  wrap64 (shiftEven ((16777216 - x) * dotPhase w q) 24 + shiftEven (x * next) 24)

/-- Output of every slot for the tick: claimed slots resample, saturating to Q1.31; clips count. -/
def State.resampleAll (s : State) : State × List (Nat × Int) :=
  s.mapped.foldl (fun (acc : State × List (Nat × Int)) e =>
    if h : e.1 < 96 then
      let v := shiftEven (resample (s.stm.slots[e.1]).win s.stm.p) 29
      let c := clampI (-(2 ^ 31)) (2 ^ 31 - 1) v
      let t := if c = v then acc.1
        else
          ({ acc.1 with mtb := { acc.1.mtb with
              clipCount := satInc acc.1.mtb.clipCount, clipSlot := BitVec.ofNat 7 e.1 } }).raise
            Ev.streamClip e.1 0
      (t, acc.2 ++ [(e.1, c)])
    else acc) (s, [])

/-- The output of a slot, 0 for one that no instance runs. -/
def slotOut (l : List (Nat × Int)) (slot : Nat) : Int :=
  match l.find? (fun e => e.1 = slot) with
  | some e => e.2
  | none => 0

/-! ## Sections and FIR (R88, R89) -/

/-- One section in direct form I: products rounded to 60 fractional bits, the sum modulo 16 (assumption 35). -/
def Section.run (c : Section) (z : SecState) (x : Int) : Int × SecState :=
  let y := wrap64 (shiftEven (c.b0 * x) 29 + shiftEven (c.b1 * z.x1) 29 + shiftEven (c.b2 * z.x2) 29 -
    shiftEven (c.a1 * z.y1) 29 - shiftEven (c.a2 * z.y2) 29)
  (y, { x1 := x, x2 := z.x1, y1 := y, y2 := z.y1 })

/-- A list of sections in order; states that the list lacks are zero. -/
def runSections : List Section → List SecState → Int → Int × List SecState
  | [], _, x => (x, [])
  | c :: cs, zs, x =>
    let r := c.run (zs.headD { x1 := 0, x2 := 0, y1 := 0, y2 := 0 }) x
    let t := runSections cs zs.tail r.1
    (t.1, r.2 :: t.2)

/-- The FIR engine: input rounded to Q4.28, sum of h[i]·d[i] in Q4.60 modulo 16 (assumption 35). -/
def runFir (taps line : List Int) (x : Int) : Int × List Int :=
  let line := (shiftEven x 32 :: line).take 2048
  (wrap64 ((List.zipWith (fun h d => 2 * (h * d)) taps line).foldl (· + ·) 0), line)

/-- The weighted sum of a cross-fade with w = t / f (R93). -/
def crossFade (out inn : Int) (t f : Nat) : Int :=
  if f = 0 then inn else wrap64 (divEven (out * (f - t : Nat)) f + divEven (inn * t) f)

/-- Gains in force: a patched IN_GAIN moves in a straight line over 64 ticks (R69). -/
def ChFgKeep.gain (k : ChFgKeep) (j : Nat) (target : Int) : Int :=
  if k.gainPos < 64 then
    let a := k.gainFrom.getD j target
    a + divEven ((target - a) * (k.gainPos : Int)) 64
  else target

/-- The mix of a channel in Q4.60 (R86). `x0`: what an injection adds to input 0. -/
def mixOf (c : ChanCfg) (k : ChFgKeep) (outs : List (Nat × Int)) (x0 : Int) : Int :=
  let terms := c.dfn.inputs.zipIdx.map fun e =>
    k.gain e.2 e.1.2 * (slotOut outs e.1.1 + if e.2 = 0 then x0 else 0)
  wrap64 (terms.foldl (· + ·) 0)

/-- What one tick of the graph gives: graph output in Q4.60 and the running state. -/
structure GraphOut where
  y : Int
  fg : ChFg
  deriving DecidableEq, Repr

/-- The graph of one channel for one tick (R88, R89, R93, R96, R99). -/
def graphTick (c : ChanCfg) (fg : ChFg) (active : Bool) (mix : Int) : GraphOut :=
  let swap := fg.phase = .preroll || fg.phase = .fade
  let runA := ! active || swap
  let runB := active || swap
  let a := if runA then runSections c.bankA.secs fg.secA mix else (0, fg.secA)
  let b := if runB then runSections c.bankB.secs fg.secB mix else (0, fg.secB)
  let pos := if fg.phase = .idle || fg.waitStart then fg.pos else fg.pos + 1
  let t := min pos fg.len
  let fg := { fg with secA := a.2, secB := b.2, pos := pos }
  let pick (ya yb : Int) : Int :=
    if fg.phase = .fade then (if fg.incoming then crossFade ya yb t fg.len else crossFade yb ya t fg.len)
    else if active then yb else ya
  match c.dfn.fir with
  | none => { y := pick a.1 b.1, fg := fg }
  | some _ =>
    if c.dfn.firFade then
      let fa := if runA then runFir c.bankA.taps fg.firA a.1 else (0, fg.firA)
      let fb := if runB then runFir c.bankB.taps fg.firB b.1 else (0, fg.firB)
      { y := pick fa.1 fb.1, fg := { fg with firA := fa.2, firB := fb.2 } }
    else
      let f := runFir c.bankA.taps fg.firA (pick a.1 b.1)
      { y := f.1, fg := { fg with firA := f.2 } }

/-- What reaches the conversion: zero while settling, weighted during the fade-in (R99). -/
def gated (fg : ChFg) (y : Int) : Int :=
  match fg.phase with
  | .settle => 0
  | .fadeIn => wrap64 (shiftEven (y * (min fg.pos 64 : Nat)) 6)
  | _ => y

/-- The conversion to Q2.22: the mantissa and whether it saturated, judged on the rounded value (R90) (assumption 83). -/
def convert (y : Int) : Int × Bool :=
  let m := shiftEven y 38
  let c := clampI (-(2 ^ 23)) (2 ^ 23 - 1) m
  (c, c != m)

/-- The output start of R99: the first tick whose window holds only samples written since. With SETTLE = 0 it
is the first tick of the fade-in. -/
def ChFg.atStart (fg : ChFg) (settle : BitVec 14) (since : Nat) : ChFg :=
  if fg.phase = .settle && fg.waitStart && 32 ≤ since then
    { fg with waitStart := false, pos := 0, len := settle.toNat, phase := if settle = 0 then .fadeIn else .settle }
  else fg

end Sys2Proof.Machine
end

