-- ==== Sys2Proof/Machine/Signal.lean ====
section
/-! DEFINITION. Class P work of one channel for one tick: estimator, forward model, target, limiter,
law, pilot, share trim, clamps, setpoint (R104 to R116, R131 to R144, R151, R164, R192 to R200, R210,
R212, R220 to R224, R247 to R250), and the injected signals of R375. -/

namespace Sys2Proof.Machine

/-! ## Block-floating stages (R109 to R111) -/

/-- Round the values of one stage to its common exponent; true when the exponent saturates (assumption 35). -/
def bfRound (l : List Rat) : List Rat × Bool :=
  let m := l.foldl (fun a x => maxR a (absR x)) 0
  if m = 0 then (l, false)
  else
    let e := expOf m + 1
    let e' := clampI (-32) 31 e
    let sat := decide (31 < e)
    (l.map fun x =>
      let k := roundEven (x * pow2 (22 - e'))
      ((if sat then clampI (-(2 ^ 23)) (2 ^ 23 - 1) k else k : Int) : Rat) * pow2 (e' - 22), sat)

/-- The common exponent of a stage, the smallest one where every value is 0 (R110). -/
def bfExp (l : List Rat) : Int :=
  let m := l.foldl (fun a x => maxR a (absR x)) 0
  if m = 0 then -32 else clampI (-32) 31 (expOf m + 1)

/-- An operand of a sum, aligned to an exponent with the rounding of R110. -/
def bfAlign (e : Int) (x : Rat) : Rat := (roundEven (x * pow2 (22 - e)) : Rat) * pow2 (e - 22)

/-- The difference of two values of different stages: both are first aligned to the larger exponent (R110). -/
def bfDiff (sx sy : List Rat) (x y : Rat) : Rat :=
  let e := max (bfExp sx) (bfExp sy)
  bfAlign e x - bfAlign e y

/-- The integrator's 48-bit mantissa (R111) (assumption 35). -/
def int48 (x : Rat) : Rat :=
  if x = 0 then 0
  else
    let e := expOf (absR x) + 1
    (roundEven (x * pow2 (46 - e)) : Rat) * pow2 (e - 46)

/-! ## The loudspeaker (R131, R132) -/

/-- State of a driver with its vent. -/
structure Mech where
  i : Rat
  x : Rat
  v : Rat
  xp : Rat
  vp : Rat
  a : Rat
  deriving DecidableEq, Repr

def ChanCfg.vented (c : ChanCfg) : Bool := c.model.kind == 2

def ChanCfg.kBox (c : ChanCfg) : Rat := c.lawP 0x0113 * c.kms0

def ChanCfg.wBox (c : ChanCfg) : Rat := 2 * Config.pi * f32 c.model.fb

/-- Enclosure force. -/
def ChanCfg.boxForce (c : ChanCfg) (x xp : Rat) : Rat := if c.vented then -(c.kBox * (x + xp)) else 0

/-- One tick of the vent, driven by a cone excursion: the damping is taken at the old velocity (DESIGN CHOICE, assumption
88). -/
def ChanCfg.ventStep (c : ChanCfg) (x xp vp : Rat) : Rat × Rat :=
  if c.vented then
    let w := c.wBox
    let vp' := vp + (-(w * w) * (x + xp) - w / c.lawP 0x0114 * vp) / fT
    (xp + vp' / fT, vp')
  else (0, 0)

/-- One tick of the cone under a motor force, semi-implicit Euler (R140). Which terms it takes at the old state, the force
terms, and the order of the states, v, x and then the vent, are the model's (DESIGN CHOICE, assumption 88). -/
def ChanCfg.bodyStep (c : ChanCfg) (kms force : Rat) (m : Mech) : Mech :=
  let a := (force - kms * m.x - c.rms * m.v + c.boxForce m.x m.xp) / c.mms
  let v := m.v + a / fT
  let x := m.x + v / fT
  let p := c.ventStep x m.xp m.vp
  { m with x := x, v := v, a := a, xp := p.1, vp := p.2 }

/-- One tick of coil and cone under a terminal voltage: Re·i is taken at the new current and Bl·v at the old velocity
(DESIGN CHOICE, assumption 88). -/
def ChanCfg.driverStep (c : ChanCfg) (bl kms le ret u : Rat) (m : Mech) : Mech :=
  let i := (le * fT * m.i + u - bl * m.v) / (le * fT + ret)
  c.bodyStep kms (bl * i) { m with i := i }

/-! ## What a tick's class P work reads from outside the channel -/

structure PEnv where
  n : Chan
  bench : Bool
  tick : Nat
  now : Nat
  /-- V_P of the stage die, and its attenuations in dB. -/
  vp : Rat
  attS : Rat
  attM : Rat
  dieFallback : Bool
  muted : Bool
  outs : List (Nat × Int)
  since : Nat
  /-- Mains phase in [0, 1), and the factor of a running REP fade (R146, R147). -/
  phase : Option Rat
  repFactor : Rat
  /-- The partner half drives the channel too; the pair is joined; the half follows. -/
  joined : Bool
  carried : Bool
  /-- The channel rejoins, which holds its pilot at 0 (R261). -/
  rejoining : Bool
  follow : Bool
  /-- Partner CUR with a good VALID marker, in A; partner gain; the lead's TERM. -/
  cur : Option Rat
  gain : Option Rat
  term : Rat
  /-- The injection at this channel: point and value. -/
  inj : Option (Nat × Rat)
  deriving DecidableEq, Repr

/-- V_P of a die (R108, R186). -/
def DieState.vp (d : DieState) : Rat := (d.pvdd.toNat : Rat) / 1024

/-! ## Estimator and forward model (R135 to R140) -/

/-- Re_t for a tick: source, slew and clamp (R136). A step of 1/1,920 of 2/102 of the value keeps the change
over any 1,920 ticks, which compounds, within 2 % (assumption 38). -/
def reTrack (c : ChanCfg) (k : Channel) (now : Nat) : ChModel :=
  let m := k.model
  let coil := c.re * (1 + c.protP 0x0212 * (k.issue.tc - c.protP 0x0211))
  let (src, want) : BitVec 2 × Rat :=
    match k.issue.rePilot with
    | some (r, t) =>
      if now ≤ t + 19200 then (1, r) else if k.issue.fallback then (0, m.reT) else (2, coil)
    | none => if k.issue.fallback then (0, m.reT) else (2, coil)
  let lim := absR m.reT * (2 / 102) / 1920
  let moved := clampR (m.reT - lim) (m.reT + lim) want
  let lo := 8 / 10 * c.re
  let hi := c.lawP 0x0112 * c.re
  { m with reSrc := src, reT := clampR lo hi moved, reClamp := decide (moved < lo) || decide (hi < moved) }

/-- The low-pass LP_E: last output, last input, input (assumption 38). -/
def lpE (c : ChanCfg) (y x0 x1 : Rat) : Rat :=
  let g := Config.tanR (Config.pi * c.lawP 0x0110 / fT)
  ((1 - g) * y + g * (x1 + x0)) / (1 + g)

/-- The estimator and the forward model for a tick (assumption 38). -/
def estimate (c : ChanCfg) (k : Channel) (e : PEnv) : ChModel :=
  let m := reTrack c k e.now
  if k.stage.bridge = 0 then
    { m with
      x := 0, v := 0, a := 0, vRaw := 0, aRaw := 0, uPrev := 0, iPrev := 0, xf := 0, vf := 0, cf := 0,
      xp := 0, vp := 0, fwd := false, tableEdge := false, xClampActing := false }
  else
    let u : Rat := (k.loop.lastV.toInt : Rat) / 131072
    let is : Rat := (k.loop.lastI.toInt : Rat) / 524288
    let f0 : Mech := { i := m.cf, x := m.xf, v := m.vf, xp := m.xp, vp := m.vp, a := 0 }
    let f := c.driverStep (c.blAt m.xf) (c.kmsAt m.xf) (c.leAt m.xf) m.reT
      ((k.loop.setpoint.toInt : Rat) / 131072) f0
    let miss := k.loop.suspect || (e.joined && e.cur.isNone)
    let cap := c.lawP 0x0115 * (u - m.uPrev) * fT
    let i := if miss then f.i
      else is - cap + (if e.joined then e.cur.getD 0 - cap else 0)
    let vr := if miss then f.v
      else (u - m.reT * i - c.leAt m.x * (i - m.iPrev) * fT) / c.blAt m.x
    let v := if miss then f.v else lpE c m.v m.vRaw vr
    let x1 := if miss then f.x else m.x + (v - 2 * Config.pi * c.lawP 0x0111 * m.x) / fT
    let lim := 2 * c.xlim
    let x := clampR (-lim) lim x1
    let acting := x != x1
    let ar := if miss then f.a else (v - m.v) * fT
    let a := if c.dfn.law != 2 then 0 else if miss then f.a else lpE c m.a m.aRaw ar
    let pull (s t : Rat) : Rat := if miss then s else s + (t - s) / 1920
    { m with
      uPrev := u, iPrev := i, vRaw := vr, aRaw := ar, v := v, x := x, a := a,
      cf := pull f.i i, vf := pull f.v v, xf := pull f.x x, xp := f.xp, vp := f.vp, fwd := miss,
      tableEdge := c.table.isSome && (decide (c.xlim < absR m.xf) || (! miss && decide (c.xlim < absR m.x))),
      xClamp := m.xClamp || (acting && ! m.xClampActing), xClampActing := acting }

/-! ## Target (R141) and predictor (R195) -/

/-- One tick of the target response driven by the graph output. -/
def targetStep (c : ChanCfg) (m : ChModel) (y : Rat) : ChModel :=
  if c.dfn.law = 1 || c.dfn.law = 2 then
    let w := 2 * Config.pi * c.lawP 0x0100
    let at_ := c.lawP 0x0102 * dbGain (c.lawP 0x0103)
    let g := Config.tanR (w / (2 * fT))
    let r := 1 / c.lawP 0x0101
    let hp := (y - (r + g) * m.tS1 - m.tS2) / (1 + r * g + g * g)
    let bp := g * hp + m.tS1
    let lp := g * bp + m.tS2
    { m with
      tS1 := 2 * bp - m.tS1, tS2 := 2 * lp - m.tS2,
      xT := lp * at_ / (w * w), vT := bp * at_ / w, aT := hp * at_ }
  else m

/-- The predicted excursion and the predictor's states. -/
def predict (c : ChanCfg) (p : ChProt) (m : ChModel) (y : Rat) : Rat × ChProt :=
  let s0 : Mech := { i := p.cPred, x := p.xPred, v := p.vPred, xp := p.xpPred, vp := p.vpPred, a := 0 }
  let keep (s : Mech) : ChProt :=
    { p with cPred := s.i, xPred := s.x, vPred := s.v, xpPred := s.xp, vpPred := s.vp }
  match c.dfn.law with
  | 0 =>
    let s := c.driverStep c.bl0 c.kms0 c.le0 m.reT (c.lawP 0x0001 * y) s0
    (s.x, keep s)
  | 3 =>
    let s := c.bodyStep c.kms0 (c.bl0 * c.lawP 0x0002 * y) s0
    (s.x, keep s)
  | _ => (m.xT, p)

/-! ## Limiter (R192 to R206) -/

/-- The attack gain of R196 over the requirements, newest first. -/
def attackGain (reqs : List Rat) (la : Nat) : Rat :=
  (reqs.take (la + 1)).zipIdx.foldl
    (fun acc e => minR acc (e.1 + (1 - e.1) * ((la - e.2 : Nat) : Rat) / ((la + 1 : Nat) : Rat))) 1

/-- A_C of R203, dB. -/
def coilAtt (c : ChanCfg) (tc : Rat) : Rat :=
  let w := c.protP 0x0217
  let mx := c.protP 0x0218
  let fl := c.protP 0x0219
  if tc ≤ w then 0 else if mx ≤ tc then fl else fl * (tc - w) / (mx - w)

/-- A(T) of R206, dB. -/
def foldAtt (t : Rat) : Rat := if t ≤ 135 then 0 else if t < 155 then -(t - 135) else -20

/-- The first-order smoother of 10 ms (R192). -/
def smooth (g t : Rat) : Rat := g + (t - g) / 1920

/-- The line of R199 and R200 before the ceiling takes it: V_DIP, none outside a dip. -/
def ChProt.vDip (p : ChProt) (vmax : Rat) : Option Rat :=
  if p.dip then
    let base := 9 / 10 * p.vLow
    let base := match p.dipCap with
      | some q => minR q base
      | none => base
    match p.dipRelease with
    | none => some base
    | some t => some (base + (vmax - base) * (min t 38400 : Nat) / 38400)
  else none

/-- V_CEIL (R198), with the bench limit of R70. -/
def vCeilOf (c : ChanCfg) (k : Channel) (bench : Bool) : Rat :=
  let vmax := c.protP 0x0205
  let v := match k.prot.vDip vmax with
    | some d => minR vmax d
    | none => vmax
  if bench then
    let re := match k.issue.rePilot with
      | some (r, _) => minR c.re r
      | none => c.re
    minR v (Config.sqrtR (2 * re))
  else v

/-- The limiter gain of a tick. -/
def limiter (c : ChanCfg) (k : Channel) (m : ChModel) (e : PEnv) (y : Rat) : ChProt :=
  let (xp, p) := predict c k.prot m y
  let thr := c.protP 0x0202 * c.xlim
  let req := if xp = 0 then 1 else minR 1 (thr / absR xp)
  let reqs := (req :: p.reqs).take (p.la + 1)
  let gx := c.protP 0x0204 * c.xlim
  let seen := if c.dfn.law = 0 then maxR (absR m.x) (absR p.xPred) else absR m.x
  let guard := decide (gx < seen)
  let att := attackGain reqs p.la
  let att := if guard && m.x != 0 then minR att (gx / absR m.x) else att
  let g1 := minR att (p.gX + (1 - p.gX) / (c.protP 0x0203 * fT))
  let g2 := match p.ceilRatio with
    | some r => minR p.gV r
    | none => p.gV + (1 - p.gV) / (c.protP 0x0206 * fT)
  let fb := dbGain (c.protP 0x0220)
  let gc := dbGain (coilAtt c k.issue.tc)
  let g3 := smooth p.gC (if k.issue.cap then minR gc fb else gc)
  let g4 := smooth p.gD (dbGain (minR e.attS e.attM))
  let g5 := smooth p.gF (if k.issue.fallback || e.dieFallback then fb else 1)
  let gl := minR g1 (minR g2 (minR g3 (minR g4 g5)))
  let used := match e.gain with
    | some g => minR gl g
    | none => gl
  let item : Rat × Rat × Rat :=
    if c.dfn.law = 1 || c.dfn.law = 2 then (m.xT, m.vT, m.aT) else (y, 0, 0)
  { p with
    reqs := reqs, gX := g1, gV := g2, gC := g3, gD := g4, gF := g5, gL := gl, gUsed := used,
    line := (item :: p.line).take (p.la + 1), guardFlag := p.guardFlag || (guard && ! p.guardActing),
    guardActing := guard, peakX := peakBits p.peakX (absR m.x),
    coilAge := min (p.coilAge + 1) 1920000 }

/-! ## Test signals -/

/-- Raised cosine from 0 to 1 over n ticks. -/
def rise (t n : Nat) : Rat :=
  if t = 0 then 0 else if n ≤ t then 1
  else (1 - Config.cosR (Config.pi * (t : Rat) / (n : Rat))) / 2

/-- The sweep's demand before g_L (R151). -/
def sweepSignal (c : ChanCfg) (t : Nat) : Rat :=
  let lo := c.lawP 0x0121
  let l : Rat := (3 / 2) / Config.lnR (c.lawP 0x0122 / lo)
  let th := 2 * Config.pi * lo * l * (Config.expR ((t : Rat) / fT / l) - 1)
  c.lawP 0x0125 * (rise t 9600 * rise (288000 - t) 9600) * (316 / 10000) * Config.sinR th

/-- The check signal of R210. -/
def checkSignal (c : ChanCfg) (t : Nat) : Rat :=
  c.vScale / 100 * (rise t 1920 * rise (19200 - t) 1920) *
    Config.sinR (2 * Config.pi * c.protP 0x0230 * (t : Rat) / fT)

/-- The pilot may run (R221). -/
def pilotRuns (c : ChanCfg) (k : Channel) (muted : Bool) : Bool :=
  (k.st = .quiet || k.st.playing) && ! muted && ! k.ident.running && ! k.keep.pilotOff &&
    c.diagP 0x0300 != 0

/-- The pilot weight after a tick (R220, R221); a rejoin stops the pilot at once (R261). -/
def pilotWeight (c : ChanCfg) (k : Channel) (muted rejoining : Bool) : Nat :=
  if muted || rejoining || k.stage.bridge = 0 then 0
  else if pilotRuns c k muted then min (k.diag.weight + 1) 960 else k.diag.weight - 1

/-- Peak and frequency of the pilot: those of the plan while it runs, and the last ones while it stops, so that a plan
without a pilot lets it fade out (R220, R221). -/
def ChDiag.pilotTone (d : ChDiag) (c : ChanCfg) (runs : Bool) : Rat × Rat :=
  if runs then (dbGain (c.diagP 0x0302) * c.vScale, c.diagP 0x0301) else (d.pilA, d.pilF)

/-- PIL of a tick (R220). -/
def pilotOf (tone : Rat × Rat) (weight tick : Nat) : Rat :=
  if weight = 0 then 0
  else tone.1 * rise weight 960 * Config.sinR (2 * Config.pi * tone.2 * (tick : Rat) / fT)

/-! ## Fades (R126, R213) -/

/-- φ after a tick of the running fade. -/
def ChLoop.phiNext (l : ChLoop) : Nat :=
  match l.fading with
  | .none => l.phi
  | .play => min (l.phi + 1536) 98304
  | _ => l.phi - l.fadeStep

/-- The playing state whose demand the channel forms, OFF where it forms none. -/
def Channel.mode (k : Channel) : ChState :=
  if k.st.playing then k.st
  else if (k.st = .quiet && k.loop.fading = .quiet) ||
      (k.st = .rampDown && (k.loop.fading = .quiet || k.loop.fading = .stop)) then k.loop.quietFrom
  else .off

/-! ## The law (R104 to R108, R115, R116, R142 to R144, R222, R247, R248) -/

/-- The terms of a tick. -/
structure Terms where
  r : Rat
  y : Rat
  e : Rat
  ff : Rat
  p : Rat
  i : Rat
  rep : Rat
  t : Rat
  s : Rat
  u : Rat
  deriving DecidableEq, Repr

def Terms.zero : Terms := { r := 0, y := 0, e := 0, ff := 0, p := 0, i := 0, rep := 0, t := 0, s := 0, u := 0 }

/-- The reference of a tick: x_r, v_r, a_r and r, without the pilot model. -/
def reference (c : ChanCfg) (p : ChProt) (phi : Nat) : Rat × Rat × Rat × Rat :=
  let g := p.gUsed * ((phi : Rat) / 98304)
  let d := p.line.getD p.la (0, 0, 0)
  match c.dfn.law with
  | 1 => (g * d.1, g * d.2.1, g * d.2.2, g * d.2.1)
  | 2 => (g * d.1, g * d.2.1, g * d.2.2, g * d.2.2)
  | 3 => (0, 0, 0, c.lawP 0x0002 * g * d.1)
  | _ => (0, 0, 0, c.lawP 0x0001 * g * d.1)

/-- The feed-forward of a tick at a lookup excursion X, and the value it keeps for the next tick. F_B,r takes the vent
state from before the tick's step of it (R143; DESIGN CHOICE, assumption 88). -/
def feedForward (c : ChanCfg) (m : ChModel) (rf : Rat × Rat × Rat × Rat) (x : Rat) : Rat × Rat :=
  let w := c.lawP 0x0017
  if c.dfn.law = 3 then
    (w * (m.reT * rf.2.2.2 + c.leAt x * (rf.2.2.2 - m.ffPrev) * fT), rf.2.2.2)
  else
    let fb := c.boxForce rf.1 m.xpR
    let i := (c.mms * rf.2.2.1 + c.rms * rf.2.1 + c.kmsAt x * rf.1 - fb) / c.blAt x
    (w * (m.reT * i + c.leAt x * (i - m.ffPrev) * fT + c.blAt x * rf.2.1), i)

/-- REP of a tick (R147). -/
def repOf (table : List Rat) (phase : Option Rat) (factor : Rat) : Rat :=
  match phase with
  | none => 0
  | some f =>
    let q := 1024 * f
    let j := q.floor.toNat
    let g := q - (j : Rat)
    factor * ((1 - g) * table.getD j 0 + g * table.getD ((j + 1) % 1024) 0)

/-- Sign of a rational. -/
def sgn (x : Rat) : Int := if x < 0 then -1 else if x = 0 then 0 else 1

/-- The integrator of R107: new value and whether it saturated (assumption 38). -/
def integrate (c : ChanCfg) (l : ChLoop) (e : Rat) : Rat × Bool :=
  let lim := c.lawP 0x0012
  let d := c.lawP 0x0011 * e / fT
  let skip := (l.clampSign != 0 && sgn d = l.clampSign) || (absR l.integ = lim && sgn d = sgn l.integ && d != 0)
  if skip then (l.integ, true)
  else
    let n := int48 (l.integ + d)
    if lim < absR n then (clampR (-lim) lim n, true) else (n, false)

/-- S of a follow half: the clamped integral, the proportional part, and whether the clamp acts. -/
def shareTrim (t : ChTwin) (cur : Option Rat) (own : Rat) : ChTwin :=
  match cur with
  | none => t
  | some il =>
    let e := (il - own) / 2
    let i := clampR (-2) 2 (t.shareI + 20 * e / fT)
    let p := 5 / 100 * e
    let sum := clampR (-2) 2 (p + i)
    let acts := sum != p + i
    { t with shareI := i, shareP := sum - i, shareSat := acts, satRun := if acts then t.satRun + 1 else 0,
             shareFaulted := t.shareFaulted && acts }

/-- What the demand of a tick leaves. -/
structure DemandOut where
  terms : Terms
  loop : ChLoop
  model : ChModel
  ovf : Bool
  deriving DecidableEq, Repr

/-- The lookup excursion X of R143 and R144 in OPEN_LOOP form. -/
def openX (c : ChanCfg) (rf : Rat × Rat × Rat × Rat) : Rat := if c.dfn.law = 3 then 0 else rf.1

/-- TABLE_EDGE after a lookup at X (R134). -/
def ChModel.lookAt (m : ChModel) (c : ChanCfg) (x : Rat) : ChModel :=
  { m with tableEdge := m.tableEdge || (c.table.isSome && decide (c.xlim < absR x)) }

/-- The demand under law 0x00 (R105, R247). The law has no r, and on a half that leads no FF: those probes show 0; Σ_L of a
follow half is no T (R104, R247, R366). -/
def demandOpen (c : ChanCfg) (k : Channel) (m : ChModel) (p : ChProt) (e : PEnv) (phi : Nat) (sh : Rat) : DemandOut :=
  let r := (reference c p phi).2.2.2
  let st := bfRound [r, if e.follow then e.term else 0, sh]
  let g := fun j => st.1.getD j 0
  { terms := { Terms.zero with ff := if e.follow then g 0 else 0, s := g 2, u := g 0 + g 1 + g 2 },
    loop := k.loop, model := m, ovf := st.2 }

/-- The counter c of R119 after a tick in CLOSED_LOOP; the closing tick starts it from 0 (R116). -/
def ChLoop.feNext (l : ChLoop) (beyond : Bool) : Nat :=
  let c := if l.closing then 0 else l.feCount
  if beyond then c + 1 else c - 1

/-- I, INT_SAT, T, C and the ticks left of the transfer in a tick of CLOSED_LOOP, from the open-loop demand
u_ol, the sum of the other terms and T before (R107, R116, R249). -/
def closedTerms (c : ChanCfg) (l : ChLoop) (fwd : Bool) (er uol rest t0 : Rat) : Rat × Bool × Rat × Rat × Nat :=
  let lim := c.lawP 0x0012
  if l.closing then
    let i := int48 (clampR (-lim) lim (uol - (rest + t0)))
    let t := t0 + (uol - (rest + i + t0))
    (i, false, t, t, 63)
  else
    let q := if fwd then (l.integ, false) else integrate c l er
    (q.1, l.intSat || q.2, t0, l.tC, l.tLeft - 1)

/-- The demand of a playing channel or of one that fades out under laws 0x01 to 0x03, before PIL and the
clamps. `m` holds the estimates of the tick, `pilR` what the pilot model adds to the reference, `sh` the share
trim S. A tick of suspect sense, or the tick in which c exceeds TICKS, forms its setpoint in OPEN_LOOP with T
from the last good tick; c and the peak of e move in every tick in CLOSED_LOOP (R112, R115, R119, R120) (assumption
38). The r of the feed-forward is without the pilot model's part (R144, R222) (assumption 79). -/
def demand (c : ChanCfg) (k : Channel) (m : ChModel) (p : ChProt) (e : PEnv) (phi : Nat) (pilR sh : Rat) : DemandOut :=
  if c.dfn.law = 0 then demandOpen c k m p e phi sh
  else
    let l := k.loop
    let mode := k.mode
    let rf := reference c p phi
    let dropped := l.feDue && ! e.carried
    let cut := mode = .closedLoop && (l.suspect || dropped)
    let closed := mode = .closedLoop && ! cut
    let add := if mode = .closedLoop then pilR else 0
    let s1 := bfRound [(reference c p 98304).2.2.2 + add, rf.2.2.2 + add]
    let s2 := bfRound [if c.dfn.law = 1 then m.v else if c.dfn.law = 2 then m.a else m.iPrev]
    let r := s1.1.getD 1 0
    let y := s2.1.getD 0 0
    let s3 := bfRound [bfDiff s1.1 s2.1 r y]
    let er := s3.1.getD 0 0
    let beyond := decide (c.lawP 0x0013 < absR er)
    let count := l.feNext beyond
    let counts := k.st = .closedLoop && ! dropped
    let past := counts && ! e.follow && ! l.dropSent && decide (k.keep.feTicks.toNat < count)
    let drop := past && closed && ! e.carried
    let law := closed && ! drop
    let ffo := feedForward c m rf (openX c rf)
    let ffc := feedForward c m rf m.x
    let ff := if law then ffc else ffo
    let pt := if law then c.lawP 0x0010 * er else 0
    let rep := if law then repOf k.issue.table e.phase e.repFactor else 0
    let vent := c.ventStep rf.1 m.xpR m.vpR
    let m1 := if law then m.lookAt c m.x else m
    let m2 := if ! law || l.closing then m1.lookAt c (openX c rf) else m1
    let m3 := { m2 with ffPrev := ff.2, xpR := vent.1, vpR := vent.2 }
    if e.follow then
      let st := bfRound [ff.1, pt, 0, 0, e.term, sh]
      let g := fun j => st.1.getD j 0
      { terms := { r := r, y := y, e := er, ff := g 0, p := g 1, i := 0, rep := 0, t := 0, s := g 5,
                   u := g 0 + g 1 + g 4 + g 5 },
        loop := { l with closing := false, tLeft := l.tLeft - 1 }, model := m3, ovf := s1.2 || s2.2 || s3.2 || st.2 }
    else
      let first := (cut && ! l.shaped) || drop
      let t0 : Rat := if first then l.lastFb else l.tC * (l.tLeft : Rat) / 64
      let (iv, isat, tv, tC, tLeft) : Rat × Bool × Rat × Rat × Nat :=
        if law then closedTerms c l m.fwd er (ffo.1 + t0 + sh) (ff.1 + pt + rep + sh) t0
        else if first then (l.integ, l.intSat, t0, l.lastFb, 63)
        else (l.integ, l.intSat, t0, l.tC, l.tLeft - 1)
      let st := bfRound [ff.1, pt, if law then iv else 0, rep, tv, sh]
      let g := fun j => st.1.getD j 0
      let l' := { l with
        integ := iv, intSat := isat, tC := tC, tLeft := tLeft, closing := l.closing && ! law,
        shaped := cut || drop, feDue := l.feDue || past,
        feSuspect := if past && ! l.feDue then l.suspect else l.feSuspect,
        lastFb := if law then g 1 + g 2 + g 3 + g 4 else l.lastFb,
        feCount := if counts then count else l.feCount,
        fePeak := if mode = .closedLoop then peakBits l.fePeak (absR er) else l.fePeak }
      { terms := { r := r, y := y, e := er, ff := g 0, p := g 1, i := g 2, rep := g 3, t := g 4, s := g 5,
                   u := g 0 + g 1 + g 2 + g 3 + g 4 + g 5 },
        loop := l', model := m3, ovf := s1.2 || s2.2 || s3.2 || st.2 }

/-- The models of the reference in a tick in which the channel forms no demand: the reference is 0 (R143, R144). -/
def restModel (c : ChanCfg) (m : ChModel) : ChModel :=
  if c.dfn.law = 0 then m
  else
    let vent := c.ventStep 0 m.xpR m.vpR
    { m with ffPrev := (feedForward c m (0, 0, 0, 0) 0).2, xpR := vent.1, vpR := vent.2 }

/-- The pilot model's tick (R222): its states and what it adds to the reference. It runs in CLOSED_LOOP, where
a pilot that has ended lets it ring out. -/
def pilotModel (c : ChanCfg) (d : ChDiag) (ret pil : Rat) (on : Bool) : ChDiag × Rat :=
  if on then
    let s := c.driverStep c.bl0 c.kms0 c.le0 ret pil
      { i := d.cPil, x := d.xPil, v := d.vPil, xp := d.xpPil, vp := d.vpPil, a := 0 }
    ({ d with cPil := s.i, xPil := s.x, vPil := s.v, xpPil := s.xp, vpPil := s.vp },
      if c.dfn.law = 1 then s.v else if c.dfn.law = 2 then s.a else s.i)
  else ({ d with cPil := 0, xPil := 0, vPil := 0, xpPil := 0, vpPil := 0 }, 0)

/-! ## Decimation for the programme frames (R229) -/

/-- Taps of the decimation filter that the model sums (assumption 47). -/
def decimLen : Nat := 1024

/-- The filtered value of a history, newest first. -/
def decimate (l : List Rat) : Rat := (l.take decimLen).zipIdx.foldl (fun a e => a + Config.decimTap e.2 * e.1) 0

/-- One tick of the programme path: every 32nd tick gives a sample of 6 kHz, every 32,768th starts a frame, and
2,048 samples make one. `run`: usable playing ticks in a row (R229) (assumption 47). -/
def ChDiag.progTick (d : ChDiag) (tick : Nat) (u i : Rat) (run : Nat) : ChDiag :=
  let h := ((u, i) :: d.hist).take decimLen
  let slow := if tick % 32 = 31 then ((decimate (h.map (·.1)), decimate (h.map (·.2))) :: d.slow).take 2048 else d.slow
  let age := d.slowAge + 1
  if age < 32768 then { d with hist := h, slow := slow, slowAge := age, progRun := run }
  else { d with hist := h, slow := slow, slowAge := 0, progRun := run,
                frameDue := if slow.length = 2048 then some (slow, decide (65536 ≤ run)) else d.frameDue }

/-! ## Class P work of a channel -/

/-- Open-load blocks (R212). -/
def openBlocks (c : ChanCfg) (k : Channel) (p : ChProt) (u i : Rat) : ChProt :=
  if k.st.playing then
    let su := p.blkU + u * u
    let si := p.blkI + i * i
    if p.blkCount + 1 < 1920 then { p with blkU := su, blkI := si, blkCount := p.blkCount + 1 }
    else
      let lim := c.protP 0x0235
      let rr := c.protP 0x0234 * c.re
      let open_ := decide (lim * lim ≤ su / 1920) && decide (rr * rr * (si / 1920) < su / 1920)
      { p with
        blkU := 0, blkI := 0, blkCount := 0, openRun := if open_ then p.openRun + 1 else 0,
        openActed := p.openActed && open_, openMs := su / 1920 }
  else { p with blkU := 0, blkI := 0, blkCount := 0, openRun := 0, openActed := false }

/-- The transform sums of the load check over its middle 15,360 ticks (R210). -/
def checkSums (c : ChanCfg) (p : ChProt) (u i : Rat) : ChProt :=
  match p.check with
  | none => p
  | some t =>
    let w := 2 * Config.pi * c.protP 0x0230 * (t : Rat) / fT
    let on := 1920 ≤ t && t < 17280
    let co := if on then Config.cosR w else 0
    let si := if on then Config.sinR w else 0
    { p with
      check := some (t + 1), chkUre := p.chkUre + u * co, chkUim := p.chkUim - u * si,
      chkIre := p.chkIre + i * co, chkIim := p.chkIim - i * si }

/-- The learner's sums of a tick, from its error and its transfer term (R148, R149). FREEZE and RL_GAIN are read at the
update alone (assumption 41). -/
def learnTick (c : ChanCfg) (k : Channel) (e : PEnv) (er tr : Rat) : ChLearn :=
  let l := k.learn
  match e.phase with
  | some f =>
    if c.dfn.law = 0 || e.follow then l
    else
      let j := (1024 * f).floor.toNat
      let bad := k.st != .closedLoop || k.loop.suspect || k.loop.fading != .none || tr != 0
      { l with
        sums := lset 0 l.sums j (l.sums.getD j 0 + er), counts := lset 0 l.counts j (l.counts.getD j 0 + 1),
        tainted := l.tainted || bad }
  | none => l

/-- A LOOKAHEAD that waits takes effect in the first tick in any other state (R194). -/
def Channel.laTick (k : Channel) (la : Nat) : Channel :=
  if k.prot.laPending && ! k.st.playing then { k with prot := { k.prot with la := la, laPending := false } } else k

/-- The sample of a setpoint code, V (Table 6-1). -/
def codeVolt (c : BitVec 24) : Rat := (c.toInt : Rat) / 131072

/-- The sample of a current code, A (Table 6-3). -/
def codeAmp (c : BitVec 24) : Rat := (c.toInt : Rat) / 524288

/-- The demand that a channel forms beside its law: the sweep of R151, the check signal of R210, or on a follow half its
share trim `sh`, S_PIL included, with Σ_L in QUIET (R224, R247, R248, R254). -/
def testDemand (c : ChanCfg) (k : Channel) (e : PEnv) (p : ChProt) (sh : Rat) : Rat :=
  if e.follow then (if k.st = .quiet && ! k.ident.running then e.term else 0) + sh
  else if k.ident.running && k.ident.t < 288000 then p.gUsed * sweepSignal c k.ident.t
  else match p.check with
    | some t => if t < 19200 then checkSignal c t else 0
    | none => 0

/-- Probes that are no class P values: u, i_s, T_c, V_P and the limit acts (Table 15-1). -/
def heldProbe (p : Nat) : Bool := p != 17 && p != 18 && p != 29 && p != 30 && p != 31

/-- What a class P work that missed leaves: the setpoint repeats, no term is new, and the integrator does not
advance; fades and the transfer count ticks on, supervision runs on what the tick `t` found, and the class P probes
repeat (R24, R112, R119, R366). -/
def ChLoop.missed (l : ChLoop) (phi : Nat) (t : ChLoop) (probes : List Rat) : ChLoop :=
  { l with
    phi := phi, staged := l.setpoint, tLeft := l.tLeft - 1, feCount := t.feCount, fePeak := t.fePeak, feDue := t.feDue,
    feSuspect := t.feSuspect,
    probes := probes.zipIdx.map fun e => if heldProbe e.2 then l.probes.getD e.2 0 else e.1 }

/-- Class P work of CHn for the tick that ends, and the estimator inputs that it leaves. The setpoint
stands in `loop.staged`. `done` is the completion flag of R21 (assumption 38). -/
def classP (c : ChanCfg) (k : Channel) (e : PEnv) (done : Bool) : Channel :=
  let k := k.laTick c.lookahead
  let u := codeVolt k.loop.lastV
  let is := codeAmp k.loop.lastI
  let at_ (pt : Nat) : Rat := match e.inj with
    | some q => if q.1 = pt then q.2 else 0
    | none => 0
  let fg := k.fg.atStart k.fgk.settle e.since
  let mix := wrap64 (mixOf c k.fgk e.outs (roundEven (at_ 0 * 2147483648)) +
    roundEven (at_ 1 * 1152921504606846976))
  let gr := graphTick c fg k.fgk.active mix
  let (mant, sat) := convert (gated gr.fg gr.y)
  let y : Rat := ((clampI (-(2 ^ 23)) (2 ^ 23 - 1) (mant + roundEven (at_ 2 * 4194304)) : Int) : Rat) / 4194304
  let m := targetStep c (estimate c k e) y
  let p := limiter c k m e y
  let phi := k.loop.phiNext
  let weight := pilotWeight c k e.muted e.rejoining
  let tone := k.diag.pilotTone c (pilotRuns c k e.muted)
  let pilAll := pilotOf tone weight e.tick
  let pil := if e.follow then 0 else pilAll
  let pm := pilotModel c k.diag m.reT pilAll (k.mode = .closedLoop && c.dfn.law != 0)
  let tw0 := if e.follow then shareTrim k.twin e.cur is else k.twin
  let tw := { tw0 with roleNew := false }
  let trim := tw.shareP + tw.shareI
  let sh := if e.follow then pilAll + trim else 0
  let playing := k.mode != .off && ! k.ident.running
  let runs := playing || (k.stage.bridge = 2 && (k.st = .quiet || k.st = .retry)) ||
    (k.stage.bridge != 0 && k.st = .rampDown)
  let base : DemandOut :=
    if playing then demand c k m p e phi pm.2 sh
    else { terms := { Terms.zero with s := if runs then sh else 0 }, loop := { k.loop with clampSign := 0, tLeft := k.loop.tLeft - 1 }, model := restModel c m,
           ovf := false }
  let raw := base.terms.u + pil + (if playing then 0 else testDemand c k e p sh) + at_ 3 * c.vScale
  let raw := if runs && ! (e.muted && ! playing) then raw else 0
  let ceil := vCeilOf c k e.bench
  let u1 := clampR (-ceil) ceil raw
  let lim := 95 / 100 * e.vp
  let s5 := bfRound [u1, clampR (-lim) lim u1]
  let ud := clampR (-lim) lim (s5.1.getD 1 0)
  let ceilAct := u1 != raw
  let clampAct := decide (lim < absR u1)
  let usable := ! ceilAct && ! clampAct && ! k.stage.stat.limiting && ! (e.joined && e.cur.isNone) && ! k.twin.roleNew
  let full := weight == 960
  let size := if c.diagP 0x0300 = 2 then 192000 else 1920
  let i := base.model.iPrev
  let prot := checkSums c (openBlocks c k { p with
    vCeil := ceilAct, ceilRatio := if ceilAct then some (ceil / absR raw) else none,
    powSum := p.powSum + i * i } u i) u i
  let t := base.terms
  let probes : List Rat :=
    (List.range 4).map (fun j => match c.dfn.inputs[j]? with
      | some q => (slotOut e.outs q.1 : Rat) / 2147483648 + (if j = 0 then at_ 0 else 0)
      | none => 0) ++
    [ (mix : Rat) / 1152921504606846976, y, t.r, t.y, t.e, t.ff, t.p, t.i, t.rep, t.t, t.s, ud, pil ] ++
    [ u, is, i, m.v, m.x, m.a, m.xT, p.gUsed, p.gX, p.gC, p.gD, m.reT, k.issue.tc, e.vp, (k.stage.actsTick : Rat) ]
  let code := BitVec.ofInt 24 (roundEven (ud * 131072))
  let loop := if done then
      { base.loop with
        phi := phi, staged := code, demandClamp := clampAct, probes := probes,
        bfOvf := base.loop.bfOvf || base.ovf || s5.2, bfActing := base.ovf || s5.2,
        clampSign := if ceilAct || clampAct then sgn raw else 0 }
    else k.loop.missed phi base.loop probes
  { k with
    loop := loop, model := base.model, prot := prot, learn := learnTick c k e t.e t.t,
    twin := tw,
    ident := if k.ident.running then
        { k.ident with t := k.ident.t + 1, samples := (u, i) :: k.ident.samples }
      else k.ident,
    fg := gr.fg,
    fgk := { k.fgk with
      sat := if sat then satInc k.fgk.sat else k.fgk.sat, satNow := sat, gainPos := min (k.fgk.gainPos + 1) 64 },
    diag :=
      let d := { pm.1 with
        weight := weight, pilotOn := weight != 0, pilA := tone.1, pilF := tone.2,
        window := ((u, i, usable, full) :: k.diag.window).take size }
      let run := if usable && k.st.playing then k.diag.progRun + 1 else 0
      if c.diagP 0x0303 = 0 then { d with progRun := run, hist := [], slow := [], slowAge := 0, frameDue := none }
      else d.progTick e.tick u i run }

end Sys2Proof.Machine
end

