-- ==== Sys2Proof/Machine/Ends.lean ====
section
/-! DEFINITION. Endings that several commands share: refusals of loads and patches (R64, R422), ends
of sessions (R306), of injections and trace runs (R370, R376), the removal of a build, resets of one
channel and of the core die (R330 to R334), the entry to HALT (R324), and the writing of journal
entries (R342 to R347). -/

namespace Sys2Proof.Machine

/-! ## Refusal codes (Table 2-16) -/

def codeState : Nat := 0x01
def codeBusy : Nat := 0x02
def codeLength : Nat := 0x03
def codeFormat : Nat := 0x04
def codeMode : Nat := 0x05
def codeRollback : Nat := 0x06
def codeKey : Nat := 0x07
def codeSignature : Nat := 0x08
def codeDecrypt : Nat := 0x09
def codeClaim : Nat := 0x0A
def codeGrowth : Nat := 0x0B
def codeStream : Nat := 0x0C
def codeParam : Nat := 0x0D
def codeStability : Nat := 0x0E
def codeTwin : Nat := 0x0F
def codeBench : Nat := 0x10
def codeTimeout : Nat := 0x11
def codePortLost : Nat := 0x12
def codeAborted : Nat := 0x13
def codeTarget : Nat := 0x14
def codeSequence : Nat := 0x15
def codePatchField : Nat := 0x16
def codeStore : Nat := 0x17

/-- The offset that names no field (R420). -/
def noOffset : BitVec 32 := 0xFFFFFFFF

/-- A refusal: code, kind and offset written, event, entry (R64, R422). -/
def State.refuseBld (s : State) (patch : Bool) (src code : Nat) (at_ : BitVec 32)
    (digest : BitVec 128 := 0) (data : List Byte := []) : State :=
  let s := { s with bld := { s.bld with
    lastKind := patch, lastCode := BitVec.ofNat 8 code, refuseAt := at_ } }
  s.jotRaise src (if patch then 0x05 else 0x04) 1 code 0xFF data Ev.buildRefused 0xFF code (some digest)

/-- A load in progress ends with a refusal (R61). -/
def State.endLoad (s : State) (src code : Nat) (at_ : BitVec 32) (digest : BitVec 128 := 0)
    (data : List Byte := []) : State :=
  ({ s with ldr := { s.ldr with phase := .idle } }).refuseBld false src code at_ digest data

/-- A load in progress ends with a code, if there is one. -/
def State.cutLoad (s : State) (src code : Nat) : State :=
  if s.ldr.phase = .idle then s else s.endLoad src code noOffset

/-- A load that still receives through a port ends with PORT_LOST (R61, R279). -/
def State.portLost (s : State) (p : Port) : State :=
  if s.ldr.phase = .receiving && s.bld.port = (p = Port.b) then s.endLoad 6 codePortLost noOffset else s

/-- A patch check, a patch that awaits its boundary or a held patch is under way. -/
def Loader.patchBusy (l : Loader) : Bool := l.patchCheck || l.accepted.isSome || l.heldPatch.isSome

/-- Empty the patch buffer. -/
def Loader.emptyPatch (l : Loader) : Loader :=
  { l with owner := none, patchWords := [], patchOver := false, patchCheck := false, accepted := none,
           heldPatch := none, heldApply := none }

/-- Bytes of a slice are all 0. -/
def zeros (l : List Byte) (off n : Nat) : Bool := (slice l off n).all (· = 0)

/-! ## Build header (Table 2-4) -/

structure Header where
  framed : Bool
  magic : Bool
  format : Nat
  kind : Nat
  mode : Nat
  rollback : BitVec 64
  imageLen : Nat
  payloadLen : Nat
  target : BitVec 128
  patchSeq : BitVec 32
  id : BitVec 128
  deriving DecidableEq, Repr

def parseHeader (b : List Byte) : Header :=
  { framed := byteAt b 0 = 1 && byteAt b 1 = 1 && zeros b 2 2 && field b 4 4 = 128 && zeros b 52 4 &&
      zeros b 80 48 && 128 ≤ b.length,
    magic := slice b 8 4 = [0x46, 0x4C, 0x36, 0x34],
    format := field b 12 2, kind := field b 14 1, mode := field b 15 1,
    rollback := BitVec.ofNat 64 (field b 16 8), imageLen := field b 24 4, payloadLen := field b 28 4,
    target := BitVec.ofNat 128 (beNat (slice b 32 16)), patchSeq := BitVec.ofNat 32 (field b 48 4),
    id := BitVec.ofNat 128 (beNat (slice b 56 16)) }

/-! ## Patches that end early -/

/-- The bytes of the patch buffer. -/
def Loader.patchBytes (l : Loader) : List Byte := l.patchWords.reverse.flatMap fun w => leBytes 4 w.toNat

/-- Data of a KIND 0x05 entry: PATCH_SEQ and the first 12 bytes of TARGET_DIGEST. -/
def patchData12 (seq : BitVec 32) (target : BitVec 128) : List Byte :=
  leBytes 4 seq.toNat ++ (beBytes 16 target.toNat).take 12

/-- What the entry of a patch names: the first 16 bytes of its SHA-384, its PATCH_SEQ and its TARGET_DIGEST, of a patch under
check those of the bytes in the buffer (Table 13-5). -/
def Loader.patchNamed (l : Loader) : BitVec 128 × List Byte :=
  match l.accepted, l.heldPatch with
  | some p, _ => (p.digest16, patchData12 p.seq p.target16)
  | none, some (p, _, _) => (p.digest16, patchData12 p.seq p.target16)
  | none, none =>
    let h := parseHeader l.patchBytes
    (first16 (Config.sha384 l.patchBytes), patchData12 h.patchSeq h.target)

/-- A patch check or a held patch ends with a code (R66, R331, R252) (assumption 32). -/
def State.cutPatch (s : State) (src code : Nat) : State :=
  if s.ldr.patchBusy then
    let e := s.ldr.patchNamed
    ({ s with ldr := s.ldr.emptyPatch }).refuseBld true src code noOffset e.1 e.2
  else s

/-! ## Sessions and port switches -/

/-- READY: LOCKED, a session, and each of the last 64 frames accepted (Table 10-1). -/
def LinkPort.isReady (l : LinkPort) : Bool := l.lane = .locked && l.session.isSome && 64 ≤ l.accRun

/-- A switch trigger strikes a port (R278): with the other port READY the switch happens at the next boundary, else
it is pending. Causes as LNK_SWITCH.LAST_CAUSE. -/
def State.switchTrigger (s : State) (p : Port) (cause : BitVec 3) : State :=
  if s.link.active = some p && (s.port p).auto then
    if (s.port p.other).isReady then { s with link := { s.link with dueSwitch := some cause } }
    else { s with link := { s.link with pendSwitch := some cause } }
  else s

/-- σ of a port's session, 0 with none. -/
def LinkPort.sigma (l : LinkPort) : BitVec 16 :=
  match l.session with
  | some x => x.num
  | none => 0

/-- Queues emptied and readouts ended (R289). -/
def LinkPort.emptyQueues (l : LinkPort) : LinkPort :=
  { l with evtQ := [], rptQ := [], jrnRead := none, trcRead := none, attest := none, attestQ := [] }

/-- The port number of Table 11-11 and R345: 0x0A, 0x0B. -/
def portCode : Port → Byte
  | .a => 0x0A
  | .b => 0x0B

/-- Data of a KIND 0x0A entry: port, σ, rollback counter. -/
def secData (port : Byte) (sigma : BitVec 16) (rb : BitVec 64) : List Byte :=
  [port, 0] ++ leBytes 2 sigma.toNat ++ [0, 0, 0, 0] ++ leBytes 8 rb.toNat

/-- The rollback counter (R294). -/
def State.rbCounter (s : State) : BitVec 64 :=
  s.fuse.rb.foldl (fun m r => if r.used && r.valid && m < r.value then r.value else m) 0

/-- A session ends with a cause of Table 11-18 (R306). -/
def State.endSession (s : State) (p : Port) (cause : Nat) : State :=
  match (s.port p).session with
  | none => s
  | some x =>
    let s := s.modPort p fun l => { l.emptyQueues with session := none, accRun := 0 }
    let src := if cause = 1 then p.master.num else if cause = 4 || cause = 5 || cause = 6 then 0 else 0x12
    let s := s.jotRaise src 0x0A 0 cause 0xFF (secData (portCode p) x.num s.rbCounter)
      Ev.sessionEnded p.num cause (some x.leaf16)
    (s.switchTrigger p (if cause = 2 then 0b110 else if cause = 3 then 0b011 else 0b100)).portLost p

/-- At a cutover the older session ends with no end entry: queues and readouts end, and the end is a switch trigger.
The port has a session throughout, so a load through it goes on (R278, R289, R306) (assumption 56). -/
def State.endOlder (s : State) (p : Port) : State :=
  if (s.port p).session.isNone then s else (s.modPort p fun l => l.emptyQueues).switchTrigger p 0b100

/-- A session comes into force on a port: event and entry (assumption 56). -/
def State.establish (s : State) (p : Port) (x : Session) : State :=
  let s := s.endOlder p
  let s := s.modPort p fun l => { l with session := some x, pendSess := none, untrusted := false }
  s.jotRaise p.master.num 0x0A 0 0 0xFF (secData (portCode p) x.num s.rbCounter) Ev.sessionEstablished p.num 0
    (some x.leaf16)

/-- A pending session comes into force at once on a port that has no session in force (R304) (assumption 56). -/
def State.promote (s : State) (p : Port) : State :=
  match (s.port p).session, (s.port p).pendSess with
  | none, some y => s.establish p y
  | _, _ => s

/-- A session that waits for its first frame ends before it is in force (R306). -/
def State.endPending (s : State) (p : Port) (cause : Nat) : State :=
  match (s.port p).pendSess with
  | none => s
  | some x =>
    (s.modPort p fun l => { l with pendSess := none }).jotRaise 0 0x0A 0 cause 0xFF
      (secData (portCode p) x.num s.rbCounter) Ev.sessionEnded p.num cause (some x.leaf16)

/-- Every session ends, the pending ones too. -/
def State.endSessions (s : State) (cause : Nat) : State :=
  (((s.endPending .a cause).endSession .a cause).endPending .b cause).endSession .b cause

/-! ## Security (chapter Security and Trust) -/

/-- DBG_LOCK is in force (R294, R309). -/
def State.dbgLock (s : State) : Bool := s.fuse.dbg != 0 || s.keeper.lockNow

/-- SEC_LAST (Table 11-16). -/
def State.secLast (s : State) (src code : Nat) : State :=
  { s with keeper := { s.keeper with lastCode := BitVec.ofNat 8 code, lastSource := BitVec.ofNat 8 src } }

/-- A security refusal: SEC_LAST, event, and an entry where Table 11-13 asks for one. -/
def State.secRefuse (s : State) (src code : Nat) (jot : Bool) (port : Byte := 0) (sigma : BitVec 16 := 0) : State :=
  let s := s.secLast src code
  if jot then
    s.jotRaise src 0x0A 1 code 0xFF (secData port sigma s.rbCounter) Ev.securityRefused 0xFF code (some 0)
  else s.raise Ev.securityRefused 0xFF code

/-! ## Result codes (Table 11-10) -/

def secOk : Nat := 0x00
def secState : Nat := 0x01
def secSequence : Nat := 0x02
def secFormat : Nat := 0x03
def secPoint : Nat := 0x04
def secChain : Nat := 0x05
def secSignature : Nat := 0x06
def secRevoked : Nat := 0x07
def secFuse : Nat := 0x08
def secKeeper : Nat := 0x09
def secRng : Nat := 0x0A
def secPending : Nat := 0x0B
def secBusy : Nat := 0x0C
def secJournal : Nat := 0x0D

/-- SERIAL as its 8 shadow bytes (R419). -/
def serialBytes : List Byte := leBytes 8 Config.serial.toNat

/-- The check of the buffer: FORMAT, POINT or SIGNATURE, or the owner key hash. -/
def enrollVerdict (buf : List Byte) (nonce : BitVec 256) : Except Nat (BitVec 384) :=
  let key := slice buf 0 97
  let h := Config.sha384 (ascii "FL64 ENROLL" ++ serialBytes ++ beBytes 32 nonce.toNat)
  if ! (slice buf 97 3).all (· = 0) then .error secFormat
  else if ! Config.pointValid key then .error secPoint
  else if ! Config.ecdsaVerify key h (slice buf 100 96) then .error secSignature
  else .ok (Config.sha384 key)

/-- VAUX lies within its range of 5.0 V ±5 % (R294, R298). -/
def State.vauxRange (s : State) : Bool := 4750 ≤ s.pwr.vauxMv && s.pwr.vauxMv ≤ 5250

/-- Program the first unused rollback slot. -/
def progRb (v : BitVec 64) (ok : Bool) : List RbSlot → List RbSlot
  | [] => []
  | r :: t => if r.used then r :: progRb v ok t else { used := true, valid := ok, value := if ok then v else r.value } :: t

/-- The owner slots after a reset during an enrollment: the check had not passed, slot 0 was in the middle of its
write, or slot 0 had failed its read-back and slot 1 was. Which, is free where the check would pass (R294, R298)
(assumption 57). -/
def Fuses.enrollCut (f : Fuses) (passes : Bool) (at_ : BitVec 2) : Fuses :=
  if ! passes || at_ = 0 then f
  else
    let f := { f with owner0 := { f.owner0 with used := true, valid := false } }
    if at_ = 1 then f else { f with owner1 := { f.owner1 with used := true, valid := false } }

/-- Fuses after a reset that may cut a write in progress: a slot in the middle of its write is used and
not valid (R294). Whether the write had begun, and which DBG_LOCK bits had blown, is free (assumption 57). -/
def State.fuseCut (s : State) : Fuses :=
  let f := s.fuse
  let began := Config.freeBits 1 s.fresh = 1
  let f := if s.keeper.fuseBusy && began then { f with rb := progRb 0 false f.rb } else f
  let f := match s.win.enrollCheck with
    | some (_, buf, nonce) => f.enrollCut (enrollVerdict buf nonce).isOk (Config.freeBits 2 s.fresh)
    | none => f
  if s.keeper.lockBusy then { f with dbg := f.dbg ||| Config.freeBits 3 s.fresh } else f

/-! ## Trace and injection -/

/-- The buffer that a run records into. -/
def TrcRam.buf (r : TrcRam) (b : Bool) : TrcBuf := if b then r.buf1 else r.buf0

def TrcRam.setBuf (r : TrcRam) (b : Bool) (v : TrcBuf) : TrcRam :=
  if b then { r with buf1 := v } else { r with buf0 := v }

/-- A run ends early, without COMPLETE (R370) (assumption 61). -/
def State.trcEnd (s : State) : State :=
  { s with trc := { s.trc with state := .idle, armPending := false, manualTrig := false, left := 0 } }

/-- An injection ends; its end is journalled (R376) (assumption 59). -/
def State.injEnd (s : State) : State :=
  if s.flx.injOn then
    ({ s with flx := { s.flx with injOn := false, injFade := none } }).jot 0x10 0x01 0 0 s.flx.injCh.val
      [0x0B, 0x04, 1] (some (regDigest 0x0B 0x04 [0]))
  else s

/-- A running injection starts its fade-out of 64 ticks (R376). -/
def State.injFadeOut (s : State) : State :=
  if s.flx.injOn && s.flx.injFade.isNone then { s with flx := { s.flx with injFade := some 64 } } else s

/-! ## Cut bursts (R38) -/

/-- A burst of a master is cut by its reset: the dropped beats are recorded (R38) (assumption 25). -/
def State.cutBurst (s : State) (m : Master) (target beats addr : Nat) : State :=
  let s := s.mxLog m target 2 beats
  s.jotRaise m.num 0x10 7 0 0xFF (mxData s.pace addr) Ev.burstCut 0xFF 0

/-- A master may be reset in the middle of a burst; whether it is, and what the burst was, is free (assumption 25). -/
def State.cutMaybe (s : State) (m : Master) : State :=
  let (d, s) := s.draw
  if Config.freeBits 1 d = 1 then
    s.cutBurst m (Config.freeBits 3 d).toNat ((Config.freeBits 5 d).toNat % 17) (Config.freeBits 32 d).toNat
  else s

/-! ## One channel's reset (Table 12-8, R332) -/

/-- T_c = T_m = T_AMB, Re_t at the clamped value of its source, the cap of R204, and LOOKAHEAD in force
(R136, R194, R201, R204). -/
def Channel.startModels (k : Channel) (c : ChanCfg) : Channel :=
  let amb := c.protP 0x0210
  let re := c.re * (1 + c.protP 0x0212 * (amb - c.protP 0x0211))
  { k with
    model := { k.model with reT := clampR (8 / 10 * c.re) (c.lawP 0x0112 * c.re) re, reSrc := 2 }
    prot := { k.prot with tc := amb, tm := amb, coilCap := true, la := c.lookahead }
    issue := { k.issue with tc := amb, cap := true } }

/-- A pre-roll or fade that a reset clears ends with its incoming bank active (R98, R100). The reset is what is reported:
no bank-swap-complete event and no entry of a swap (assumption 80). -/
def Channel.endFade (k : Channel) : Channel :=
  if k.fg.phase = .preroll || k.fg.phase = .fade then
    { k with fgk := { k.fgk with active := k.fg.incoming } }
  else k

/-- Start a settle of the graph (R99, R100). -/
def Channel.settle (k : Channel) (wait : Bool) : Channel :=
  { k with fg := { ChFg.reset with phase := .settle, waitStart := wait, len := k.fgk.settle.toNat } }

/-- The protection state of a channel whose build goes: V_DIP follows the supply of the device, not the build
(R199, R200) (assumption 72). -/
def ChProt.keepDip (p : ChProt) : ChProt :=
  { ChProt.reset with dip := p.dip, vLow := p.vLow, dipCap := p.dipCap, dipRelease := p.dipRelease }

/-- Everything that Table 12-8 clears for CHR. The settle of R100 starts at once, also where R99's output start was still
awaited (assumption 80). -/
def Channel.chr (k : Channel) (c : ChanCfg) : Channel :=
  let k1 : Channel := { k with
    st := if k.st = .tripped then .tripped else .off
    cls := .reset, issue := .reset
    loop := .reset, model := .reset, learn := .reset, ident := .reset, prot := .reset
    diag := .reset, twin := .reset
    stage := { ChStage.reset with fbBad := k.stage.fbBad } }
  ((k1.startModels c).endFade).settle false

/-- A channel without a build: what a build load or the loss of the build clears is cleared; settings
and FB_FAULT stay, those of Tables 3-7 and 3-8 do not (R418); an engine failure stays TRIPPED (R122, R227, Table 4-7) (assumption 31). -/
def Channel.unbuilt (k : Channel) : Channel :=
  let eng := k.st = .tripped && k.keep.tripCause.toNat = causeEngine
  { Channel.reset with
    st := if eng then .tripped else .off
    keep := { ChKeep.reset with
      holdOpen := k.keep.holdOpen, playOnRecover := k.keep.playOnRecover, freeze := k.keep.freeze,
      pilotOff := k.keep.pilotOff, fbFault := k.keep.fbFault,
      tripCause := if eng then k.keep.tripCause else 0 }
    prot := k.prot.keepDip
    fgk := .reset }

/-! ## Timing references (R20) -/

/-- The reference that R20 gives: 0 free, 1 twin, 2 crystal, 3 link. -/
def State.refWanted (s : State) : BitVec 2 :=
  let follower := match s.plan with
    | some t => t.tbFollower
    | none => false
  let declared := match s.bld.build with
    | some b => b.claim.xtal
    | none => false
  if follower && s.swp.laneUp then 1
  else if declared && s.mtb.xtalRuns && s.mtb.xtalOk then 2
  else match s.link.active with
    | some p => if (s.port p).lane = .locked then 3 else 0
    | none => 0

/-- MTB takes the reference that R20 gives; a change is counted, and free running is reported as it begins. The free run
of a device that has had no reference since its boot raises no event (DESIGN CHOICE, assumption 84). -/
def State.reReference (s : State) : State :=
  let w := s.refWanted
  if w = s.mtb.refSrc then s
  else
    let s := { s with mtb := { s.mtb with
      refSrc := w, refLocked := false, refRun := 0, refChanges := satInc s.mtb.refChanges } }
    if w = 0 then s.raise Ev.referenceLost 0xFF 0 else s

/-- Set the class in force; a change raises the event and journals (R233). -/
def State.setClass (s : State) (n : Chan) (new : BitVec 4) : State :=
  let d := (s.ch n).diag
  if d.cls = new then s
  else
    let data := [d.cls.setWidth 8, new.setWidth 8] ++ leBytes 4 (toF32 d.re).toNat ++
      leBytes 4 (toF32 d.fs).toNat ++ leBytes 4 (toF32 d.coh).toNat
    let s := s.modCh n fun k => { k with diag := { k.diag with cls := new } }
    s.jotRaise 0x10 0x0D 0 0 n.val data Ev.diagnosticClass n.val new.toNat

/-! ## Twin state that goes with the build -/

/-- Data of a KIND 0x08 entry. -/
def State.twinData (s : State) : List Byte := leBytes 8 s.swp.lead.toNat ++ leBytes 8 s.swp.twinHead.toNat

/-- A KIND 0x08 entry. -/
def State.jotTwin (s : State) (src out : Nat) (idx : Nat := 0xFF) : State := s.jot src 0x08 out 0 idx s.twinData

/-- The first condition of R243 that fails, coded as Table 9-10 does, 0 when none does (assumption 50). -/
def State.joinCheck (s : State) : BitVec 4 :=
  if ! s.swp.laneUp then 1
  else if ! s.swp.tbLock then (if s.swp.joinCode = 6 then 6 else 1)
  else match s.plan, s.swp.partnerPlan with
    | some p, some q =>
      if p.pairId != q.pairId then 3
      else if p.twinMask != q.twinMask || p.leadMask ^^^ q.leadMask != p.twinMask then 4
      else if p.tbFollower = q.tbFollower then 5
      else 0
    | _, _ => 2

/-- Write JOIN_CODE; it reads 0 of a joined pair alone (assumption 50). -/
def State.setJoin (s : State) : State :=
  { s with swp := { s.swp with joinCode := if s.swp.joined then 0 else if s.joinCheck = 0 then 1 else s.joinCheck } }

/-- A class S fit or sweep of any channel ends before a build goes; classes turn UNKNOWN (R152, R233) (assumption 31). -/
def State.beforeUnbuilt (s : State) : State :=
  s.overChans (fun s n => s.used n) fun s n => (s.abortIdent n).setClass n 0

/-- The pair, a role or solo play ends (R346). -/
def Twin.playsPart (w : Twin) : Bool := w.joined || w.soloAll || w.lead != 0 || w.solo != 0 || w.mismatch != 0

/-- The twin state without a plan: what the plan gave ends, with an entry where a role or the pair ended (Table 12-4, R346). -/
def State.dropTwin (s : State) : State :=
  let t := { s with swp := { Twin.reset with
    laneUp := s.swp.laneUp, laneUpAt := s.swp.laneUpAt, joinCode := s.swp.joinCode, crcErrs := s.swp.crcErrs,
    missed := s.swp.missed, losses := s.swp.losses, twinHead := s.swp.twinHead,
    tbErr := s.swp.tbErr, lastLoss := s.swp.lastLoss, rejoinMask := s.swp.rejoinMask } }
  let t := if s.swp.playsPart then t.jotTwin 0x13 0 else t
  t.setJoin

/-- The build in force goes: channels, twin plan, injection and pages with it (Table 12-4, R233, R376, R390) (assumption
31). -/
def State.dropBuild (s : State) : State :=
  match s.bld.build with
  | none => s
  | some _ =>
    let s := s.injEnd.beforeUnbuilt
    let s := ({ s with
      bld := { s.bld with build := none, patchSeq := 0 }, chans := vmap Channel.unbuilt s.chans,
      mtb := { s.mtb with xtalRuns := false, xtalOk := false, xtalHold := 0 } }).dropTwin
    s.recheckPages.reReference

/-- The channels whose state a change moves (R123). -/
def movedChans (s t : State) : BitVec 64 := maskOf fun n => (t.ch n).st != (s.ch n).st

/-! ## Journal writing (R342 to R347) -/

/-- Bytes 0 to 47 of an entry (Table 13-3, R345). -/
def JEntry.body (e : JEntry) (seq : BitVec 64) : List Byte :=
  let data := slice e.data 0 16
  let head := leBytes 4 e.frame.toNat ++ [e.src, e.kind, e.result, e.index]
  let dig := match e.digest with
    | some d => beBytes 16 d.toNat
    | none => beBytes 16 (first16 (Config.sha384 ([e.src, e.kind, e.result, e.index] ++ data))).toNat
  leBytes 8 seq.toNat ++ head ++ dig ++ data

/-- Write one entry: SEQ, DIGEST, CHAIN, ring of 16,384. -/
def Journal.write (j : Journal) (e : JEntry) : Journal :=
  let body := e.body j.next
  let chain := first16 (Config.sha384 (beBytes 16 j.chain.toNat ++ body))
  { j with
    ents := ((j.next, body ++ beBytes 16 chain.toNat) :: j.ents).take 16384,
    head := j.next, next := j.next + 1, chain := chain }

/-- Write the entry at the head of the queue; a gap entry raises the journal-gap event (R347). -/
def State.jrnWriteOne (s : State) : State :=
  if ! s.jrn.started || s.jrn.failed then s
  else
    match s.jrn.queue with
    | [] => s
    | e :: rest =>
      let t := { s with jrn := Journal.write { s.jrn with queue := rest } e }
      if e.kind = 0x11 then t.raise Ev.journalGap 0xFF 0 (some s.jrn.next) else t

/-- Write every waiting entry. -/
def State.jrnFlush (s : State) : State :=
  (List.range s.jrn.queue.length).foldl (fun s _ => s.jrnWriteOne) s

/-- C_prev of the first entry after a POR or BOR (R344). -/
def journalSeed (nonce : BitVec 256) : BitVec 128 :=
  first16 (Config.sha384 (ascii "FL64 JOURNAL" ++ leBytes 8 Config.serial.toNat ++ beBytes 32 nonce.toNat))

/-! ## Supply entries -/

/-- PWR_CAUSE, 16 bits (Table 12-11). -/
def Snow.cause (w : Snow) : Nat :=
  w.por.toNat + 2 * w.borVaux.toNat + 4 * w.borVddin.toNat + 8 * w.pin.toNat + 16 * w.wake.toNat +
    256 * w.borCount.toNat

/-- The lowest V_low among the dies that are not lost. -/
def State.lowestVLow (s : State) : Rat :=
  let l := (allChans.filter fun n => ! (s.die n.die).lost && (s.ch n).prot.dip).map fun n => (s.ch n).prot.vLow
  match l with
  | [] => 0
  | a :: t => t.foldl minR a

/-- DATA of a KIND 0x0B entry: V_low, a duration in ticks, PWR_CAUSE (Table 13-5) (assumption 45). -/
def State.supplyData (s : State) (ticks : Nat) : List Byte :=
  leBytes 4 (toF32 s.lowestVLow).toNat ++ leBytes 4 ticks ++ leBytes 2 s.snow.cause

/-! ## Device state -/

/-- Journal a change of device state, KIND 0x02, with the mask of the channels it moved (R123), which
stands where the table's other masks of channels stand (assumption 49). -/
def State.jotDev (s : State) (src : Nat) (old new : DevState) (code : Nat) (moved : BitVec 64 := 0) : State :=
  s.jot src 0x02 0 code 0xFF
    ([BitVec.ofNat 8 old.code, BitVec.ofNat 8 new.code, BitVec.ofNat 8 s.dev.haltCause.code] ++
      if moved = 0 then [] else List.replicate 5 0 ++ leBytes 8 moved.toNat)

/-- The entry to HALT (R324). The build stays unless the cause is STORE (Table 12-4) (assumptions 46 and 49). -/
def State.enterHalt (s : State) (src : Nat) (cause : HaltCause) : State :=
  let old := s
  let s := s.overChans (fun s n => (s.ch n).st != .off && (s.ch n).st != .tripped)
    fun s n => s.moveTo src false n .off 0
  let s := if cause = .store then s.cutLoad 6 codeStore else s.cutLoad 6 codeAborted
  let s := if cause = .store then (s.cutPatch 6 codeAborted).dropBuild else s
  let s := { s with dev := { s.dev with
    state := .halt, disarming := false, haltCause := cause, muteTook := 0 } }
  let q := s.jrn.nextSeq
  (s.jotDev src old.dev.state .halt cause.code (movedChans old s)).raise Ev.halt 0xFF cause.code q

/-- A reset that reaches the core die (R330, R334, Table 12-8). `logs`: journal entries, events and trace
RAM contents survive (PIN), and the end of an injection is journalled (R376). The levels of the ADDR pins, which the
board ties, and that of PVDD stand (R326, R333) (assumptions 58 and 65), and a PIN reset does not reach the test-access port
(assumption 87). -/
def State.coreReset (s : State) (held : Held) (snow : Snow) (logs : Bool) : State :=
  let s := if logs then s.injEnd else s
  { State.reset with
    pending := s.pending, now := s.now, fresh := s.fresh + 1, fuse := s.fuseCut, snow := snow,
    twp := { Twp.reset with pins := s.twp.pins }, pwr := { Pwr.reset with pvddHigh := s.pwr.pvddHigh },
    dev := { Dev.reset with held := held, state := if held = .standby then .standby else .boot },
    evt := if logs then { s.evt with raised := 0, alert := false } else Events.reset,
    jrn := if logs then s.jrn else Journal.reset,
    ram6 := if logs then s.ram6 else TrcRam.reset
    tap := if logs then s.tap else Tap.reset }

end Sys2Proof.Machine
end

