-- ==== Sys2Proof/Machine/Power.lean ====
section
/-! DEFINITION. Chapter Supplies, Power States and Resets: device commands, supplies, resets. -/

namespace Sys2Proof.Machine

/-! ## Device commands (R322, R323, Table 12-4) -/

/-- SYS_STATE.REFUSE codes (Table 12-5). -/
def refState : Nat := 1
def refMultiple : Nat := 2
def refMuted : Nat := 3
def refBusy : Nat := 4
def refCause : Nat := 5
def refSupply : Nat := 6

/-- SYS_CTL's window and offset. -/
def wSysCtl : Nat × Nat := (0x00, 0x28)

/-- Refuse a device command. -/
def State.refuseDev (s : State) (m : Master) (bs : List Byte) (code : Nat) : State :=
  let s := { s with dev := { s.dev with refuse := BitVec.ofNat 4 code } }
  let q := s.jrn.nextSeq
  (s.jot m.num 0x01 1 code 0xFF
    ([0x00, 0x28, BitVec.ofNat 8 bs.length] ++ bs.take 13) (some (regDigest 0x00 0x28 bs))).raise
    Ev.deviceCommandRefused 0xFF code q

/-- Accept a device command: the write's entry, the new state, its entry with the channels that the
transition moves, at once or at the event that R323 names, and what it does to them (R123) (assumption 49). -/
def State.toDev (s : State) (m : Master) (bs : List Byte) (new : DevState) (act : State → State := id) : State :=
  let s := s.jotWrite m 0x00 0x28 bs 0
  let old := s.dev.state
  let s := { s with dev := { s.dev with state := new } }
  let moved := maskOf fun n =>
    ((act s).ch n).st != (s.ch n).st || (((act s).ch n).loop.devPlay && ! (s.ch n).loop.devPlay) ||
      ((act s).ch n).loop.heldCmds != (s.ch n).loop.heldCmds
  act (s.jotDev m.num old new 0 moved)

/-- ID_AT_START is 1 and no sweep has started since the build's acceptance. Any sweep counts as the one at start, and one that
a patch asks for later starts at the next QUIET (R150; DESIGN CHOICE, assumption 92). -/
def State.identDue (s : State) (n : Chan) : Bool :=
  match s.cfg n with
  | some c => (c.dfn.law = 1 || c.dfn.law = 2) && c.lawP 0x0120 = 1 && ! (s.ch n).keep.idAtStartDone
  | none => false

/-- What RUN does with one channel (R323). -/
def State.runChan (s : State) (n : Chan) : State :=
  let k := s.ch n
  if k.st = .quiet && ! k.ident.running && ! k.ident.fitPending && ! s.identDue n then
    s.command .device .play n
  else if k.st = .rampUp || k.st = .quiet then
    s.modCh n fun k => { k with loop := { k.loop with runPlay := true, devPlay := true } }
  else s

/-- The service kernel of R39 is whole: the supplies, Larkspur, a link port, and a channel engine with its
stage-die channel. -/
def State.kernelWhole (s : State) : Bool :=
  s.pwr.vauxOk && s.pwr.vddinOk && s.pwr.vioOk && s.pwr.pvddOk && ! s.keeper.failed &&
    ! (s.dev.gone.contains (.link .a) && s.dev.gone.contains (.link .b)) &&
    allChans.any fun n => s.used n && ! (s.die n.die).lost && ! (s.die n.die).shutdown &&
      ! ((s.ch n).st = .tripped && (s.ch n).keep.tripCause.toNat = causeEngine)

/-- DISCARD. -/
def State.discard (s : State) (m : Master) : State :=
  if s.dev.state != .built then s.refuseDev m [0x10] refState
  else (s.cutPatch 6 codeAborted).toDev m [0x10] .unbuilt fun s => s.trcEnd.dropBuild

/-- HALT command. -/
def State.haltCmd (s : State) (m : Master) : State :=
  match s.dev.state with
  | .unbuilt => (s.jotWrite m 0x00 0x28 [0x20] 0).enterHalt m.num .host
  | .built => (s.jotWrite m 0x00 0x28 [0x20] 0).enterHalt m.num .host
  | .armed => (s.jotWrite m 0x00 0x28 [0x20] 0).enterHalt m.num .host
  | .run => (s.jotWrite m 0x00 0x28 [0x20] 0).enterHalt m.num .host
  | _ => s.refuseDev m [0x20] refState

/-- HALT_CLEAR. -/
def State.haltClear (s : State) (m : Master) : State :=
  if s.dev.state != .halt then s.refuseDev m [0x40] refState
  else if s.dev.haltCause = .boot then s.refuseDev m [0x40] refCause
  else
    let s := { s with dev := { s.dev with haltCause := .none } }
    s.toDev m [0x40] (if s.bld.build.isSome then .built else .unbuilt)

/-- A load, a patch check, a held patch, an enrollment or a fuse write is in progress (assumption 46). -/
def State.standbyBusy (s : State) : Bool :=
  s.ldr.phase != .idle || s.ldr.patchBusy || s.win.enrollOpen.isSome || s.win.enrollCheck.isSome ||
    s.keeper.fuseBusy || s.keeper.lockBusy

/-- STANDBY is accepted; the rest follows the transaction or request that carried the command (R325) (assumption 46). -/
def State.standby (s : State) (m : Master) : State :=
  match s.dev.state with
  | .unbuilt | .built | .halt =>
    if s.standbyBusy then s.refuseDev m [0x80] refBusy else s.toDev m [0x80] .standby
  | _ => s.refuseDev m [0x80] refState

/-- Steps 2 to 5 of R325: sessions end, the entry names the cause, Snowdrop stores the head and holds the core die in reset
(assumptions 45 and 46). -/
def State.enterStandby (s : State) : State :=
  let s := s.endSessions 8
  let s := s.jot 0x14 0x0B 0 8 0xFF (s.supplyData 0) |>.jrnFlush
  let snow := { s.snow with stored := some (s.jrn.head, s.jrn.chain) }
  { (s.coreReset .standby snow false) with
    pwr := { Pwr.reset with
      vauxOk := s.pwr.vauxOk, vddinOk := s.pwr.vddinOk, vioOk := s.pwr.vioOk, pvddOk := s.pwr.pvddOk,
      uv := s.pwr.uv, ov := s.pwr.ov, shutAt := s.pwr.shutAt, outAt := s.pwr.outAt, pvddHigh := s.pwr.pvddHigh } }

/-- What carried an accepted STANDBY is complete (R325). -/
def State.standbyEnd (s : State) : State :=
  if s.dev.state = .standby && s.dev.held = .running then s.enterStandby else s

/-- A STANDBY that was accepted after `s` follows the end of what carried it (R325). -/
def State.standbyAfter (s t : State) : State := if s.dev.state = .standby then t else t.standbyEnd

/-- Every channel is in OFF or TRIPPED. -/
def State.allDown (s : State) : Bool :=
  allChans.all fun n => (s.ch n).st = .off || (s.ch n).st = .tripped

/-- DISARM completes once every channel is in OFF or TRIPPED (Table 12-4) (assumption 46). -/
def execDisarmComplete (s : State) : Out :=
  if s.dev.disarming && s.allDown then
    let old := s.dev.state
    let s := { s with dev := { s.dev with state := .built, disarming := false } }
    .next (s.jotDev 0x10 old .built 0)
  else .next s

def execDiscard (m : Master) (s : State) : Out :=
  .next (s.byMaster m 0x00 0x28 (s.discard m))

def execHalt (m : Master) (s : State) : Out :=
  .next (s.byMaster m 0x00 0x28 (s.haltCmd m))

def execHaltClear (m : Master) (s : State) : Out :=
  .next (s.byMaster m 0x00 0x28 (s.haltClear m))

def execStandby (m : Master) (s : State) : Out :=
  .next (s.byMaster m 0x00 0x28 (s.standby m).standbyEnd)

/-- Wake by address match while VIO is good (R327, R328): BOOT, the journal continues from the stored head
(assumptions 46 and 65). -/
def execWake (s : State) : Out :=
  if s.dev.held = .standby && s.pwr.vioOk then
    let (h, c) := s.snow.stored.getD (0, 0)
    let s := { s with
      snow := { s.snow with wake := true },
      dev := { s.dev with held := .running, state := .boot },
      twp := { s.twp with wakeHeld := true, wakeEvt := true },
      jrn := { Journal.reset with next := h + 1, head := h, chain := c, continued := true } }
    .next (s.jotDev 0x14 .standby .boot 0)
  else .next s

/-! ## Resets (R329 to R334) -/

/-- Power-on reset: PWR_CAUSE := POR alone. -/
def execPowerOnReset (s : State) : Out := .next (s.coreReset .por Snow.reset false)

/-- Brown-out reset of VAUX or VDDIN; in STANDBY a VDDIN brown-out has no effect, and a POR in progress
governs (R325, R333). -/
def execBrownOutReset (vaux : Bool) (s : State) : Out :=
  if s.dev.held = .por || (s.dev.held = .standby && ! vaux) then .next s
  else
    let snow := { s.snow with
      borVaux := s.snow.borVaux || vaux, borVddin := s.snow.borVddin || ! vaux,
      borCount := satInc s.snow.borCount }
    .next (s.coreReset .bor snow false)

/-- The change to BOOT by a reset that keeps the journal, with the channels that it moved (R322, R346). -/
def State.jotReset (old new : State) : State :=
  if old.dev.state = .boot then new else new.jotDev 0x14 old.dev.state .boot 0 (movedChans old new)

/-- Pin reset; ignored while a POR or BOR is in progress, and without VIO (R313, R333). From STANDBY it wakes, and the
journal continues from the stored head (R327, R328) (assumption 46). -/
def execPinReset (s : State) : Out :=
  let snow := { s.snow with pin := true }
  if ! s.pwr.vioOk then .next s else
  match s.dev.held with
  | .por => .next s
  | .bor => .next s
  | .standby =>
    let (h, c) := s.snow.stored.getD (0, 0)
    .next (State.jotReset s { (s.coreReset .pin snow false) with
      jrn := { Journal.reset with next := h + 1, head := h, chain := c, continued := true } })
  | _ => .next (State.jotReset s (s.coreReset .pin snow true))

/-- The reset is released: BOOT, VCORE at 0.90 V, REMAP = 0, tick count 0 (R329, R330, R384). A PVDD that is not good
stands in the shutdown of the side on which it was last reported, below before any report (R314, R333) (assumptions 10, 45
and 58). -/
def execResetRelease (vio pvdd : Bool) (s : State) : Out :=
  match s.dev.held with
  | .running => .next s
  | .standby => .next s
  | _ =>
    .next { s with
      dev := { s.dev with held := .running, state := .boot, tick := 0 },
      pwr := { s.pwr with
        vauxOk := true, vddinOk := true, vioOk := vio, pvddOk := pvdd, uv := ! pvdd && ! s.pwr.pvddHigh,
        ov := ! pvdd && s.pwr.pvddHigh, pvddHigh := ! pvdd && s.pwr.pvddHigh, shutAt := s.now, outAt := s.now } }

/-- Stop a pin stream. -/
def Trc.pinEnd (t : Trc) : Trc := { t with
  pinBusy := false, pinRead := none, pinWait := 0, pinSent := 0, pinData := [], pinOut := 0 }

/-- Soft reset (R331); M5 and M6 may be cut in a burst (R38). A wider reset in progress governs (R333)
(assumption 58). -/
def State.soft (s : State) (m : Master) : State :=
  if s.dev.held != .running then s else
  let s := s.jotWrite m 0x01 0x0C [0x01] 0
  let s := (s.cutLoad 6 codeAborted).cutPatch 6 codeAborted
  let s := (s.trcEnd).injEnd
  let s := { s with portA := { s.portA with trcRead := none }, portB := { s.portB with trcRead := none } }
  let s := { s with
    ldr := Loader.reset, win := { SecWin.reset with enrollCheck := s.win.enrollCheck }, pace := Pace.reset,
    trc := Trc.reset, flx := Flx.reset }
  (s.cutMaybe .m5).cutMaybe .m6

def execSoft (m : Master) (s : State) : Out :=
  .next (s.byMaster m 0x01 0x0C (s.soft m))

/-- A channel reset accepted for a channel (R332) (assumptions 28 and 58). -/
def State.chResetStart (s : State) (n : Chan) : State :=
  let k := s.ch n
  if k.loop.resetPending then s
  else
    let s := s.modCh n fun k => { k with loop := { k.loop with resetPending := true } }
    match k.st with
    | .off => s
    | .tripped => s
    | .rampDown => s
    | .rampUp => if k.loop.uvHold then s else s.moveTo 0x10 true n .rampDown 0
    | _ => s.moveTo 0x10 true n .rampDown 0

/-- A write of PWR_CH_RESET; a wider reset in progress governs (R333). -/
def State.chReset (s : State) (m : Master) (mask : BitVec 64) : State :=
  if s.dev.held != .running then s else
  let ok := mask &&& s.chMask
  let bs := leBytes 8 mask.toNat
  let s := s.jotWrite m 0x01 0x10 bs (if ok = 0 then 1 else 0)
  let s := s.overChans (fun s n => inMask mask n && ! s.used n)
    fun s n => s.raise Ev.channelCommandRefused n.val 0
  s.overChans (fun s n => inMask mask n && s.used n) fun s n =>
    if s.joinedTwin n then s.carry 0x06 0 (if s.follows n then 1 else 0) 0 (bitOf n)
    else s.chResetStart n

def execChReset (m : Master) (mask : BitVec 64) (s : State) : Out :=
  .next (s.byMaster m 0x01 0x10 (s.chReset m mask))

/-- The channel reset applies, and one KIND 0x03 entry says so (R332). -/
def State.resetChan (s : State) (n : Chan) (c : ChanCfg) : State :=
  let old := (s.ch n).st
  let s := (s.abortIdent n).setClass n 0
  let s := (s.modCh n fun k => k.chr c).recheckPages
  s.jotCh 0x10 n old (s.ch n).st 0 0

/-- A RAMP_DOWN ends: OFF, with the channel reset that waited for it (R332). -/
def State.rampDownEnds (s : State) (src : Nat) (n : Chan) : State :=
  match (s.ch n).loop.resetPending, s.cfg n with
  | true, some c => s.resetChan n c
  | _, _ => s.moveTo src true n .off 0

/-- The channel reset applies at a boundary from OFF, TRIPPED or a held RAMP_UP; the end of a ramp applies it too (R332)
(assumption 58). -/
def execChannelResetApply (n : Chan) (s : State) : Out :=
  let k := s.ch n
  if k.loop.resetPending && (k.st = .off || k.st = .tripped || (k.st = .rampUp && k.loop.uvHold)) then
    match s.cfg n with
    | some c => .next (s.resetChan n c)
    | none => .next (s.modCh n fun k => { k with loop := { k.loop with resetPending := false } })
  else .next s

/-! ## PVDD shutdown (R317 to R319) -/

/-- One channel at the boundary of a shutdown (Table 4-7, R319). -/
def State.uvHoldChan (s : State) (n : Chan) : State :=
  let k := s.ch n
  match k.st with
  | .off => s
  | .tripped => s
  | .rampDown => s.rampDownEnds 0x14 n
  | _ =>
    if k.loop.uvHold then s
    else
      let resume := if k.st = .rampUp then (if k.loop.uvResume then k.loop.resume else .quiet) else k.st
      let s := s.abortSweep n
      let s := s.modCh n fun k =>
        { k.hiz with st := .rampUp,
                     loop := { k.hiz.loop with uvHold := true, uvResume := true, resume := resume },
                     twin := { k.twin with uvRampDone := false, uvWait := 0, outHeld := false } }
      s.jotCh 0x14 n k.st .rampUp 0 0

/-- A shutdown: counted, reported, every bridge high-impedance, channels held (assumption 45). -/
def State.pvddShutdown (s : State) (ov : Bool) : State :=
  let s := { s with pwr := { s.pwr with
    uv := s.pwr.uv || ! ov, ov := s.pwr.ov || ov, pvddHigh := ov, pvddOk := false,
    uvs := if ov then s.pwr.uvs else satInc s.pwr.uvs,
    ovs := if ov then satInc s.pwr.ovs else s.pwr.ovs,
    shutAt := s.now, outAt := s.now, dipUv := s.pwr.dipUv || s.pwr.warn } }
  let s := s.overChans (fun _ _ => true) State.uvHoldChan
  s.jotRaise 0x14 0x0B 0 0 0xFF (s.supplyData 0) Ev.pvddShutdown 0xFF 0

/-- PVDD passes a shutdown threshold. One that is beyond it already starts the wait of R318 anew; in STANDBY the level
alone changes, and in another reset the side is noted (R314, R325, R333) (assumption 45). -/
def State.pvddOut (s : State) (ov : Bool) : State :=
  if s.dev.held = .running then
    if (if ov then s.pwr.ov else s.pwr.uv) then { s with pwr := { s.pwr with pvddHigh := ov, outAt := s.now } }
    else s.pvddShutdown ov
  else if s.dev.held = .standby then
    { s with pwr := { s.pwr with
      uv := s.pwr.uv || ! ov, ov := s.pwr.ov || ov, pvddHigh := ov, pvddOk := false, shutAt := s.now, outAt := s.now } }
  else { s with pwr := { s.pwr with pvddHigh := ov } }

def execPvddUndervoltageShutdown (s : State) : Out := .next (s.pvddOut false)

def execPvddOvervoltageShutdown (s : State) : Out := .next (s.pvddOut true)

/-- A held channel receives RAMP_UP (R318) (assumption 45). -/
def Channel.resumeRamp (k : Channel) : Channel :=
  if k.st = .rampUp && k.loop.uvHold then
    { k with loop := { k.loop with uvHold := false },
             stage := { k.stage with rampDone := false, fbBad := false } }
  else k

/-- The shutdown ends after 1,920 consecutive ticks inside the release thresholds; a held half that its partner plays
for enters OFF, the others ramp (R318, R319) (assumption 45). -/
def execPvddRecovered (s : State) : Out :=
  if (s.pwr.uv || s.pwr.ov) && s.pwr.outAt + 1920 ≤ s.now then
    let dur := s.now - s.pwr.shutAt
    let s := { s with pwr := { s.pwr with uv := false, ov := false, pvddHigh := false, pvddOk := true } }
    if s.dev.held = .standby then .next s
    else
      let s := s.jotRaise 0x14 0x0B 0 0 0xFF (s.supplyData dur) Ev.pvddRecovered 0xFF 0
      let s := s.overChans (fun s n => (s.ch n).loop.uvHold && (s.ch n).twin.outHeld) fun s n => s.moveTo 0x14 true n .off 0
      .next { s with chans := vmap Channel.resumeRamp s.chans }
  else .next s

/-! ## VIO and the warning level -/

/-- A channel in a playing state starts the mute fade (R213). -/
def Channel.muteFade (k : Channel) : Channel :=
  let quiet : Channel := { k with diag := { k.diag with weight := 0, pilotOn := false }, prot := { k.prot with check := none } }
  if k.st.playing && k.loop.fading != .mute then
    { quiet with loop := { k.loop with fading := .mute, fadeStep := (k.loop.phi + 1535) / 1536 },
                 prot := { quiet.prot with muted := true } }
  else quiet

/-- A mute asserts on some channels: playing ones fade, sweeps abort, checks are cut (R213, R214, R152,
R376); event and entry (assumption 48). -/
def State.muteOn (s : State) (p : Chan → Bool) (src : Nat) : State :=
  let took := maskOf fun n => p n && (s.ch n).st.playing
  let s := s.overChans (fun _ n => p n) State.abortSweep
  let s := { s with
    chans := vmapIdx (fun n (k : Channel) => if p n then k.muteFade else k) s.chans,
    dev := { s.dev with muteTook := s.dev.muteTook ||| took } }
  let s := if p s.flx.injCh then s.injEnd else s
  s.jotRaise src 0x0C 0 0 0xFF ([0, 0, 0, 0] ++ leBytes 8 took.toNat) Ev.mute 0xFF 1

/-- The resumption of the channels that a mute took, in QUIET, as channel commands of the block that released it
(R124, R214). On a joined channel the lead half issues it (R251). -/
def State.muteResume (s : State) (p : Chan → Bool) (src : Nat) : State :=
  let took := s.dev.muteTook
  let resume := s.dev.muteResume && s.dev.state = .run
  let s := { s with
    dev := { s.dev with muteTook := took &&& ~~~ maskOf p },
    chans := vmapIdx (fun n (k : Channel) => if p n then { k with prot := { k.prot with muted := false } } else k)
      s.chans }
  s.overChans (fun s n => resume && p n && inMask took n && ! s.follows n) fun s n => s.command (.block src) .play n

/-- A mute releases on some channels: event, entry and resumption (R214). -/
def State.muteOff (s : State) (p : Chan → Bool) (src : Nat) : State :=
  let took := s.dev.muteTook &&& maskOf p
  let s := s.jotRaise src 0x0C 0 0 0xFF ([0, 0, 0, 0] ++ leBytes 8 took.toNat) Ev.mute 0xFF 0
  s.muteResume p src

/-- A mute fade runs on a channel. -/
def State.muteFades (s : State) : Bool := allChans.any fun n => (s.ch n).loop.fading = .mute

/-- A write of PWR_CTL (R316). -/
def State.pvddWarnWrite (s : State) (m : Master) (v : Byte) : State :=
  let l := v.toNat % 64
  if 0x34 < l then s.raise Ev.warningLevelRefused 0xFF 0
  else ({ s with pwr := { s.pwr with warnLevel := BitVec.ofNat 6 l } }).jotWrite m 0x01 0x06 [v] 0

def execPvddWarnWrite (m : Master) (v : Byte) (s : State) : Out :=
  .next (s.byMaster m 0x01 0x06 (s.pvddWarnWrite m v))

end Sys2Proof.Machine
end

