-- ==== Sys2Proof/Machine/Fg.lean ====
section
/-! DEFINITION. Chapter Resampling, Mixing and the Filter Graph: bank requests and swaps, settle and
fade-in, synchronising resets, their settings (R91 to R103). -/

namespace Sys2Proof.Machine

/-- Data of a KIND 0x06 entry. -/
def fgData (req : Bool) (f : ChFgKeep) : List Byte :=
  let b (x : Bool) : Byte := if x then 1 else 0
  [b req, b f.active, match f.latched with
    | some x => b x
    | none => 0xFF]

/-- Start the pre-roll of the incoming bank: its states cleared (R93). -/
def Channel.preroll (k : Channel) (c : ChanCfg) (bank : Bool) : Channel :=
  let fg := k.fg
  { k with fg := { fg with
      phase := .preroll, pos := 0, len := k.fgk.settle.toNat, waitStart := false, incoming := bank,
      secA := if bank then fg.secA else [], secB := if bank then [] else fg.secB,
      firA := if c.dfn.firFade && ! bank then [] else fg.firA,
      firB := if c.dfn.firFade && bank then [] else fg.firB } }

/-- Handle a bank request by the table of R92. `bits`: which of REQ_A and REQ_B were written; the entry of a write of
both names bank B (assumptions 28 and 86). -/
def State.bankRequest (s : State) (src : Nat) (n : Chan) (reqA reqB : Bool) : State :=
  let k := s.ch n
  let bank := reqB
  let refuse := s.jotRaise src 0x06 1 0 n.val (fgData bank k.fgk) Ev.bankRequestRefused n.val 0
  if reqA && reqB then refuse
  else
    match s.cfg n with
    | none => refuse
    | some c =>
      if ! c.dfn.fadeEn then refuse
      else if k.fg.phase != .idle then
        let was := k.fgk.latched.isSome
        let s := s.modCh n fun k => { k with fgk := { k.fgk with latched := some bank } }
        let q := s.jrn.nextSeq
        let s := s.jot src 0x06 (if was then 4 else 3) 0 n.val (fgData bank (s.ch n).fgk)
        if was then s.raise Ev.bankRequestReplaced n.val 0 q else s
      else if k.fgk.active = bank then s.jot src 0x06 5 0 n.val (fgData bank k.fgk)
      else (s.modCh n fun k => k.preroll c bank).jot src 0x06 0 0 n.val (fgData bank k.fgk)

/-- A request by a master. On a joined twinned channel a follow half sends it to the lead half, and journals it
when the outcome applies; the lead half judges and journals it at once, and announces it whatever it is: both halves
act and report at APPLY (R101, R251) (assumption 48). -/
def State.reqBank (s : State) (m : Master) (n : Chan) (reqA reqB : Bool) : State :=
  let t := s.bankRequest m.num n reqA reqB
  if ! s.joinedTwin n || (reqA && reqB) then t
  else if s.follows n then s.carry 0x03 (if reqB then 1 else 0) 1 0 (bitOf n)
  else ({ t with chans := s.chans }).carry 0x03 (if reqB then 1 else 0) 0 0 (bitOf n)

/-- A request of the follow half at the lead half: judged and journalled as M3's, and its outcome announced whatever
it is, so that both halves report the same one (R101, R251) (assumption 48). -/
def State.bankAsked (s : State) (n : Chan) (bank : Bool) : State :=
  let t := s.bankRequest Master.m3.num n (! bank) bank
  ({ t with chans := s.chans }).carry 0x03 (if bank then 1 else 0) 0 0 (bitOf n)

def execReqA (m : Master) (n : Chan) (s : State) : Out :=
  .next (s.byMaster m (0x10 + n.val) 0x40 (s.reqBank m n true false))

def execReqB (m : Master) (n : Chan) (s : State) : Out :=
  .next (s.byMaster m (0x10 + n.val) 0x40 (s.reqBank m n false true))

/-- The pre-roll ends; the fade starts with FADE_LEN captured (R93). The rule captures F when the fade starts, and
says also that a write during a swap takes effect at the next one: a FADE_LEN written in the pre-roll acts in
this swap here (DESIGN CHOICE, assumption 28). -/
def execPrerollEnd (n : Chan) (s : State) : Out :=
  let f := (s.ch n).fg
  if f.phase = .preroll && f.len ≤ f.pos then
    .next (s.modCh n fun k => { k with fg := { k.fg with phase := .fade, pos := 0, len := k.fgk.fadeLen.toNat } })
  else .next s

/-- Evaluate a latched request (R95, R100). -/
def State.latchedRequest (s : State) (n : Chan) : State :=
  match (s.ch n).fgk.latched, s.cfg n with
  | some b, some c =>
    let s := s.modCh n fun k => { k with fgk := { k.fgk with latched := none } }
    if (s.ch n).fgk.active = b then s.jot 0x10 0x06 5 0 n.val (fgData b (s.ch n).fgk)
    else s.modCh n fun k => k.preroll c b
  | _, _ => s

/-- The fade ends: the incoming bank is active, then a latched request is evaluated (R93, R95) (assumption 15). -/
def execFadeEnd (n : Chan) (s : State) : Out :=
  let f := (s.ch n).fg
  if f.phase = .fade && f.len ≤ f.pos then
    let s := s.modCh n fun k =>
      { k with fgk := { k.fgk with active := k.fg.incoming }, fg := { k.fg with phase := .idle, pos := 0, len := 0 } }
    let s := s.jotRaise 0x10 0x06 0 0 n.val (fgData f.incoming (s.ch n).fgk) Ev.bankSwapComplete n.val 0
    .next (s.latchedRequest n)
  else .next s

/-- The settle ends; the fade-in of 64 ticks starts (R99). -/
def execSettleEnd (n : Chan) (s : State) : Out :=
  let f := (s.ch n).fg
  if f.phase = .settle && ! f.waitStart && f.len ≤ f.pos then
    .next (s.modCh n fun k => { k with fg := { k.fg with phase := .fadeIn, pos := 0, len := 64 } })
  else .next s

/-- The fade-in ends; a latched request is evaluated (R95, R99, R100). -/
def execGraphFadeInEnd (n : Chan) (s : State) : Out :=
  let f := (s.ch n).fg
  if f.phase = .fadeIn && 64 ≤ f.pos then
    let s := s.modCh n fun k => { k with fg := { k.fg with phase := .idle, pos := 0, len := 0 } }
    .next (s.latchedRequest n)
  else .next s

/-! ## Synchronising reset (R74, R77, R97, R98) -/

/-- Place p so that the window-end lag equals LAG (R74). -/
def Streams.place (t : Streams) (newest : BitVec 32) (lag : BitVec 5) : Streams :=
  { t with
    newest := newest, placed := true,
    p := ((newest - 16 - lag.setWidth 32).setWidth 64) <<< 32 }

/-- A reset wider than a synchronising one is in progress: one that holds the core die, or a channel reset that has not
applied (R333). -/
def State.widerReset (s : State) : Bool :=
  s.dev.held != .running || allChans.any fun n => (s.ch n).loop.resetPending

/-- A synchronising reset: buffers, resamplers, tracker and graph states cleared, tracker restarted,
settle and fade-in (R98, R99); a wider reset in progress governs (R333). -/
def State.syncReset (s : State) (src trigger : Nat) : State :=
  if s.widerReset then s else
  let rate := match s.link.active with
    | some p => (s.port p).rate
    | none => s.mtb.rate
  let t : Streams := { Streams.reset with
    wide := true, ratio := nominalRatio rate.toNat, newest := s.stm.newest, ppm := 0 }
  let s := { s with
    stm := t, mtb := { s.mtb with rate := rate, lagNow := s.mtb.lag }, link := { s.link with arrOffset := 0 },
    chans := vmap (fun (k : Channel) => k.endFade.settle true) s.chans }
  s.jotRaise src 0x07 0 trigger 0xFF [BitVec.ofNat 8 trigger] Ev.synchronisingReset 0xFF 0

/-- A synchronising reset with this trigger is carried already and has not applied; one for a switch or a first active
port takes the new rate code with it. -/
def Twin.syncPending (w : Twin) (trigger : Nat) : Bool :=
  (w.outQ ++ w.applyQ.map (·.2)).any fun e =>
    e.kind = 0x04 && (e.cause.toNat = trigger || (trigger = 2 && (e.cause = 3 || e.cause = 4)))

/-- A trigger of R97: on a joined pair the reset is carried (R101, R251); a condition that stands until it applies is
carried once. -/
def State.syncTrigger (s : State) (src trigger : Nat) : State :=
  if ! s.swp.joined then s.syncReset src trigger
  else if trigger != 0 && s.swp.syncPending trigger then s
  else s.carry 0x04 0 0 trigger 0

/-- A write of SYNC_RESET; the write is journalled by itself (R103). While a wider reset is in progress it has no effect and
is not journalled (R333). -/
def State.syncWrite (s : State) (m : Master) (bs : List Byte) : State :=
  if s.widerReset then s else (s.jotWrite m 0x0C 0x20 bs 0).syncTrigger m.num 0

/-- A write of SYNC_RESET that leaves LAG as it is. -/
def execSyncReset (m : Master) (s : State) : Out :=
  .next (s.byMaster m 0x0C 0x20 (s.syncWrite m [((s.mtb.lag.setWidth 8 : Byte) <<< 1) ||| 1]))

/-- After 4,096 ticks of acquisition the tracker enters tracking (R77). -/
def execTrackerAcquisitionEnd (s : State) : Out :=
  if s.stm.wide && 4096 ≤ s.stm.acqTicks then
    .next { s with stm := { s.stm with wide := false, locked := true } }
  else .next s

/-! ## Settings (R102, R103) -/

/-- A write of CH_FG_FADE. -/
def State.fadeLenWrite (s : State) (m : Master) (n : Chan) (v : BitVec 16) : State :=
  let l := v.toNat % 16384
  if ! s.used n then s
  else if l < 64 || 8192 < l then s.raise Ev.fadeLengthRefused n.val 0
  else
    (s.modCh n fun k => { k with fgk := { k.fgk with fadeLen := BitVec.ofNat 14 l } }).jotWrite m
      (0x10 + n.val) 0x42 (leBytes 2 v.toNat) 0

def execFadeLenWrite (m : Master) (n : Chan) (v : BitVec 16) (s : State) : Out :=
  .next (s.byMaster m (0x10 + n.val) 0x42 (s.fadeLenWrite m n v))

/-- A write of CH_FG_SETTLE. -/
def State.settleWrite (s : State) (m : Master) (n : Chan) (v : BitVec 16) : State :=
  if ! s.used n then s
  else (s.modCh n fun k => { k with fgk := { k.fgk with settle := v.setWidth 14 } }).jotWrite m
    (0x10 + n.val) 0x44 (leBytes 2 v.toNat) 0

/-- A write of LAG. -/
def State.lagWrite (s : State) (m : Master) (v : BitVec 5) (bs : List Byte) : State :=
  if v = 0 || 16 < v.toNat then s.raise Ev.lagRefused 0xFF 0
  else ({ s with mtb := { s.mtb with lag := v } }).jotWrite m 0x0C 0x20 bs 0

/-- MTB_TRK_CTL holds LAG in bits 5:1 (Table 3-4). -/
def execLagWrite (m : Master) (v : BitVec 5) (s : State) : Out :=
  .next (s.byMaster m 0x0C 0x20 (s.lagWrite m v [(v.setWidth 8 : Byte) <<< 1]))

end Sys2Proof.Machine
end

