-- ==== Sys2Proof/Machine/ChanCmd.lean ====
section
/-! DEFINITION. Chapter The Channel Control Engine and the chapters Modulator and Power Stage and
Loudspeaker and Device Protection: channel commands, ramps, supervision, checks, stage decisions,
mute, dips. -/

namespace Sys2Proof.Machine

/-! ## Checks of RETRY and sweeps (Table 4-8, R150, R210, R214) -/

/-- The RETRY check of the cause in force is a sweep (Table 4-8). -/
def State.sweepCheck (s : State) (n : Chan) : Bool :=
  let c := (s.ch n).keep.tripCause.toNat
  (c = causeIdent || c = causeDrops || c = causePace) && (s.law n = 1 || s.law n = 2)

/-- Start a sweep: event, and an entry unless START_ALL covers it (R150). -/
def State.startSweep (s : State) (n : Chan) (src : Option Nat) : State :=
  let s := s.modCh n fun k => { k with
    ident := { ChIdent.reset with running := true },
    keep := { k.keep with idAtStartDone := true } }
  let s := if s.flx.injOn && s.flx.injCh = n then s.injFadeOut else s
  match src with
  | some b => s.jotRaise b 0x0E 0 0 n.val [] Ev.identificationStart n.val 0 (some 0)
  | none => s.raise Ev.identificationStart n.val 0

/-- A sweep that the lead half decides: on a joined twinned channel its start is carried (R251). -/
def State.beginSweep (s : State) (n : Chan) (src : Nat) : State :=
  if s.joinedTwin n then
    ((s.modCh n fun k => { k with keep := { k.keep with idAtStartDone := true } }).jot src 0x0E 0 0 n.val []
      (some 0)).carry 0x07 0 0 0 (bitOf n)
  else s.startSweep n (some src)

/-- Begin the check of a channel in RETRY whose ramp has completed; under a mute it waits for the release
(R210, R214). The lead half drives it (R254). -/
def State.startCheck (s : State) (n : Chan) : State :=
  let k := s.ch n
  if k.st = .retry && k.loop.ramped && ! s.mutedAt n && ! s.follows n && k.prot.check.isNone &&
      ! k.ident.running && ! k.ident.fitPending then
    if s.sweepCheck n then s.beginSweep n 0x10
    else s.modCh n fun k => { k with prot := { k.prot with
      check := some 0, chkUre := 0, chkUim := 0, chkIre := 0, chkIim := 0 } }
  else s

/-! ## Retry series and failed checks (R210, R211) -/

/-- The third failed retry ends the series (R211) (assumption 43). RETRIES counts in its two bits: at 3, which only a kept
latch leaves, it comes to 0 and the timer starts again (DESIGN CHOICE, assumption 95). -/
def State.retryFailed (s : State) (n : Chan) : State :=
  let k := s.ch n
  let r := k.keep.retries + 1
  if r = 3 then
    let s := s.modCh n fun k => { k with keep := { k.keep with retries := 3, shortLatch := true, retryAt := none } }
    s.jotRaise 0x10 0x0C 0 0 n.val [] Ev.shortLatch n.val 0
  else
    s.modCh n fun k => { k with keep := { k.keep with retries := r, retryAt := some (s.now + 192000) } }

/-- A check fails: with cause SHORT it counts in the series, with another it ends the series (R210, R211). -/
def State.checkFailed (s : State) (n : Chan) (cause : Nat) : State :=
  if s.follows n then s else
  let s := s.checkFails n cause
  if cause = causeShort then s.retryFailed n
  else s.modCh n fun k => { k with keep := { k.keep with retryAt := none } }

/-! ## Supervision (R24, R115 to R122, R212) -/

def execAutoReclose (n : Chan) (s : State) : Out :=
  if s.reclosable n then .next (s.decide 0x10 true n .closedLoop 0) else .next s

/-- c exceeded TICKS in the tick that ended: the event, and the drop of a channel that is still in CLOSED_LOOP, which names
lost feedback where the sense of that tick was suspect (R119, R122, R31). -/
def State.feReport (s : State) (n : Chan) : State :=
  let l := (s.ch n).loop
  if l.feDue then
    let s := s.modCh n fun k => { k with loop := { k.loop with feDue := false } }
    s.raiseFor Ev.followingError n.val 0 fun s => s.faultDrop n (if l.feSuspect then 3 else 2) (s.now - 1)
  else s

def execFollowingErrorDrop (n : Chan) (s : State) : Out := .next (s.feReport n)

/-- What a sense that turned suspect does to a channel in a state: the drop, and the failed check of RETRY (R120, R210,
R216). `sweep`: a sweep ran. -/
def State.lfActs (s : State) (n : Chan) (k : Channel) : State :=
  match k.st with
  | .retry => s.checkFailed n (if k.ident.running then causeIdent else k.keep.tripCause.toNat)
  | .tripped => (s.faultDrop n 3 s.now).checkFails n k.keep.tripCheck.toNat
  | _ => s.faultDrop n 3 s.now

/-- The sense has turned suspect: the event, with the entry of what follows in CLOSED_LOOP and in RETRY (R120, R121, R152,
R210). A spell that began outside CLOSED_LOOP drops a channel that returns to it (R120). -/
def State.lfReport (s : State) (n : Chan) : State :=
  let k := s.ch n
  if k.loop.suspect && ! k.loop.lfReported then
    let s := s.modCh n fun k => { k with loop := { k.loop with lfReported := true } }
    let a := s.abortSweep n
    ((s.raise Ev.lostFeedback n.val k.loop.suspectMask.toNat ((a.lfActs n k).seqSince a)).abortSweep n).lfActs n k
  else if k.loop.suspect && k.st = .closedLoop then s.faultDrop n 3 s.now
  else s

/-- The following error of the tick before comes first (R31, R122). -/
def execLostFeedback (n : Chan) (s : State) : Out := .next ((s.feReport n).lfReport n)

/-- Four consecutive pace faults (R24, R253); a trip in the same tick leaves the report (R31) (assumption 21). -/
def State.paceReport (s : State) (n : Chan) : State :=
  let k := s.ch n
  if 4 ≤ k.loop.paceFaultRun &&
      (k.st = .openLoop || (s.follows n && k.st != .off) || (k.st = .tripped && k.keep.tripAt = s.now)) then
    (s.modCh n fun k => { k with loop := { k.loop with paceFaultRun := 0 } }).trip 0x10 n causePace
  else s

def execPaceTrip (n : Chan) (s : State) : Out := .next (s.paceReport n)

/-- Five consecutive open blocks (R212); the entry carries the RMS voltage of the fifth. A more restrictive decision
of the tick leaves the report (R31). -/
def State.openReport (s : State) (n : Chan) : State :=
  let k := s.ch n
  match s.cfg n with
  | some c =>
    if 5 ≤ k.prot.openRun && ! k.prot.openActed then
      let s := s.modCh n fun k => { k with prot := { k.prot with openActed := true } }
      if c.protP 0x0233 = 1 then
        let s := s.jotRaise 0x10 0x0C 0 0 n.val (leBytes 4 (toF32 (Config.sqrtR k.prot.openMs)).toNat) Ev.openLoad n.val 0
        s.engineTrip n causeOpenLoad
      else
        (s.modCh n fun k => { k with prot := { k.prot with openWarn := true } }).raise Ev.openLoad n.val 0
    else s
  | none => s

def execOpenLoad (n : Chan) (s : State) : Out := .next (s.openReport n)

/-- The local decisions on a channel that are still to be taken: those of the tick that ended, the most restrictive first,
and then the suspect sense of the running one (R31, R127). -/
def State.settle (s : State) (n : Chan) : State := (((s.paceReport n).openReport n).feReport n).lfReport n

/-! ## Stage decisions (R16, R167, R168, R180, R182, R187, R207 to R211) -/

/-- One of the two differences of R167 exceeds 0.25 V_P in each of the last 64 modulation cycles. -/
def fbTest (pvdd : BitVec 16) (cycles : List (BitVec 16)) : Bool :=
  cycles.length = 64 && cycles.all fun d => decide (pvdd.toNat < 4 * d.toNat)

/-- FB_FAULT on CHn (R167, R168). DATA 0-3 of its entry are 0: which difference they would hold is open (DESIGN CHOICE,
assumption 93). -/
def execFbFault (x : FbTest) (s : State) : Out :=
  let n := x.chan
  let k := s.ch n
  let v := (s.die n.die).pvdd
  if k.stage.modRun && (fbTest v (x.cycles.map (·.1)) || fbTest v (x.cycles.map (·.2))) then
    if k.keep.fbFault then .next (s.modCh n fun k => { k with stage := { k.stage with fbBad := true } })
    else
      let s := s.modCh n fun k =>
        { k with keep := { k.keep with fbFault := true }, stage := { k.stage with fbBad := true } }
      .next (s.jotRaise 0x11 0x0C 0 0 n.val [] Ev.feedbackFault n.val 0)
  else .next s

/-- The comparator ends a conduction interval of a half-bridge: the conducting switch turns off and the opposite one on.
A limit act is a modulation cycle with at least one such end: the first of a cycle is counted and joins the last 16
cycles, of which `gap` passed without one (R180, R182, R208). -/
def ChStage.limitAct (g : ChStage) (now : Nat) (leg high : Bool) (gap : Nat) (same : Bool) : ChStage :=
  if same && g.actCycles.head? = some true then
    { g with forced := (leg, ! high) :: g.forced.filter fun e => e.1 != leg }
  else
    { g with
      acts := satInc g.acts, actsTick := g.actsTick + 1, lastAct := some now, forced := [(leg, ! high)],
      actCycles := (true :: (List.replicate (min gap 16) false ++ g.actCycles)).take 16 }

/-- The current of a conducting switch reaches I_LIM (R180 to R182): reported when it is the first act after 192
ticks without one. A bridge without a modulator that runs conducts nothing to limit. -/
def execCurrentLimit (x : LimitTest) (s : State) : Out :=
  let n := x.chan
  let k := s.ch n
  if s.used n && k.stage.modRun && decide (1024 * k.ilim.toNat ≤ 10 * x.amps.toNat) then
    let quiet : Bool := match k.stage.lastAct with
      | some t => decide (t + 192 < s.now)
      | none => true
    let s := s.modCh n fun k => { k with stage := k.stage.limitAct s.now x.leg x.high x.gap x.same }
    .next (if quiet then s.raise Ev.currentLimit n.val 0 else s)
  else .next s

/-- A retry series starts on the half that leads the channel (R211, R254). -/
def State.startSeries (s : State) (n : Chan) : State :=
  s.modCh n fun k => { k with keep := { k.keep with
    retries := 0, shortLatch := false, retryAt := if s.leads n then some (s.now + 192000) else none } }

/-- The bridges of the channels that a test picks turn high-impedance. -/
def State.hizWhere (s : State) (p : Chan → Bool) : State :=
  s.overChans (fun _ n => p n) fun s n => s.modCh n fun c => { c with stage := c.stage.off }

/-- A bridge trips with cause SHORT (R208, R209, R211): it ends a check, or starts a series, also where SHORT
replaces the cause of a channel in TRIPPED (R216) (assumption 43). -/
def State.shortAct (s : State) (n : Chan) : State :=
  let k := s.ch n
  if k.st = .off || (k.st = .rampUp && k.loop.uvHold) then s
  else
    let check := k.st = .retry
    let s := s.modCh n fun k => { k with
      keep := { k.keep with shorts := satInc k.keep.shorts }, stage := k.stage.off }
    let t := s.trip 0x11 n causeShort
    let s := t.raise Ev.shortTrip n.val 0 (t.seqSince s)
    if check then s.retryFailed n
    else if (s.ch n).keep.tripCause.toNat = causeShort &&
        ! (k.st = .tripped && k.keep.tripCause.toNat = causeShort) then s.startSeries n
    else s

/-- Nine of the last 16 modulation cycles were limit acts, the last one in the running tick or the one before, whose
upward transfer reports the trip (R208). -/
def ChStage.shortRule (g : ChStage) (now : Nat) : Bool :=
  (match g.lastAct with
    | some t => decide (now ≤ t + 1)
    | none => false) && decide (9 ≤ g.actCycles.countP (· = true))

def execShortTrip (n : Chan) (s : State) : Out :=
  if (s.ch n).stage.shortRule s.now then .next (s.shortAct n) else .next s

/-- The mirrored current of a switch exceeds 14 A (R209). -/
def execFastShort (x : MirrorTest) (s : State) : Out :=
  if 14 * 1024 < x.amps.toNat then .next (s.shortAct x.chan) else .next s

/-- A sensor reaches 160 °C (R207). -/
def execDieShutdown (k : Die) (s : State) : Out :=
  if (s.die k).shutdown then .next s
  else
    let s := (s.modDie k fun d => { d with shutdown := true }).hizWhere fun n => n.die = k
    let s := s.jotRaise 0x11 0x0C 0 0 k.val
      (leBytes 4 (toF32 (((s.die k).tj.toInt : Rat) / 8)).toNat) Ev.dieShutdown k.val 0
    .next (s.overChans (fun s n => n.die = k && s.used n) fun s n => s.trip 0x11 n causeDie)

/-- |Z| of the check against its window: 0 pass, or the cause (R210). Squares avoid the root. -/
def checkVerdict (c : ChanCfg) (p : ChProt) : Nat :=
  let u2 := p.chkUre * p.chkUre + p.chkUim * p.chkUim
  let i2 := p.chkIre * p.chkIre + p.chkIim * p.chkIim
  let lo := c.protP 0x0231 * c.re
  let hi := c.protP 0x0232 * c.re
  if u2 < lo * lo * i2 then causeShort else if hi * hi * i2 < u2 then causeOpenLoad else 0

/-- The load check ends (R210, R211). -/
def execLoadCheckComplete (n : Chan) (s : State) : Out :=
  let k := s.ch n
  match k.prot.check, s.cfg n with
  | some t, some c =>
    if 19200 ≤ t && k.st = .retry then
      let v := checkVerdict c k.prot
      let s := s.modCh n fun k => { k with prot := { k.prot with check := none } }
      .next (if v = 0 then s.checkPasses n else s.checkFailed n v)
    else .next s
  | _, _ => .next s

/-- The internal CLEAR of a retry series, 1 s after the trip or failure, which the lead half issues (R211, R254)
(assumptions 16 and 43). -/
def execShortRetryClear (n : Chan) (s : State) : Out :=
  let k := s.ch n
  match k.keep.retryAt with
  | some t =>
    if t ≤ s.now && k.st = .tripped && k.keep.tripCause.toNat = causeShort && s.leads n then
      let s := s.modCh n fun k => { k with keep := { k.keep with retryAt := none } }
      if s.dev.state = .armed || s.dev.state = .run then .next (s.command (.block 0x10) .clear n)
      else .next s
    else .next s
  | none => .next s

/-! ## Ramps (R168, R176, R318, R319, R323) -/

/-- PLAY of a channel that waited for the end of a ramp or of an identification: of the device transition to RUN, whose
entry names the channel, or of the channel engine (R123, R323, Table 4-7). -/
def State.playWaiting (s : State) (n : Chan) : State :=
  let k := s.ch n
  if k.loop.runPlay && k.st = .quiet && ! k.ident.running && ! k.ident.fitPending && ! s.identDue n then
    let s := s.modCh n fun k => { k with loop := { k.loop with runPlay := false, devPlay := false } }
    if s.dev.state = .run && ! s.mutedAt n && ! s.follows n then
      s.command (if k.loop.devPlay then .device else .block 0x10) .play n
    else s
  else s

/-- A RAMP_UP that completes with neither test of R167 failing clears FB_FAULT (R168). DATA of its entry are 0 (DESIGN
CHOICE, assumption 93). -/
def State.clearFb (s : State) (n : Chan) : State :=
  let k := s.ch n
  if k.keep.fbFault && ! k.stage.fbBad then
    (s.modCh n fun k => { k with keep := { k.keep with fbFault := false } }).jot 0x11 0x0C 0 0 n.val
  else s

/-- The return of a held channel to its RESUME state (R318). -/
def State.resumeChan (s : State) (n : Chan) : State :=
  let k := s.ch n
  match k.loop.resume with
  | .retry =>
    let s := s.moveTo 0x14 true n .retry 0
    (s.modCh n fun k => { k with loop := { k.loop with ramped := true } }).startCheck n
  | .quiet => (s.moveTo 0x14 true n .quiet 0).playWaiting n
  | _ => (s.moveTo 0x14 true n .quiet 0).command (.block 0x10) .play n

/-- The state that a held channel returns to: its RESUME state, a playing one by the PLAY rows of Table 4-7, and QUIET where
they refuse the PLAY (R318, R319). -/
def State.resumeState (s : State) (n : Chan) : ChState :=
  let k := s.ch n
  if k.loop.resume.playing then
    ((s.modCh n fun k => { k with st := .quiet, loop := { k.loop with fading := .none } }).judge n .play).getD .quiet
  else k.loop.resume

/-- The lead half issues the return of both halves in the first tick in which its own ramp has completed and
the partner is not high-impedance; a PLAY that is refused is reported (R319). -/
def State.uvCarry (s : State) (n : Chan) : State :=
  let k := s.ch n
  if s.joinedTwin n && s.leads n && k.st = .rampUp && k.loop.uvResume && k.twin.uvRampDone && ! k.twin.partnerHiz then
    let new := s.resumeState n
    let s := s.modCh n fun k => { k with twin := { k.twin with uvRampDone := false, uvWait := 0 } }
    let s := if k.loop.resume.playing && new = .quiet then s.refuseCmd (.block 0x10) n else s
    s.carry 0x01 new.code 0 0 (bitOf n)
  else s

/-- A held half of a joined channel whose ramp completes; one that its partner plays for enters OFF (R319). -/
def State.resumeTwin (s : State) (n : Chan) : State :=
  if (s.ch n).twin.outHeld then s.moveTo 0x14 true n .off 0
  else
    (s.modCh n fun k => { k with twin := { k.twin with uvRampDone := true, uvWait := 0 } }).uvCarry n

/-- The ramp of an enabled half ends. On a joined channel the lead half carries the move of both halves to QUIET; a
half that ramps alone while its partner waits asks the lead for it (R251, R261) (assumption 51). -/
def State.rampUpDone (s : State) (n : Chan) : State :=
  if s.follows n then
    if (s.ch n).twin.partnerState.toNat = ChState.rampUp.code then s
    else s.carry 0x01 ChState.quiet.code 1 0 (bitOf n)
  else if s.joinedTwin n then s.carry 0x01 ChState.quiet.code 0 0 (bitOf n)
  else (s.moveTo 0x10 true n .quiet 0).playWaiting n

/-- The stage die reports the end of a ramp (R176) (assumptions 15 and 42). -/
def execRampComplete (n : Chan) (s : State) : Out :=
  let k := s.ch n
  if k.stage.rampDone then
    let s := s.modCh n fun k => { k with stage := { k.stage with rampDone := false } }
    match k.st with
    | .rampUp =>
      let s := s.clearFb n
      if k.loop.uvResume then .next (if s.joinedTwin n then s.resumeTwin n else s.resumeChan n)
      else .next (s.rampUpDone n)
    | .retry =>
      let s := s.clearFb n
      .next ((s.modCh n fun k => { k with loop := { k.loop with ramped := true } }).startCheck n)
    | .rampDown => .next (s.rampDownEnds 0x10 n)
    | _ => .next s
  else .next s

/-! ## Endings of fades and transfers (R115, R116, R126) -/

/-- The transfer term has decayed to 0 (R115, R116). -/
def execTransferEnd (n : Chan) (s : State) : Out :=
  if (s.ch n).loop.tLeft = 0 then .next (s.modCh n fun k => { k with loop := { k.loop with tC := 0 } })
  else .next s

/-- A fade of R126 ends. -/
def execChannelFadeEnd (n : Chan) (s : State) : Out :=
  let l := (s.ch n).loop
  match l.fading with
  | .play =>
    if l.phi = 98304 then .next (s.modCh n fun k => { k with loop := { k.loop with fading := .none } })
    else .next s
  | .quiet =>
    if l.phi = 0 then
      .next (s.modCh n fun k => { k with loop := { k.loop with
        fading := .none, integ := 0, intSat := false, closing := false } })
    else .next s
  | .stop =>
    if l.phi = 0 then .next (s.modCh n fun k => { k with loop := { k.loop with fading := .none } })
    else .next s
  | _ => .next s

/-! ## Stage-die settings (R173, R179, R190) -/

def State.sdCtlWrite (s : State) (m : Master) (k : Die) (v : Byte) : State :=
  (s.modDie k fun d => { d with injEn := v.getLsbD 0 }).jotWrite m (0x50 + k.val) 0x06 [v] 0

def execSdCtlWrite (m : Master) (k : Die) (v : Byte) (s : State) : Out :=
  .next (s.byMaster m (0x50 + k.val) 0x06 (s.sdCtlWrite m k v))

/-- Model choice: assumption 42. -/
def State.sdRampWrite (s : State) (m : Master) (k : Die) (v : Byte) : State :=
  let r := v.toNat % 128
  if r < 5 || 80 < r then s.raise Ev.rampLengthRefused k.val 0
  else (s.modDie k fun d => { d with rampMs := BitVec.ofNat 7 r }).jotWrite m (0x50 + k.val) 0x08 [v] 0

def execSdRampWrite (m : Master) (k : Die) (v : Byte) (s : State) : Out :=
  .next (s.byMaster m (0x50 + k.val) 0x08 (s.sdRampWrite m k v))

/-! ## MUTE_N (R213, R214) -/

/-- Begin the checks that a mute held back, on the channels that it no longer holds (R214). -/
def State.afterMute (s : State) : State := s.overChans (fun _ _ => true) fun s n => s.startCheck n

/-- A mute of this device is carried to the twin of a joined pair: 1 assert, 0 release (R251, R320). -/
def State.carryMute (s : State) (code : Nat) : State := if s.swp.joined then s.carry 0x05 code 0 0 0 else s

/-- MUTE_N at two consecutive boundaries asserts the mute, which stops an injection at once (R213, R376). An assertion
before a release took effect takes the release back. -/
def execMuteAssert (s : State) : Out :=
  if s.dev.held = .running && s.pwr.vioOk && s.dev.muteLow = (true, true) then
    if s.dev.mutePin then .next { s with dev := { s.dev with muteReleasing := false } }
    else
      let s := ({ s with dev := { s.dev with mutePin := true, muteBy := 0x15 } }).injEnd
      .next ((s.carryMute 1).muteOn (fun n => ! s.joinedTwin n) 0x15)
  else .next s

/-- The release of MUTE_N takes effect (R214). -/
def State.pinRelease (s : State) : State :=
  let s := { s with dev := { s.dev with
    mutePin := false, muteReleasing := false, muteBy := if s.pwr.vioMute then 0x14 else 0x15 } }
  if s.muted then s else ((s.carryMute 0).muteOff (fun n => ! s.joinedTwin n) 0x15).afterMute

/-- MUTE_N reads high at two consecutive boundaries: released, at the end of a mute fade that runs (R213, R214). -/
def execMuteRelease (s : State) : Out :=
  if s.dev.held = .running && s.pwr.vioOk && s.dev.mutePin && s.dev.muteLow = (false, false) then
    .next (if s.muteFades then { s with dev := { s.dev with muteReleasing := true } } else s.pinRelease)
  else .next s

/-- The mute of VIO ends. MUTE_N that reads low keeps the device muted (R320). -/
def State.vioRelease (s : State) : State :=
  let s := { s with
    pwr := { s.pwr with vioMute := false },
    dev := { s.dev with vioReleasing := false, muteBy := if s.dev.mutePin || s.dev.muteRaw then 0x15 else 0x14 } }
  if s.dev.mutePin then s
  else if s.dev.muteRaw then { s with dev := { s.dev with mutePin := true } }
  else
    let s := s.carryMute 0
    (s.muteOff (fun n => ! s.joinedTwin n) 0x14).afterMute

/-- VIO falls below its lost threshold: every open-drain output is released; in STANDBY the level alone changes (R313,
R320, R325) (assumption 45). -/
def execVioLoss (s : State) : Out :=
  if s.dev.held = .running && s.pwr.vioOk then
    let s := { s with
      pwr := { s.pwr with vioOk := false, vioLosses := satInc s.pwr.vioLosses },
      twp := { s.twp with wakeHeld := false, ackDue := false, readDue := none, acked := false } }
    let s := s.jotRaise 0x14 0x0B 0 0 0xFF (s.supplyData 0) Ev.vio 0xFF 0
    if (s.dev.state = .armed || s.dev.state = .run) && ! s.pwr.vioMute then
      let was := s.muted
      let s := { s with
        pwr := { s.pwr with vioMute := true }, dev := { s.dev with muteBy := if was then s.dev.muteBy else 0x14 } }
      .next (if was then s else (s.injEnd.carryMute 1).muteOn (fun n => ! s.joinedTwin n) 0x14)
    else .next { s with dev := { s.dev with vioReleasing := false } }
  else if s.dev.held = .standby then .next { s with pwr := { s.pwr with vioOk := false } }
  else .next s

/-- VIO is good again; the mute is released, at the end of a mute fade that runs (R214, R320) (assumption 45). -/
def execVioReturn (s : State) : Out :=
  if s.dev.held = .running && ! s.pwr.vioOk then
    let s := { s with pwr := { s.pwr with vioOk := true } }
    let s := s.jotRaise 0x14 0x0B 0 0 0xFF (s.supplyData 0) Ev.vio 0xFF 0
    .next (if ! s.pwr.vioMute then s
      else if s.muteFades then { s with dev := { s.dev with vioReleasing := true } }
      else s.vioRelease)
  else if s.dev.held = .standby then .next { s with pwr := { s.pwr with vioOk := true } }
  else .next s

/-- A carried mute ends on the twinned channels (R251). -/
def State.twinRelease (s : State) (src : Nat) : State :=
  let s := { s with dev := { s.dev with twinMute := false, twinReleasing := false } }
  if s.muted then s else (s.muteOff (fun n => s.twinned n) src).afterMute

/-- The mute fade has ended: QUIET with I := 0 and INT_SAT := 0; a release that arrived meanwhile takes
effect (R213, R214). -/
def execMuteFadeEnd (s : State) : Out :=
  let s := s.overChans (fun s n => (s.ch n).loop.fading = .mute && (s.ch n).loop.phi = 0) fun s n =>
    let old := (s.ch n).st
    let s := s.modCh n fun k => { k with
      st := if old.playing then .quiet else old,
      loop := { k.loop with fading := .none, integ := 0, intSat := false, tLeft := 0, tC := 0, closing := false } }
    if old.playing then s.jotCh (s.muteSrc n) n old .quiet 0 0 else s
  if s.muteFades then .next s
  else
    let s := if s.dev.muteReleasing then s.pinRelease else s
    let s := if s.dev.vioReleasing then s.vioRelease else s
    .next (if s.dev.twinReleasing then s.twinRelease 3 else s)

/-! ## PVDD dips (R199, R200) -/

/-- One channel's V_DIP when the warning sets (R199). V_low starts at the V_P that the die reported last before the set
(DESIGN CHOICE, assumption 94). -/
def State.dipChan (s : State) (n : Chan) (k : Channel) : Channel :=
  let held := (s.cfg n).bind fun c => if k.prot.dip then k.prot.vDip (c.protP 0x0205) else none
  { k with prot := { k.prot with
      dip := true, vLow := (s.die n.die).vp, dipCap := held, dipRelease := none } }

/-- The PVDD warning sets. -/
def execPvddWarningSet (s : State) : Out :=
  if s.pwr.warn then .next s
  else
    let s := { s with
      pwr := { s.pwr with warn := true, warns := satInc s.pwr.warns, dipAt := s.now, dipUv := s.pwr.uv },
      chans := vmapIdx (fun n k => s.dipChan n k) s.chans }
    .next (s.raise Ev.pvddDip 0xFF 0)

/-- The PVDD warning clears: V_DIP rises over 38,400 ticks; one entry for the device. -/
def execPvddWarningClear (s : State) : Out :=
  if s.pwr.warn then
    let uv := s.pwr.dipUv
    let data := s.supplyData (s.now - s.pwr.dipAt)
    let s := { s with
      pwr := { s.pwr with warn := false, dipUv := false },
      chans := vmap (fun (k : Channel) => { k with prot := { k.prot with dipRelease := some 0 } }) s.chans }
    .next (s.jot 0x14 0x0B (if uv then 6 else 0) 0 0xFF data)
  else .next s

/-- V_DIP is removed once its release line has ended. -/
def Channel.dipEnd (k : Channel) : Channel :=
  if 38400 ≤ k.prot.dipRelease.getD 0 then
    { k with prot := { k.prot with dip := false, vLow := 0, dipCap := none, dipRelease := none } }
  else k

/-- The release line has ended (R200). -/
def execDipReleaseEnd (s : State) : Out := .next { s with chans := vmap Channel.dipEnd s.chans }

end Sys2Proof.Machine
end

