-- ==== Sys2Proof/Machine/Arch.lean ====
section
/-! DEFINITION. Chapter Device Architecture: lanes, memories with ECC, failures, references, pace, the
matrix byte; and the class S thermal loops (R15 to R39, R201 to R207). -/

namespace Sys2Proof.Machine

/-! ## Lanes and dies (R16, R187) -/

/-- Model choice: assumption 22. -/
def execLaneTransferError (k : Die) (up : Bool) (s : State) : Out :=
  let s := s.modDie k fun d => { d with
    laneErr := true, laneErrs := satInc d.laneErrs, upFail := d.upFail || up,
    downFail := d.downFail || ! up }
  .next (s.raise Ev.laneError k.val 0)

/-- Mask of a die's channels in CH_MASK. -/
def State.dieMask (s : State) (k : Die) : BitVec 64 := maskOf fun n => n.die = k && s.used n

/-- 16 consecutive failed ticks: the die is lost (R16, R187). -/
def execStageDieLost (k : Die) (s : State) : Out :=
  let d := s.die k
  if 16 ≤ d.failRun && ! d.lost then
    let s := s.modDie k fun d => { d with lost := true }
    let s := s.jotRaise 0x11 0x0C 0 0 k.val ([0, 0, 0, 0] ++ leBytes 8 (s.dieMask k).toNat) Ev.stageDieLost k.val 0
    .next (s.overChans (fun s n => n.die = k && s.used n) fun s n => s.trip 0x11 n causeLane)
  else .next s

/-- The die's own decision after 16 ticks without a good downward transfer (R187). -/
def execStageHizLocal (k : Die) (s : State) : Out :=
  if 16 ≤ (s.die k).downRun then .next ((s.modDie k fun d => { d with hizLocal := true }).hizWhere fun n => n.die = k)
  else .next s

/-- 1,024 consecutive good ticks: the die is restored. Its own HIZ_LOCAL clears with the first HIZ command that
it receives (R187). -/
def execStageDieRestored (k : Die) (s : State) : Out :=
  let d := s.die k
  if d.lost && 1024 ≤ d.goodRun then
    let s := s.modDie k fun d => { d with lost := false }
    .next (s.jotRaise 0x11 0x0C 0 0 k.val ([0, 0, 0, 0] ++ leBytes 8 (s.dieMask k).toNat) Ev.stageDieRestored k.val 0)
  else .next s

/-! ## Memories (R18, Table 1-8) -/

/-- Model choice: assumption 70. -/
def execEccCorrected (_mem : EccMem) (s : State) : Out := .next (s.raise Ev.eccCorrected 0xFF 0)

/-- An uncorrectable build-store error: HALT, cause STORE (Tables 1-8, 12-4) (assumption 70). -/
def execStoreUncorrectable (s : State) : Out :=
  let s := s.raise Ev.storeUncorrectable 0xFF 0
  match s.dev.state with
  | .standby => .next s
  | .boot => .next s
  | _ => .next (s.enterHalt 6 .store)

/-- The journal RAM fails (R348). -/
def execJournalRamFailed (s : State) : Out :=
  let waiting := s.jrn.queue.countP (fun e => e.kind != 0x11)
  .next (({ s with jrn := { s.jrn with
    failed := true, queue := [], gap := 0, dropped := satAdd s.jrn.dropped waiting } }).raise Ev.journalFailed 0xFF 0)

/-- Model choice: assumption 70. -/
def execTraceRamUncorrectable (buf : Bool) (slot : Fin 16) (idx : BitVec 16) (s : State) : Out :=
  let b := s.ram6.buf buf
  let b := { b with invalid := true, badWords := (slot.val, idx.toNat) :: b.badWords }
  .next (({ s with ram6 := s.ram6.setBuf buf b }).raise Ev.traceInvalid 0xFF 0)

/-! ## Failures (R39, Table 1-8) -/

/-- Model choice: assumption 26. -/
def execChannelEngineFailed (n : Chan) (s : State) : Out := .next (s.trip 0x10 n causeEngine)

/-- Engine code of Table 1-12, 0xFF for a block that has none (assumption 26). -/
def blockCode : BlockId → Nat
  | .fir e => 0x40 + e.val
  | .slice q => 0x50 + q.val
  | _ => 0xFF

/-- Channels that a failed FIR engine or slice takes to QUIET (assumption 12). -/
def State.hitBy (s : State) (b : BlockId) (n : Chan) : Bool :=
  match b with
  | .fir e => match s.cfg n with
    | some c => usesFir c e
    | none => false
  | .slice q => s.usesSlice n q
  | _ => false

/-- A channel that a failed block takes to QUIET: its device decides, and a follow half asks the lead (R251). -/
def State.blockQuiet (s : State) (n : Chan) : State :=
  if s.follows n then s.command (.block 0x10) .quiet n else s.decide 0x10 true n .quiet 0

/-- This device is the TB follower. -/
def State.tbFollower (s : State) : Bool :=
  match s.plan with
  | some t => t.tbFollower
  | none => false

/-- The Sweetpea lane goes down: a timebase follower clears TB_LOCK and takes its next reference (R242, R243, R255). -/
def State.laneDown (s : State) : State :=
  ({ s with swp := { s.swp with laneUp := false, tbLock := s.swp.tbLock && ! s.tbFollower } }).reReference.setJoin

/-- A block fails: what depends on it goes; an event and an entry report it (assumption 26). -/
def execBlockFailed (b : BlockId) (s : State) : Out :=
  let mask := maskOf fun n => s.hitBy b n
  let s := { s with dev := { s.dev with gone := b :: s.dev.gone } }
  let s := s.jotRaise 0x10 0x0C 0 0 0xFF ([0, 0, 0, 0] ++ leBytes 8 mask.toNat) Ev.blockRemoved (blockCode b) 0
  let s := s.overChans (fun s n => inMask mask n && (s.ch n).st.playing) State.blockQuiet
  match b with
  | .link p =>
    let s := (s.endPending p 2).endSession p 2
    let s := s.modPort p fun l => { l.emptyQueues with
      lane := .down, carrier := false, txOn := false, crcRun := 0, accRun := 0, ex := .reset }
    .next (s.switchTrigger p 0b001).reReference
  | .trace => .next s.trcEnd
  | .twoWire => .next { s with twp := { s.twp with phase := .deaf, staged := [], readDue := none, snap := none } }
  | .sweetpea => .next s.laneDown
  | _ => .next s

/-! ## Timing references (R20, R49, R385) -/

/-- The build in force declares a crystal (R49). -/
def State.xtalDeclared (s : State) : Bool :=
  match s.bld.build with
  | some b => b.claim.xtal
  | none => false

/-- The oscillator of a declared crystal stops or runs again; its detector drops when it stops. Without XTAL it
stays off (R20, R49). -/
def execMtbReferenceChange (xtalRuns : Bool) (s : State) : Out :=
  let runs := xtalRuns && s.xtalDeclared
  .next ({ s with mtb := { s.mtb with
    xtalRuns := runs, xtalOk := s.mtb.xtalOk && runs, xtalHold := if runs then s.mtb.xtalHold else 0 } }).reReference

/-- The amplitude detector of the running oscillator has held for 1,024 consecutive ticks (R49). -/
def execXtalReferenceValid (s : State) : Out :=
  if s.xtalDeclared && s.mtb.xtalRuns && 1024 ≤ s.mtb.xtalHold then
    .next ({ s with mtb := { s.mtb with xtalOk := true } }).reReference
  else .next s

/-! ## VCORE and the matrix byte (R25, R36, R37) -/

def execVcoreDownTrim (s : State) : Out :=
  if s.mx.downTrim && 1024 ≤ s.pace.calm && 0x0A < s.pace.vcore.toNat then
    .next { s with pace := { s.pace with vcore := s.pace.vcore - 1, calm := 0 } }
  else .next s

/-- A write of SYS_MATRIX, judged by R37; each accepted change is journalled, and a refused PARK is none (R346). -/
def State.matrixWrite (s : State) (m : Master) (v : Byte) : State :=
  let remap := v.getLsbD 0
  let park : BitVec 2 := (v >>> 1).setWidth 2
  let setPark (s : State) : State :=
    if park = 3 then s.raise Ev.parkRefused 0xFF 0
    else ({ s with mx := { s.mx with park := park } }).jotWrite m 0x00 0x10 [v] 0
  match m with
  | .m0 =>
    let t := { s with mx := { s.mx with remap := remap } }
    setPark (if park = 3 && remap != s.mx.remap then t.jotWrite m 0x00 0x10 [v] 0 else t)
  | .m1 => if remap = s.mx.remap then setPark s else s.deny m 3 0x30000010 true
  | .m2 => if remap = s.mx.remap then setPark s else s.deny m 3 0x30000010 true
  | _ => s.deny m 3 0x30000010 true

def execSysMatrixWrite (m : Master) (v : Byte) (s : State) : Out := .next (s.matrixWrite m v)

/-! ## Class S loops and their engines (R28, R113) -/

/-- The release and deadline record of a loop. -/
def State.slot (s : State) : ClassS → ClsSlot
  | .coil n => (s.ch n).cls.coil
  | .die k => (s.die k).cls
  | .pilot n => (s.ch n).cls.pilot
  | .ripple n => (s.ch n).cls.ripple
  | .ident n => (s.ch n).cls.ident

def State.modSlot (s : State) (l : ClassS) (f : ClsSlot → ClsSlot) : State :=
  match l with
  | .coil n => s.modCh n fun k => { k with cls := { k.cls with coil := f k.cls.coil } }
  | .die k => s.modDie k fun d => { d with cls := f d.cls }
  | .pilot n => s.modCh n fun k => { k with cls := { k.cls with pilot := f k.cls.pilot } }
  | .ripple n => s.modCh n fun k => { k with cls := { k.cls with ripple := f k.cls.ripple } }
  | .ident n => s.modCh n fun k => { k with cls := { k.cls with ident := f k.cls.ident } }

/-- Engine code of a loop (Table 4-5). -/
def classEngine : ClassS → Nat
  | .coil n => 0x80 + n.val
  | .die k => 0x80 + 8 * k.val
  | .pilot n => n.val
  | .ripple n => n.val
  | .ident n => 0x80 + n.val

/-- Place of a loop in Table 4-5. -/
def classRow : ClassS → Nat
  | .coil _ => 0
  | .die _ => 1
  | .ripple _ => 2
  | .pilot _ => 3
  | .ident _ => 4

/-- The loops of a channel's two engines, and of the die whose model shares its model unit (Table 4-5). -/
def loopsAt (n : Chan) : List ClassS := [.coil n, .die n.die, .ripple n, .pilot n, .ident n]

/-- The channel whose engines run a loop. -/
def classChan : ClassS → Chan
  | .coil n => n
  | .die k => ⟨8 * k.val, by omega⟩
  | .pilot n => n
  | .ripple n => n
  | .ident n => n

/-- The loop is released and pending, and its engine serves it next: its deadline is the earliest of the loops that
are pending there, and it stands first in Table 4-5 among those with that deadline (R113). -/
def State.served (s : State) (l : ClassS) : Bool :=
  match (s.slot l).run with
  | none => false
  | some r =>
    (loopsAt (classChan l)).all fun q =>
      classEngine q != classEngine l || classRow q == classRow l || (match (s.slot q).run with
        | none => true
        | some o => Decidable.decide (r.2 < o.2) || (r.2 == o.2 && Decidable.decide (classRow l < classRow q)))

/-- The loop has run to its end. -/
def State.finish (s : State) (l : ClassS) : State := s.modSlot l fun c => { c with run := none }

/-! ## Thermal models (R28, R29, R201 to R206) -/

/-- One release of the coil model: coil, magnet, then a pending correction (R201, R202). -/
def coilStep (c : ChanCfg) (p : ChProt) : ChProt :=
  let dt : Rat := 1 / 1000
  let al := c.protP 0x0212
  let tr := c.protP 0x0211
  let pc := p.powRel * c.re * (1 + al * (p.tc - tr))
  let tc := p.tc + dt / c.protP 0x0214 * (pc - (p.tc - p.tm) / c.protP 0x0213)
  let tm := p.tm + dt / c.protP 0x0216 * ((tc - p.tm) / c.protP 0x0213 - (p.tm - c.protP 0x0210) / c.protP 0x0215)
  let q := { p with tc := tc, tm := tm }
  match p.correction with
  | none => q
  | some r =>
    let d := tr + (r / c.re - 1) / al - tc
    let g := c.protP 0x021A
    { q with tc := tc + maxR (g * d) (-2), tm := tm + maxR (g * d / 4) (-2), correction := none, coilCap := false }

/-- The flags of R203 after a change of T_c, with their events and entries. -/
def State.coilFlags (s : State) (n : Chan) (c : ChanCfg) : State :=
  let p := (s.ch n).prot
  let lim := Decidable.decide (c.protP 0x0217 < p.tc)
  let ov := Decidable.decide (c.protP 0x0218 ≤ p.tc)
  let s1 := s.modCh n fun k => { k with prot := { k.prot with coilLimit := lim, coilOver := ov } }
  let s2 := s1.raiseEdge p.coilLimit lim Ev.coilLimit n.val 0
  if ov = p.coilOver then s2
  else s2.jotRaise 0x10 0x0C 0 0 n.val (leBytes 4 (toF32 p.tc).toNat) Ev.coilOver n.val 0

/-- The coil model's run ends: it works on the heat up to its release; class P work uses the result from the next
boundary on (R21, R28, R113, R201). -/
def execCoilModelUpdate (n : Chan) (s : State) : Out :=
  match s.cfg n with
  | some c =>
    if s.served (.coil n) then
      let s := (s.finish (.coil n)).modCh n fun k => { k with
        prot := coilStep c k.prot, loop := { k.loop with coilMissRun := 0, coilFallback := false } }
      .next (s.coilFlags n c)
    else .next s
  | none => .next s

/-- Constants of Table 7-1. -/
def dieRB : Rat := 1 / 10
def dieKSW : Rat := 4 / 1000
def diePQ : Rat := 1 / 4
def dieRHS : Rat := 3
def dieTau : Rat := 5 / 1000

/-- T_die of a die, °C (assumption 44). -/
def DieState.tDie (d : DieState) : Rat := (d.tj.toInt : Rat) / 8

/-- A die begins or ceases to attenuate, by the attenuations in force (R206). -/
def State.foldCheck (s : State) (k : Die) : State :=
  let d := s.die k
  let now := Decidable.decide (minR d.attS d.attUse < 0)
  if now = d.folding then s
  else
    (s.modDie k fun d => { d with folding := now }).jotRaise 0x11 0x0C 0 0 k.val
      (leBytes 4 (toF32 (minR d.attS d.attUse)).toNat) Ev.dieFoldBack k.val 0

/-- One release of the die model (R205) (assumption 44). -/
def dieStep (d : DieState) (on : Fin 8 → Bool) : DieState :=
  let step (j : Fin 8) (t : Rat) : Rat :=
    if on j then
      t + (dieRHS * d.powRel[j] - t) * (1 / 1000) / dieTau
    else t
  let dT := vmapIdx step d.dT
  let hot := (List.finRange 8).foldl (fun (m : Option Rat) j =>
    if on j then some (match m with
      | some x => maxR x (d.tRel + dT[j])
      | none => d.tRel + dT[j]) else m) none
  let tm := hot.getD d.tRel
  { d with
    dT := dT, tModel := tm,
    attM := if hot.isNone then 0 else foldAtt tm, dieMissRun := 0, dieFallback := false }

/-- CHj of a die. -/
def dieChan (k : Die) (j : Fin 8) : Chan := ⟨8 * k.val + j.val, by omega⟩

/-- The die model's run ends; its attenuation acts from the next boundary on (R21, R28, R113, R205). -/
def execDieModelUpdate (k : Die) (s : State) : Out :=
  if s.served (.die k) then
    .next ((s.finish (.die k)).modDie k fun d => dieStep d fun j => s.used (dieChan k j))
  else .next s

/-- The sixteenth consecutive miss of a thermal model puts its fall-back in force (R29) (assumption 44). -/
def execThermalFallback (l : Thermal) (s : State) : Out :=
  match l with
  | .coil n =>
    if 16 ≤ (s.ch n).loop.coilMissRun then
      .next (s.modCh n fun k => { k with loop := { k.loop with coilFallback := true } })
    else .next s
  | .die k =>
    if 16 ≤ (s.die k).dieMissRun.toNat then .next (s.modDie k fun d => { d with dieFallback := true })
    else .next s

/-- 10 s after the restart of the coil model the cap lifts (R204). -/
def execCoilCapExpiry (n : Chan) (s : State) : Out :=
  if 1920000 ≤ (s.ch n).prot.coilAge then
    .next (s.modCh n fun k => { k with prot := { k.prot with coilCap := false }, issue := { k.issue with cap := false } })
  else .next s

/-- End a sweep or a fit with a result (R156): register, event, entry; PLAY that waited for it (R323) (assumption 39). -/
def State.identResult (s : State) (n : Chan) (code : Nat) (resid : BitVec 32) (digest : BitVec 128) : State :=
  let s := s.modCh n fun k => { k with
    ident := .reset,
    cls := { k.cls with ident := { k.cls.ident with run := none } },
    keep := { k.keep with result := BitVec.ofNat 4 code } }
  let s := s.jotRaise 0x10 0x0E 0 code n.val ([BitVec.ofNat 8 code, 0, 0, 0] ++ leBytes 4 resid.toNat)
    Ev.identificationResult n.val code (some digest)
  s.playWaiting n

/-- What a missed deadline of a loop does: its flag, its event; its previous output stays (R28, R29). -/
def State.loopMissed (s : State) (l : ClassS) : Out :=
  match l with
  | .coil n =>
    let s := s.modCh n fun k => { k with loop := { k.loop with
      coilDm := true, coilMissRun := min (k.loop.coilMissRun + 1) 255 } }
    .next (s.raise Ev.coilDeadlineMiss n.val 0)
  | .die k =>
    let s := s.modDie k fun d => { d with dieDm := true, dieMissRun := satInc d.dieMissRun }
    .next (s.raise Ev.dieDeadlineMiss k.val 0)
  | .pilot n =>
    let s := s.modCh n fun k => { k with loop := { k.loop with pilotDm := true } }
    .next (s.raise Ev.pilotDeadlineMiss n.val 0)
  | .ripple n =>
    let s := s.modCh n fun k => { k with loop := { k.loop with rippleDm := true } }
    .next (s.raise Ev.rippleDeadlineMiss n.val 0)
  | .ident n =>
    let s := s.modCh n fun k => { k with loop := { k.loop with identDm := true } }
    let s := s.raise Ev.identDeadlineMiss n.val 0
    if (s.ch n).ident.fitPending then
      let s := s.identResult n 6 0 0
      .next (s.checkFails n causeIdent)
    else .next s

/-- A run that passed its deadline is reported (R28). -/
def execClassSDeadlineMiss (l : ClassS) (s : State) : Out :=
  if (s.slot l).missDue then (s.modSlot l fun c => { c with missDue := false }).loopMissed l else .next s

end Sys2Proof.Machine
end

