-- ==== Sys2Proof/Machine/Image.lean ====
section
/-! DEFINITION. Images: the header, the signature block and the records of the record region, read
from bytes (R41 to R57, R421). -/

namespace Sys2Proof.Machine

/-- A refusal: its code and the offset of R420. -/
structure Bad where
  code : Nat
  off : BitVec 32
  deriving DecidableEq, Repr

/-- The outcome of one check. -/
abbrev Chk (α : Type) := Except Bad α

def bad {α : Type} (code : Nat) (off : Nat) : Chk α := .error { code := code, off := BitVec.ofNat 32 off }

/-- A refusal that names no record. -/
def badNone {α : Type} (code : Nat) : Chk α := .error { code := code, off := noOffset }

/-- Require a condition. -/
def need (b : Bool) (code : Nat) (off : Nat) : Chk Unit := if b then .ok () else bad code off

/-- Check every element in order. -/
def checkAll {α : Type} (f : α → Chk Unit) : List α → Chk Unit
  | [] => .ok ()
  | a :: t =>
    match f a with
    | .ok _ => checkAll f t
    | .error e => .error e

/-- Bytes between the parts of Table 2-1. -/
def Header.encrypted (h : Header) : Bool := h.mode / 2 % 2 = 1

def Header.signed (h : Header) : Bool := h.mode % 2 = 1

/-- Offset of the record region. -/
def Header.base (h : Header) : Nat := if h.encrypted then 280 else 128

/-- Offset of the signature block. -/
def Header.sigAt (h : Header) : Nat := h.base + h.payloadLen + if h.encrypted then 16 else 0

/-- BUILD_DIGEST of an image (R46). -/
def buildDigest (img : List Byte) (h : Header) : BitVec 384 := Config.sha384 (img.take h.sigAt)

/-- Step 1 of R62: the header under R44, then the lengths. `len`: LEN, or the bytes in the patch buffer. The rule gives
FORMAT and LENGTH for the step without saying which check gives which, or which comes first: an IMAGE_LEN that is
not LEN gives LENGTH, and after it lengths that are not those of Table 2-1 give FORMAT (DESIGN CHOICE, assumption 74). -/
def checkHeader (h : Header) (patch : Bool) (len : Nat) : Chk Unit := do
  need (h.framed && h.magic && h.format = 1 && h.kind = (if patch then 1 else 0) &&
    (h.mode = 0 || h.mode = 3) && (if patch then h.patchSeq != 0 else h.patchSeq = 0 && h.target = 0))
    codeFormat 0
  if h.imageLen = len then .ok () else badNone codeLength
  need (h.payloadLen % 8 = 0 && h.imageLen = h.sigAt + 264 && h.imageLen ≤ 4194304) codeFormat 0

/-- The owner key hash in force: slot 0 when valid, slot 1 otherwise (R294). -/
def Fuses.owner (f : Fuses) : Option (BitVec 384) :=
  if f.owner0.used && f.owner0.valid then some f.owner0.hash
  else if f.owner1.used && f.owner1.valid then some f.owner1.hash
  else none

/-- SEC_STATUS.LIFE (Table 11-4). -/
def Fuses.life (f : Fuses) : BitVec 2 :=
  if f.owner.isSome then 0b10 else if f.owner0.used && f.owner1.used then 0b11 else 0b01

/-- Step 3 of R62: the signature block under R47. A digest-only block whose OWNER_KEY, SIG_R or SIG_S is not zero
breaks Table 2-5, to which the rule gives no code: FORMAT (DESIGN CHOICE, assumption 74). -/
def checkSignature (img : List Byte) (h : Header) (f : Fuses) : Chk Unit := do
  let at_ := h.sigAt
  let b := slice img at_ 264
  let signed := h.signed
  need (byteAt b 0 = 0x0F && byteAt b 1 = 1 && zeros b 2 2 && field b 4 4 = 264 && zeros b 9 7 &&
    zeros b 161 7 && field b 8 1 = (if signed then 1 else 0) && (signed || zeros b 64 200)) codeFormat at_
  let d := buildDigest img h
  need (slice b 16 48 = beBytes 48 d.toNat) codeSignature at_
  if signed then
    let key := slice b 64 97
    need (f.owner = some (Config.sha384 key)) codeKey at_
    need (Config.ecdsaVerify key d (slice b 168 96)) codeSignature at_
  else .ok ()

/-- A private key of R296 from its label. -/
def idScalar (label : String) : BitVec 384 :=
  let c := Config.hkdf56 (beBytes 32 Config.idSeed.toNat) [] (ascii label)
  BitVec.ofNat 384 (c.toNat % (Config.p384Order - 1) + 1)

/-- Step 5 of R62: the record region decrypted (R300). The reserved bytes 149 to 151 of the key envelope, which is no
record, are not examined (DESIGN CHOICE, assumption 74). -/
def decryptRegion (img : List Byte) (h : Header) : Chk (List Byte) :=
  let region := slice img h.base h.payloadLen
  if h.encrypted then
    let env := slice img 128 152
    let hdr := slice img 0 128
    let eph := env.take 97
    if ! Config.pointValid eph then badNone codeDecrypt
    else
      let dA := idScalar "FL64 ID AGREE"
      let z := Config.ecdhX dA eph
      let kek := Config.hkdf32 (beBytes 48 z.toNat) (beBytes 48 (Config.sha384 hdr).toNat)
        (ascii "FL64 BUILD KEK" ++ leBytes 8 Config.serial.toNat)
      match Config.aesUnwrap kek (slice env 97 40) with
      | none => badNone codeDecrypt
      | some ck =>
        match Config.gcmDecrypt ck (slice env 137 12) (hdr ++ env) region (slice img (h.base + h.payloadLen) 16) with
        | none => badNone codeDecrypt
        | some r => .ok r
  else .ok region

/-! ## Records (R42, Tables 2-6 to 2-13, R421) -/

/-- A record with its offset, its bytes and its body. -/
structure Rec where
  off : Nat
  bytes : List Byte
  body : Record
  deriving DecidableEq, Repr

def f32At (b : List Byte) (i : Nat) : BitVec 32 := BitVec.ofNat 32 (field b i 4)

def i32At (b : List Byte) (i : Nat) : Int := (f32At b i).toInt

def chanAt (b : List Byte) : Option Chan :=
  if h : (byteAt b 8).toNat < 64 then some ⟨(byteAt b 8).toNat, h⟩ else none

def firAt (b : List Byte) (i : Nat) : Option (Option (Fin 8)) :=
  let v := (byteAt b i).toNat
  if v = 255 then some none else if h : v < 8 then some (some ⟨v, h⟩) else none

def parseClaim (b : List Byte) : Option Record :=
  if b.length = 32 && (byteAt b 21).toNat < 2 && zeros b 24 8 then
    some (.claim { chMask := BitVec.ofNat 64 (field b 8 8), streams := field b 16 1, fir := field b 17 1,
                   models := field b 18 1, ptables := field b 19 1, ripple := field b 20 1,
                   xtal := field b 21 1 = 1, sections := field b 22 2 })
  else none

def parseStreams (b : List Byte) : Option Record :=
  let n := field b 8 1
  if n ≤ 96 && b.length = 16 + 8 * n && zeros b 9 7 &&
      (List.range n).all (fun i => field b (16 + 8 * i) 1 ≤ 95 && field b (17 + 8 * i) 1 ≤ 95 &&
        zeros b (18 + 8 * i) 6) then
    some (.streams ((List.range n).map fun i => (field b (16 + 8 * i) 1, field b (17 + 8 * i) 1)))
  else none

def parseChanDef (b : List Byte) : Option Record :=
  match chanAt b, firAt b 13, firAt b 14 with
  | some n, some f, some g =>
    let nin := field b 9 1
    let fl := field b 11 1
    if b.length = 48 && 1 ≤ nin && nin ≤ 4 && field b 10 1 ≤ 3 && fl ≤ 3 && field b 12 1 ≤ 128 &&
        field b 15 1 ≤ 15 && (List.range 4).all (fun j => zeros b (17 + 8 * j) 3) then
      some (.chanDef n { law := field b 10 1, fadeEn := fl % 2 = 1, firFade := fl / 2 = 1,
                         sectMax := field b 12 1, fir := f, firShadow := g, phase := field b 15 1,
                         inputs := (List.range nin).map fun j => (field b (16 + 8 * j) 1, i32At b (20 + 8 * j)) })
    else none
  | _, _, _ => none

def parseFilter (b : List Byte) : Option Record :=
  let c := field b 10 1
  let t := field b 12 2
  match chanAt b with
  | some n =>
    let len := 16 + 20 * c + 4 * t
    let pad := (8 - len % 8) % 8
    if field b 9 1 ≤ 1 && c ≤ 128 && t ≤ 2048 && b.length = len + pad && zeros b 11 1 && zeros b 14 2 &&
        zeros b len pad then
      some (.filter n (field b 9 1 = 1)
        { secs := (List.range c).map fun i =>
            let o := 16 + 20 * i
            { b0 := i32At b o, b1 := i32At b (o + 4), b2 := i32At b (o + 8), a1 := i32At b (o + 12),
              a2 := i32At b (o + 16) },
          taps := (List.range t).map fun i => i32At b (16 + 20 * c + 4 * i) })
    else none
  | none => none

/-- Parameters of a tagged record. -/
def parseParams (b : List Byte) : Option Params :=
  let n := field b 10 2
  if b.length = 16 + 8 * n && zeros b 12 4 && (List.range n).all (fun i => zeros b (18 + 8 * i) 2) then
    some ((List.range n).map fun i => (field b (16 + 8 * i) 2, f32At b (20 + 8 * i)))
  else none

def parseModel (b : List Byte) : Option Record :=
  match chanAt b with
  | some n =>
    let k := field b 9 1
    if b.length = 48 && 1 ≤ k && k ≤ 3 && zeros b 10 6 then
      some (.model n { kind := k, re := f32At b 16, le := f32At b 20, bl := f32At b 24, mms := f32At b 28,
                       kms := f32At b 32, rms := f32At b 36, xlim := f32At b 40, fb := f32At b 44 })
    else none
  | none => none

def parseTable (b : List Byte) : Option Record :=
  match chanAt b with
  | some n =>
    if b.length = 416 && zeros b 9 7 && zeros b 412 4 then
      let arr (o : Nat) := (List.range 33).map fun i => f32At b (o + 4 * i)
      some (.table n { bl := arr 16, kms := arr 148, le := arr 280 })
    else none
  | none => none

def parseTwin (b : List Byte) : Option Record :=
  if b.length = 40 && zeros b 33 7 then
    let f := field b 32 1
    some (.twin { twinMask := BitVec.ofNat 64 (field b 8 8), leadMask := BitVec.ofNat 64 (field b 16 8),
                  pairId := BitVec.ofNat 64 (field b 24 8), tbFollower := f = 1 } f)
  else none

def parsePolicy (b : List Byte) : Option Record :=
  if b.length = 72 then
    some (.policy (BitVec.ofNat 256 (field b 8 32)) (BitVec.ofNat 256 (field b 40 32)))
  else none

/-- The body of a record, none where it breaks R42 or R421. -/
def parseRecord (b : List Byte) : Option Record :=
  match (byteAt b 0).toNat with
  | 0x02 => parseClaim b
  | 0x03 => parseStreams b
  | 0x04 => parseChanDef b
  | 0x05 => parseFilter b
  | 0x06 => match chanAt b, parseParams b with
    | some n, some p => some (.law n (field b 9 1) p)
    | _, _ => none
  | 0x07 => parseModel b
  | 0x08 => parseTable b
  | 0x09 => match chanAt b, parseParams b with
    | some n, some p => if field b 9 1 = 0 then some (.prot n 0 p) else none
    | _, _ => none
  | 0x0A => match chanAt b, parseParams b with
    | some n, some p => if field b 9 1 = 0 then some (.diag n 0 p) else none
    | _, _ => none
  | 0x0B => parseTwin b
  | 0x0C => parsePolicy b
  | _ => none

/-- Split a region into records, framing under R42. The first argument bounds the number of records (assumption 30). -/
def splitRecords : Nat → Nat → List Byte → Chk (List Rec)
  | 0, off, r => if r.isEmpty then .ok [] else bad codeFormat off
  | k + 1, off, r =>
    if r.isEmpty then .ok []
    else
      let len := field r 4 4
      if byteAt r 1 != 1 || ! zeros r 2 2 || len % 8 != 0 || len < 8 || r.length < len then bad codeFormat off
      else
        let b := r.take len
        match parseRecord b with
        | none => bad codeFormat off
        | some body => do
          let t ← splitRecords k (off + len) (r.drop len)
          .ok ({ off := off, bytes := b, body := body } :: t)

/-! ## Keys and scope -/

/-- TYPE, channel and bank: what R43 counts. -/
def Record.key : Record → Nat × Nat × Bool
  | .claim _ => (2, 0, false)
  | .streams _ => (3, 0, false)
  | .chanDef n _ => (4, n.val, false)
  | .filter n b _ => (5, n.val, b)
  | .law n _ _ => (6, n.val, false)
  | .model n _ => (7, n.val, false)
  | .table n _ => (8, n.val, false)
  | .prot n _ _ => (9, n.val, false)
  | .diag n _ _ => (10, n.val, false)
  | .twin _ _ => (11, 0, false)
  | .policy _ _ => (12, 0, false)

/-- The channel of a channel-scoped record. -/
def Record.chan : Record → Option Chan
  | .chanDef n _ => some n
  | .filter n _ _ => some n
  | .law n _ _ => some n
  | .model n _ => some n
  | .table n _ => some n
  | .prot n _ _ => some n
  | .diag n _ _ => some n
  | _ => none

/-- The record with a key. -/
def findKey (l : List Rec) (k : Nat × Nat × Bool) : Option Rec := l.find? fun r => r.body.key = k

/-- Every record that repeats the key of an earlier one breaks R43. -/
def checkDup (code : Nat) : List (Nat × Nat × Bool) → List Rec → Chk Unit
  | _, [] => .ok ()
  | seen, r :: t =>
    if seen.contains r.body.key then bad code r.off else checkDup code (r.body.key :: seen) t

end Sys2Proof.Machine
end

