-- ==== Sys2Proof/Machine/Stability.lean ====
section
/-! DEFINITION. The stability tests of builds, patches and fits (R157 to R160). -/

namespace Sys2Proof.Machine

/-! ## Polynomials, lowest power first, and complex numbers -/

abbrev Poly := List Rat

def padd : Poly → Poly → Poly
  | [], q => q
  | p, [] => p
  | a :: p, b :: q => (a + b) :: padd p q

def pscale (k : Rat) (p : Poly) : Poly := p.map (k * ·)

def pmul : Poly → Poly → Poly
  | [], _ => []
  | a :: p, q => padd (pscale a q) (0 :: pmul p q)

def ppow (p : Poly) : Nat → Poly
  | 0 => [1]
  | n + 1 => pmul p (ppow p n)

/-- Drop vanishing leading coefficients. -/
def pnorm (p : Poly) : Poly := (p.reverse.dropWhile (· = 0)).reverse

structure Cx where
  re : Rat
  im : Rat
  deriving DecidableEq, Repr

def Cx.add (a b : Cx) : Cx := { re := a.re + b.re, im := a.im + b.im }

def Cx.sub (a b : Cx) : Cx := { re := a.re - b.re, im := a.im - b.im }

def Cx.mul (a b : Cx) : Cx := { re := a.re * b.re - a.im * b.im, im := a.re * b.im + a.im * b.re }

def Cx.scale (k : Rat) (a : Cx) : Cx := { re := k * a.re, im := k * a.im }

/-- |z|². -/
def Cx.sq (a : Cx) : Rat := a.re * a.re + a.im * a.im

def Cx.div (a b : Cx) : Cx :=
  let d := b.sq
  { re := (a.re * b.re + a.im * b.im) / d, im := (a.im * b.re - a.re * b.im) / d }

/-- A quotient of measured values, free over 0 (assumption 96). -/
def Cx.quot (a b : Cx) : Cx :=
  if b.sq = 0 then { re := Config.overZero a.re, im := Config.overZero a.im } else a.div b

/-- e^(jx). -/
def Cx.cis (x : Rat) : Cx := { re := Config.cosR x, im := Config.sinR x }

/-- A polynomial at a complex point. -/
def peval (p : Poly) (z : Cx) : Cx := p.foldr (fun c acc => ({ re := c, im := 0 } : Cx).add (z.mul acc)) ⟨0, 0⟩

/-! ## The plant (R132, R157) -/

/-- Values of the plant: table point, resistance and the rest of the model. -/
structure Plant where
  bl : Rat
  kms : Rat
  le : Rat
  re : Rat
  mms : Rat
  rms : Rat
  vented : Bool
  kb : Rat
  wb : Rat
  ql : Rat
  deriving DecidableEq, Repr

/-- The channel's plant at values of Bl, Kms, Le and a resistance. -/
def ChanCfg.plant (c : ChanCfg) (bl kms le re : Rat) : Plant :=
  { bl := bl, kms := kms, le := le, re := re, mms := f32 c.model.mms, rms := f32 c.model.rms,
    vented := c.model.kind == 2, kb := c.lawP 0x0113 * c.kms0, wb := 2 * Config.pi * f32 c.model.fb,
    ql := c.lawP 0x0114 }

/-- Z_M(s) = A(s) / (s·B(s)). -/
def Plant.zm (p : Plant) : Poly × Poly :=
  let a : Poly := [p.kms, p.rms, p.mms]
  if p.vented then
    let q : Poly := [p.wb * p.wb, p.wb / p.ql, 1]
    (padd (pmul a q) (pscale p.kb [0, p.wb / p.ql, 1]), q)
  else (a, [1])

/-- Common denominator of P_I and P_V: (Re_p + s·Le)·A + Bl²·s·B. -/
def Plant.den (p : Plant) : Poly :=
  let z := p.zm
  padd (pmul [p.re, p.le] z.1) (pscale (p.bl * p.bl) (0 :: z.2))

/-- Numerator of P_I. -/
def Plant.numI (p : Plant) : Poly := p.zm.1

/-- Numerator of P_V. -/
def Plant.numV (p : Plant) : Poly := pscale p.bl (0 :: p.zm.2)

/-- The motional impedance Bl²/Z_M at a frequency in rad/s (R228). -/
def Plant.zmot (p : Plant) (w : Rat) : Cx :=
  let z : Cx := ⟨0, w⟩
  (peval (pscale (p.bl * p.bl) (0 :: p.zm.2)) z).div (peval p.zm.1 z)

/-- Numerator of M(s) for a law and a resistance error δ; its denominator is `den`. -/
def Plant.numM (p : Plant) (law : Nat) (d : Rat) : Poly :=
  let v := padd p.numV (pscale (-(d * p.re / p.bl)) p.numI)
  if law = 1 then v else if law = 2 then 0 :: v else p.numI

/-- Denominator of H(s). -/
def lagPoly (law : Nat) (est : Rat) : Poly :=
  let h : Poly := [1, 1 / (2 * Config.pi * est)]
  if law = 1 then h else if law = 2 then pmul h h else [1]

/-- One case of R158. -/
structure LoopCase where
  law : Nat
  kp : Rat
  ki : Rat
  est : Rat
  delta : Rat
  plant : Plant
  deriving DecidableEq, Repr

/-- H(jω)·M(jω)·e^(−2jω/fT). -/
def LoopCase.hm (c : LoopCase) (w : Rat) : Cx :=
  let z : Cx := ⟨0, w⟩
  let m := (peval (c.plant.numM c.law c.delta) z).div (peval (pmul c.plant.den (lagPoly c.law c.est)) z)
  m.mul (Cx.cis (-(2 * w / fT)))

/-- L(jω). -/
def LoopCase.gain (c : LoopCase) (w : Rat) : Cx := (Cx.mk c.kp (-(c.ki / w))).mul (c.hm w)

/-- Test frequencies of criterion 1, Hz. -/
def testFreqs : List Rat :=
  ((List.range 413).map fun (k : Nat) => Config.pow10R ((k : Rat) / 96)) ++ [20000]

/-- Criterion 1 (assumption 34). -/
def LoopCase.crit1 (c : LoopCase) : Bool :=
  testFreqs.all fun f =>
    decide (1 / 4 ≤ ((Cx.mk 1 0).add (c.gain (2 * Config.pi * f))).sq)

/-! ## Criterion 2: the frequencies where |L| crosses 1 -/

/-- The even coefficients of a polynomial in s at s = jω, as a polynomial in ω². -/
def evenPart : Poly → Poly
  | a :: _ :: b :: _ :: p => a :: -b :: evenPart p
  | a :: _ :: b :: p => a :: -b :: evenPart p
  | a :: _ => [a]
  | [] => []

/-- |p(jω)|² as a polynomial in ω². -/
def magSq (p : Poly) : Poly :=
  let r := evenPart p
  let i := evenPart p.tail
  padd (pmul r r) (0 :: pmul i i)

/-- A polynomial at a real point. -/
def pat (p : Poly) (x : Rat) : Rat := p.foldr (fun c acc => c + x * acc) 0

def pderiv (p : Poly) : Poly := (p.zipIdx.map fun e => e.1 * (e.2 : Rat)).tail

/-- The remainder of a division, by a number of steps that covers its degree. -/
def prem : Nat → Poly → Poly → Poly
  | 0, p, _ => p
  | n + 1, p, d =>
    if p.length < d.length then p
    else
      let q := p.getLastD 0 / d.getLastD 1
      prem n (pnorm ((padd p (List.replicate (p.length - d.length) 0 ++ pscale (-q) d)).take (p.length - 1))) d

/-- The Sturm chain of two polynomials. -/
def sturm : Nat → Poly → Poly → List Poly
  | 0, p, _ => [p]
  | n + 1, p, q => if q = [] then [p] else p :: sturm n q (pscale (-1) (prem p.length p q))

/-- Changes of sign along a chain at a point. -/
def signChanges (l : List Poly) (x : Rat) : Nat :=
  let v := (l.map fun p => pat p x).filter (· != 0)
  (List.zipWith (fun a b => decide (a * b < 0)) v v.tail).countP (· = true)

/-- Bisect an interval that holds one root. -/
def narrow (l : List Poly) : Nat → Rat → Rat → Rat × Rat
  | 0, a, b => (a, b)
  | n + 1, a, b =>
    let m := (a + b) / 2
    if signChanges l a = signChanges l m then narrow l n m b else narrow l n a m

/-- Intervals that hold one distinct root each, narrowed. -/
def isolate (l : List Poly) : Nat → Rat → Rat → List (Rat × Rat)
  | 0, _, _ => []
  | n + 1, a, b =>
    match signChanges l a - signChanges l b with
    | 0 => []
    | 1 => [narrow l 128 a b]
    | _ => isolate l n a ((a + b) / 2) ++ isolate l n ((a + b) / 2) b

/-- The values of ω², from 0 Hz to fT/2, at which a polynomial in ω² changes sign, each to 2⁻¹²⁸ of the interval that
isolates it (assumption 34). -/
def crossings (p : Poly) : List Rat :=
  let q := (pnorm p).dropWhile (· = 0)
  let top := 2 * Config.pi * 96000
  let l := sturm q.length q (pnorm (pderiv q))
  ((isolate l 256 0 (top * top)).filter fun e => decide (pat q e.1 * pat q e.2 ≤ 0)).map fun e => (e.1 + e.2) / 2

/-- Numerator and denominator of L without its delay, whose magnitude is 1. -/
def LoopCase.ratio (c : LoopCase) : Poly × Poly :=
  (pmul [c.ki, c.kp] (c.plant.numM c.law c.delta), 0 :: pmul c.plant.den (lagPoly c.law c.est))

/-- Criterion 2: where |L| crosses 1, the angle of −L lies from 40° to 180° (assumption 34). -/
def LoopCase.crit2 (c : LoopCase) : Bool :=
  let r := c.ratio
  (crossings (padd (magSq r.1) (pscale (-1) (magSq r.2)))).all fun x =>
    let z := Cx.scale (-1) (c.gain (Config.sqrtR x))
    decide (0 ≤ z.im) && decide (z.re ≤ Config.cosR (2 * Config.pi / 9))

/-- A polynomial under s = 2·fT·(z − 1)/(z + 1), times (z + 1)^n. -/
def bilinear (p : Poly) (n : Nat) : Poly :=
  p.zipIdx.foldl (fun acc e =>
    padd acc (pscale (e.1 * (2 * fT) ^ e.2) (pmul (ppow [-1, 1] e.2) (ppow [1, 1] (n - e.2))))) []

/-- Every root lies inside the unit circle: the Schur–Cohn recursion on a list of a given length. -/
def schur : Nat → Poly → Bool
  | 0, _ => true
  | n + 1, p =>
    match p with
    | [] => true
    | [_] => true
    | a0 :: t =>
      let an := p.getLastD 0
      if absR an ≤ absR a0 then false
      else schur n ((List.zipWith (fun x y => an * x - a0 * y) t p.reverse.tail))

/-- Every root lies within radius r. -/
def rootsWithin (p : Poly) (r : Rat) : Bool :=
  let q := (pnorm p).zipIdx.map fun e => e.1 * r ^ e.2
  schur q.length q

/-- Criterion 3, for the cases with δ = 0: the factor s that N and D share cancels (assumption 34). -/
def LoopCase.crit3 (c : LoopCase) : Bool :=
  let p := c.plant
  let pi : Poly := if c.ki = 0 then [c.kp] else [c.ki, c.kp]
  let lag := lagPoly c.law c.est
  let nd : Poly × Poly :=
    if c.law = 1 then (pmul [c.ki, c.kp] (pscale p.bl p.zm.2), pmul lag p.den)
    else if c.law = 2 then (pmul [c.ki, c.kp] (pscale p.bl (0 :: p.zm.2)), pmul lag p.den)
    else (pmul pi p.numI, if c.ki = 0 then p.den else 0 :: p.den)
  let nn := pnorm nd.1
  let dn := pnorm nd.2
  let n := max (nn.length - 1) (dn.length - 1)
  rootsWithin (padd (0 :: 0 :: bilinear dn n) (bilinear nn n)) (9999 / 10000)

/-- R158 for one case. -/
def LoopCase.passes (c : LoopCase) : Bool :=
  c.crit1 && c.crit2 && (c.delta != 0 || c.crit3)

/-- λ_h² of R159 for a mains frequency and a harmonic. -/
def LoopCase.lambdaSq (c : LoopCase) (leak gain adv fm : Rat) (h : Nat) : Rat :=
  let w := 2 * Config.pi * (h : Rat) * fm
  let sh := (1 + Config.cosR (2 * Config.pi * (h : Rat) / 1024)) / 2
  let g := (Cx.scale c.kp (c.hm w)).div ((Cx.mk 1 0).add (c.gain w))
  let t := (Cx.scale gain g).mul (Cx.cis (w * adv / fT))
  sh * sh * ((Cx.mk (1 - leak) 0).sub t).sq

/-- R159 for one case. -/
def LoopCase.learns (c : LoopCase) (leak gain adv : Rat) : Bool :=
  gain = 0 || ([50, 60] : List Rat).all fun fm =>
    (List.range 40).all fun i => decide (c.lambdaSq leak gain adv fm (i + 1) < 1)

/-- The points of R158: every table point, or point 16 of the model record. -/
def ChanCfg.points (c : ChanCfg) : List (Rat × Rat × Rat) :=
  match c.table with
  | some t => (List.range 33).map fun i => (f32 (t.bl.getD i 0), f32 (t.kms.getD i 0), f32 (t.le.getD i 0))
  | none => [(f32 c.model.bl, f32 c.model.kms, f32 c.model.le)]

/-- Every case of R158. -/
def ChanCfg.cases (c : ChanCfg) : List LoopCase :=
  c.points.flatMap fun q =>
    [c.re, c.lawP 0x0112 * c.re].flatMap fun re =>
      ([-(1 / 20), 0, 1 / 20] : List Rat).map fun d =>
        { law := c.dfn.law, kp := c.lawP 0x0010, ki := c.lawP 0x0011, est := c.lawP 0x0110, delta := d,
          plant := c.plant q.1 q.2.1 q.2.2 re }

/-- R160. -/
def PTable.shapeOk (t : PTable) : Bool :=
  (t.bl.all fun b => decide (3 / 10 * f32 (t.bl.getD 16 0) ≤ f32 b)) &&
    (t.kms.all fun b => decide (1 / 10 * f32 (t.kms.getD 16 0) ≤ f32 b))

/-- R157 to R160 for a channel; law 0x00 closes no loop and is not tested (R58) (assumption 34). -/
def ChanCfg.stable (c : ChanCfg) : Bool :=
  c.dfn.law = 0 ||
    ((match c.table with
      | some t => t.shapeOk
      | none => true) &&
      c.cases.all fun k => k.passes && k.learns (c.lawP 0x0131) (c.lawP 0x0130) (c.lawP 0x0132))

end Sys2Proof.Machine
end

