-- ==== Sys2Proof/Machine/Checker.lean ====
section
/-! DEFINITION. The checker: R62 for builds and R66, R67 for patches, with the refusal codes of Table
2-16 and the offsets of R420. -/

namespace Sys2Proof.Machine

/-! ## Growth (R53, R87) -/

/-- The sum of |h| of an impulse response over a number of samples. -/
def l1Go (a1 a2 : Rat) : Nat → List Rat → Rat → Rat → Rat → Rat
  | 0, _, _, _, acc => acc
  | n + 1, b, y1, y2, acc =>
    let y := b.headD 0 - a1 * y1 - a2 * y2
    l1Go a1 a2 n b.tail y y1 (acc + absR y)

/-- Round up to a relative error of 2⁻²⁰. -/
def roundUp20 (q : Rat) : Rat :=
  if q = 0 then 0
  else
    let k := pow2 (20 - expOf q)
    (-((-(q * k)).floor) : Rat) / k

def q29 (x : Int) : Rat := (x : Rat) / 536870912

/-- N_i of a section. -/
def Section.norm (c : Section) : Rat :=
  roundUp20 (l1Go (q29 c.a1) (q29 c.a2) 65536 [q29 c.b0, q29 c.b1, q29 c.b2] 0 0 0 +
    Config.l1Tail c.b0 c.b1 c.b2 c.a1 c.a2)

/-- Both poles lie inside the unit circle. -/
def Section.stablePoles (c : Section) : Bool :=
  decide (c.a2 < 2 ^ 29) && decide (-(2 ^ 29) < c.a2) && decide (c.a1 < 2 ^ 29 + c.a2) &&
    decide (-(2 ^ 29 + c.a2) < c.a1)

/-- The product of bounds along a list, none once a bound reaches 8 or a pole leaves the circle. -/
def growList : Rat → List Section → Option Rat
  | g, [] => some g
  | g, c :: t =>
    if ! c.stablePoles then none
    else
      let b := g * c.norm
      if 8 ≤ b then none else growList b t

def ChanCfg.mixBound (c : ChanCfg) : Rat := (c.dfn.inputs.foldl (fun a e => a + absR (q29 e.2)) 0)

/-- One bank's bound holds. -/
def ChanCfg.growOk (c : ChanCfg) (b : Bool) : Bool :=
  match growList c.mixBound (c.bank b).secs with
  | none => false
  | some g =>
    c.dfn.fir.isNone ||
      decide (g * ((c.taps b).foldl (fun (a : Rat) (h : Int) => a + absR ((h : Rat) / 2147483648)) 0) < 8)

/-! ## Parameters (R54, R55, R128, R130, R162, R217, R219, R223) -/

/-- A value lies in its row's range. -/
def ParSpec.ok (r : ParSpec) (v : Rat) : Bool :=
  (if r.openLo then decide (rnd32 r.lo < v) else decide (rnd32 r.lo ≤ v)) && decide (v ≤ rnd32 r.hi) &&
    (r.values.isEmpty || r.values.contains v)

/-- Identifiers known for the law, each at most once, values finite and in range. -/
def paramsOk (t : List ParSpec) (law : Nat) : Params → Bool
  | [] => true
  | e :: rest =>
    (match parSpec t e.1, f32Val e.2 with
      | some r, some v => r.laws.contains law && r.ok v
      | _, _ => false) &&
      ! rest.any (fun f => f.1 = e.1) && paramsOk t law rest

def Params.has (p : Params) (id : Nat) : Bool := p.any fun e => e.1 = id

def lawRecOk (c : ChanCfg) (subtype : Nat) : Bool :=
  subtype = c.dfn.law && paramsOk lawPars c.dfn.law c.law &&
    (c.model.kind = 2 || ! (Params.has c.law 0x0113 || Params.has c.law 0x0114)) &&
    (! (c.dfn.law = 1 || c.dfn.law = 2) || decide (4 * c.lawP 0x0121 < c.lawP 0x0122))

def finite (b : BitVec 32) : Bool := (f32Val b).isSome

/-- A model record's own rules. A law and a model that R130 does not pair are reported at the model record (DESIGN
CHOICE, assumption 74). -/
def modelRecOk (c : ChanCfg) : Bool :=
  let m := c.model
  [m.re, m.le, m.bl, m.mms, m.kms, m.rms, m.xlim, m.fb].all finite &&
    [m.re, m.bl, m.mms, m.kms, m.xlim].all (fun b => decide (0 < f32 b)) &&
    decide (0 ≤ f32 m.le) && decide (0 ≤ f32 m.rms) &&
    (if m.kind = 2 then decide (0 < f32 m.fb) else f32 m.fb = 0) &&
    (if m.kind = 3 then c.dfn.law = 0 || c.dfn.law = 3 else c.dfn.law ≤ 2)

def tableRecOk (t : PTable) : Bool :=
  t.bl.all (fun b => finite b && decide (0 < f32 b)) && t.kms.all (fun b => finite b && decide (0 < f32 b)) &&
    t.le.all (fun b => finite b && decide (0 ≤ f32 b))

def protRecOk (c : ChanCfg) : Bool :=
  paramsOk protPars c.dfn.law c.prot && decide (c.protP 0x0217 + 10 ≤ c.protP 0x0218) &&
    decide (1 / 100 ≤ c.protP 0x0214 * c.protP 0x0213)

def whole (q : Rat) : Bool := q.den = 1

/-- PIL_F meets the rule of a mode (R219). -/
def pilFOk (mode : Rat) (f : Rat) : Bool :=
  let m1 := decide (24000 ≤ f) && decide (f ≤ 40000) && whole (f / 100)
  let m2 := decide (4 ≤ f) && decide (f ≤ 16) && whole f
  if mode = 1 then m1 else if mode = 2 then m2 else m1 || m2

/-- The subsonic pilot's excursion bound (R223), squared. -/
def pilotBoundOk (c : ChanCfg) : Bool :=
  let w := 2 * Config.pi * c.diagP 0x0301
  let p := c.plant c.bl0 c.kms0 c.le0 c.re
  let pv := (peval p.numV ⟨0, w⟩).div (peval p.den ⟨0, w⟩)
  let a := dbGain (c.diagP 0x0302) * c.vScale
  decide (a * a * pv.sq ≤ (5 / 100 * c.xlim * w) ^ 2)

def diagRecOk (c : ChanCfg) : Bool :=
  let mode := c.diagP 0x0300
  paramsOk diagPars c.dfn.law c.diag && whole (c.diagP 0x0310) &&
    (! Params.has c.diag 0x0301 || pilFOk mode (c.diagP 0x0301)) &&
    ! (mode = 2 && c.model.kind = 3) && (mode != 2 || pilotBoundOk c)

/-- The rules that a record's own fields meet at step 9, in the configuration that results. -/
def recOk (c : ChanCfg) : Record → Bool
  | .law _ st _ => lawRecOk c st
  | .model _ _ => modelRecOk c
  | .table _ t => tableRecOk t
  | .prot _ _ _ => protRecOk c
  | .diag _ _ _ => diagRecOk c
  | _ => true

/-! ## A build's configurations -/

def emptyList : FilterList := { secs := [], taps := [] }

def emptyModel : Model := { kind := 1, re := 0, le := 0, bl := 0, mms := 0, kms := 0, rms := 0, xlim := 0, fb := 0 }

/-- The configuration that a definition alone gives. -/
def baseCfg (d : ChanDef) : ChanCfg :=
  { dfn := d, bankA := emptyList, bankB := emptyList, law := [], model := emptyModel, table := none,
    prot := [], diag := [], imgModel := emptyModel, imgTable := none }

/-- A record enters the configuration of its channel. `image`: as part of an image as loaded. -/
def ChanCfg.put (c : ChanCfg) (image : Bool) : Record → ChanCfg
  | .chanDef _ d => { c with dfn := d }
  | .filter _ b f => if b then { c with bankB := f } else { c with bankA := f }
  | .law _ _ p => { c with law := p }
  | .model _ m => { c with model := m, imgModel := if image then m else c.imgModel }
  | .table _ t => { c with table := some t, imgTable := if image then some t else c.imgTable }
  | .prot _ _ p => { c with prot := p }
  | .diag _ _ p => { c with diag := p }
  | _ => c

/-- The configuration that the records give a channel. -/
def cfgOf (l : List Rec) (n : Chan) : Option ChanCfg :=
  match findKey l (4, n.val, false) with
  | some r =>
    match r.body with
    | .chanDef _ d => some ((l.filter fun r => r.body.chan = some n).foldl (fun c r => c.put true r.body) (baseCfg d))
    | _ => none
  | none => none

/-! ## Steps 6 to 13 -/

/-- Records of channel n of one type that a build must hold (Table 2-3) (assumption 30). -/
def wantKeys (l : List Rec) (n : Chan) : List (Nat × Nat × Bool) :=
  match findKey l (4, n.val, false) with
  | some { body := .chanDef _ d, .. } =>
    [(5, n.val, false), (6, n.val, false), (7, n.val, false), (9, n.val, false)] ++
      (if d.fadeEn then [(5, n.val, true)] else []) ++ (if d.law = 1 || d.law = 2 then [(8, n.val, false)] else [])
  | _ => [(4, n.val, false)]

/-- A filter list's own rules at step 6 (R43, R421): BANK B only with FADE_EN, COUNT within SECT_MAX. -/
def filterFits (d : ChanDef) (b : Bool) (f : FilterList) : Bool := (! b || d.fadeEn) && f.secs.length ≤ d.sectMax

def filterOk (l : List Rec) (r : Rec) : Bool :=
  match r.body with
  | .filter n b f =>
    match findKey l (4, n.val, false) with
    | some { body := .chanDef _ d, .. } => filterFits d b f
    | _ => true
  | _ => true

/-- Step 6: counts and order (R43), ranges that depend on other records (R421) (assumption 30). -/
def checkCounts (l : List Rec) (mask : BitVec 64) : Chk Unit := do
  checkDup codeFormat [] l
  checkAll (fun r => match r.body.chan with
    | some n => need (inMask mask n) codeFormat r.off
    | none => .ok ()) l
  if (findKey l (3, 0, false)).isNone then badNone codeFormat
  checkAll (fun n =>
    if inMask mask n && ((wantKeys l n).any fun k => (findKey l k).isNone) then badNone codeFormat else .ok ())
    allChans
  checkAll (fun r => need (filterOk l r) codeFormat r.off) l

def popcount (m : BitVec 64) : Nat := (allChans.filter fun n => inMask m n).length

/-- Engines that a definition names. -/
def ChanDef.engines (d : ChanDef) : List (Fin 8) :=
  (match d.fir with
    | some e => [e]
    | none => []) ++ (match d.firShadow with
    | some e => [e]
    | none => [])

/-- FIR engines named at most once, definitions in image order (R51). -/
def checkEngines : List (Fin 8) → List Rec → Chk Unit
  | _, [] => .ok ()
  | seen, r :: t =>
    match r.body with
    | .chanDef _ d =>
      if ! d.engines.Nodup || d.engines.any seen.contains then bad codeClaim r.off
      else if (d.firFade && ! (d.fadeEn && d.firShadow.isSome)) || (d.firShadow.isSome && ! d.firFade) then
        bad codeClaim r.off
      else checkEngines (d.engines ++ seen) t
    | _ => checkEngines seen t

/-- Amounts that the records use. -/
def usedSections (l : List Rec) : Nat :=
  l.foldl (fun a r => match r.body with
    | .chanDef _ d => a + d.sectMax * (if d.fadeEn then 2 else 1)
    | _ => a) 0

def usedEngines (l : List Rec) : List (Fin 8) :=
  (l.flatMap fun r => match r.body with
    | .chanDef _ d => d.engines
    | _ => []).dedup

def streamsOf (l : List Rec) : List (Nat × Nat) :=
  match findKey l (3, 0, false) with
  | some { body := .streams m, .. } => m
  | _ => []

/-- A filter list's taps under R52. -/
def tapsOk (d : ChanDef) (b : Bool) (f : FilterList) : Bool :=
  if d.fir.isNone then f.taps.isEmpty else ! b || d.firFade || f.taps.isEmpty

/-- Step 7 (R17, R48, R51, R52). -/
def checkClaim (l : List Rec) (off : Nat) (c : Claim) : Chk Unit := do
  need (c.streams ≤ 96 && c.fir ≤ 8 && c.models ≤ 64 && c.ptables ≤ 64 && c.ripple ≤ 64 && c.sections ≤ 1024)
    codeClaim off
  need (c.chMask != 0 && c.streams = (streamsOf l).length && c.fir = (usedEngines l).length &&
    c.models = popcount c.chMask && c.ripple = popcount c.chMask &&
    c.ptables = (l.filter fun r => r.body.key.1 = 8).length && c.sections = usedSections l) codeClaim off
  checkEngines [] l
  checkAll (fun r => match r.body with
    | .filter n b f => match findKey l (4, n.val, false) with
      | some { body := .chanDef _ d, .. } => need (tapsOk d b f) codeFormat r.off
      | _ => .ok ()
    | _ => .ok ()) l

/-- Step 8 (R50, R51). -/
def checkStreams (l : List Rec) : Chk Unit := do
  let m := streamsOf l
  let at_ := match findKey l (3, 0, false) with
    | some r => r.off
    | none => 0
  need (decide ((m.map Prod.fst).Nodup) && decide ((m.map Prod.snd).Nodup)) codeStream at_
  checkAll (fun r => match r.body with
    | .chanDef _ d =>
      need (zeros r.bytes (16 + 8 * d.inputs.length) (8 * (4 - d.inputs.length)) &&
        d.inputs.all fun e => m.any fun q => q.1 = e.1) codeStream r.off
    | _ => .ok ()) l

/-- PHASE in force (R171). `moved`: a twinned channel of a device that follows in time. -/
def phaseOf (d : ChanDef) (moved : Bool) : Nat := (d.phase + if moved then 8 else 0) % 16

/-- The plan gives a channel's half the phase that lies opposite (R171). -/
def TwinPlan.moves (t : Option TwinPlan) (n : Chan) : Bool :=
  match t with
  | some p => p.tbFollower && inMask p.twinMask n
  | none => false

/-- R174 over the definitions in image order, on the phases in force: those so far as die and phase. -/
def checkPhases (t : Option TwinPlan) : List (Nat × Nat) → List Rec → Chk Unit
  | _, [] => .ok ()
  | seen, r :: l =>
    match r.body with
    | .chanDef n d =>
      let ph := phaseOf d (TwinPlan.moves t n)
      if seen.contains (n.die.val, ph) || 4 ≤ (seen.filter fun e => e.2 = ph).length then bad codeParam r.off
      else checkPhases t ((n.die.val, ph) :: seen) l
    | _ => checkPhases t seen l

/-- Step 9. `cfg`: the configuration that results for a channel. -/
def checkParams (l : List Rec) (cfg : Chan → Option ChanCfg) : Chk Unit :=
  checkAll (fun r => match r.body.chan with
    | some n => match cfg n with
      | some c => need (recOk c r.body) codeParam r.off
      | none => .ok ()
    | none => .ok ()) l

/-- Offset of a record with a key, else a default. -/
def offOf (l : List Rec) (k : Nat × Nat × Bool) (d : Nat) : Nat :=
  match findKey l k with
  | some r => r.off
  | none => d

/-- Step 10 for one channel. `d`: the offset used where the image holds no such record, as a patch may
(DESIGN CHOICE, assumption 75). -/
def checkGrowth (l : List Rec) (d : Nat) (n : Chan) (c : ChanCfg) : Chk Unit := do
  need (decide (c.mixBound < 8)) codeGrowth (offOf l (4, n.val, false) d)
  need (c.growOk false) codeGrowth (offOf l (5, n.val, false) d)
  if c.dfn.fadeEn then need (c.growOk true) codeGrowth (offOf l (5, n.val, true) d) else .ok ()

/-- Step 11 (R56). -/
def checkTwin (l : List Rec) (mask : BitVec 64) : Chk Unit :=
  checkAll (fun r => match r.body with
    | .twin t f =>
      let nt := popcount t.twinMask
      let nl := popcount t.leadMask
      need (t.leadMask &&& ~~~ t.twinMask = 0 && t.twinMask &&& ~~~ mask = 0 && (nl = nt / 2 || nl = (nt + 1) / 2) &&
        f ≤ 1) codeTwin r.off
    | _ => .ok ()) l

/-- Step 12 (R70). -/
def checkBench (l : List Rec) (bench : Bool) (off : Nat) (mask : BitVec 64) : Chk Unit := do
  if bench then
    need (popcount mask ≤ 8) codeBench off
    match findKey l (11, 0, false) with
    | some r => bad codeBench r.off
    | none => .ok ()
  else .ok ()

/-- Step 13 for one channel. A patch that lacks the control law record reports offset `d`, that of its record region
(DESIGN CHOICE, assumption 75) (assumption 34). -/
def checkStable (l : List Rec) (d : Nat) (n : Chan) (c : ChanCfg) : Chk Unit :=
  need c.stable codeStability (offOf l (6, n.val, false) d)

/-! ## R62 -/

/-- Steps 2 to 5: the record region in plain text (assumption 30). -/
def checkFront (img : List Byte) (h : Header) (f : Fuses) (rb : BitVec 64) : Chk (List Byte) := do
  need (h.mode = (if f.life = 0b10 then 3 else 0) && f.life != 0b11) codeMode 0
  checkSignature img h f
  need (! h.signed || rb ≤ h.rollback) codeRollback 0
  decryptRegion img h

/-- The twin plan that the records give. -/
def planOf (l : List Rec) : Option TwinPlan :=
  match findKey l (11, 0, false) with
  | some { body := .twin t _, .. } => some t
  | _ => none

/-- The whole of R62 on an image of LEN bytes. Within step 9 the records are checked in image order and the phases of
R174 after them; within steps 10 and 13 the channels are checked in the order of their numbers (DESIGN CHOICE,
assumption 74) (assumption 30). Where the first record is not the claim but a claim stands later, BLD_REFUSE_AT names the
first record (DESIGN CHOICE, assumption 97). -/
def checkBuild (img : List Byte) (len : Nat) (f : Fuses) (rb : BitVec 64) : Chk Build := do
  let h := parseHeader img
  checkHeader h false len
  let region ← checkFront img h f rb
  let l ← splitRecords (region.length / 8) h.base region
  match l with
  | { off := off, body := .claim c, .. } :: _ =>
    checkCounts l c.chMask
    checkClaim l off c
    checkStreams l
    let cfg := fun n => if inMask c.chMask n then cfgOf l n else none
    checkParams l cfg
    checkPhases (planOf l) [] l
    let each (g : Chan → ChanCfg → Chk Unit) : Chk Unit := checkAll (fun n => match cfg n with
      | some x => g n x
      | none => .ok ()) allChans
    each (checkGrowth l off)
    checkTwin l c.chMask
    checkBench l (h.mode = 0) off c.chMask
    each (checkStable l off)
    .ok { claim := c, streams := streamsOf l, chans := Vector.ofFn cfg,
          twin := planOf l,
          policy := match findKey l (12, 0, false) with
            | some { body := .policy a u, .. } => some (a, u)
            | _ => none,
          bench := h.mode = 0, rollback := h.rollback, id := h.id, digest := buildDigest img h }
  | r :: _ => if (findKey l (2, 0, false)).isSome then bad codeFormat r.off else badNone codeFormat
  | [] => badNone codeFormat

/-! ## Patches (R66, R67) -/

/-- The configuration of a channel after a patch. -/
def patched (b : Build) (l : List RecAt) (n : Chan) : Option ChanCfg :=
  b.chans[n].map fun c => (l.filter fun r => r.body.chan = some n).foldl (fun c r => c.put false r.body) c

/-- The channel's state allows a change of law, model or table (Table 2-17). -/
def quietEnough (k : Channel) : Bool :=
  k.st = .off || k.st = .quiet || k.st = .openLoop || k.st = .tripped

/-- The bank is not active, not fading in, and not the target of a latched request (Table 2-17). -/
def bankFree (k : Channel) (b : Bool) : Bool :=
  k.fgk.active != b && ! ((k.fg.phase = .preroll || k.fg.phase = .fade) && k.fg.incoming = b) &&
    k.fgk.latched != some b

/-- The IN_SLOT of an unused input equals that of the build, which is 0 (R51, Table 2-17). -/
def unusedSlotsOk (r : Rec) : Bool :=
  match r.body with
  | .chanDef _ d => (List.range 4).all fun j => j < d.inputs.length || field r.bytes (16 + 8 * j) 1 = 0
  | _ => true

/-- A record of a patch meets its condition in Table 2-17. -/
def State.patchRecOk (s : State) (b : Build) (body : Record) : Bool :=
  match body.chan with
  | none => match body with
    | .policy _ _ => true
    | _ => false
  | some n =>
    match b.chans[n] with
    | none => false
    | some c =>
      let k := s.ch n
      match body with
      | .chanDef _ d =>
        { d with inputs := [] } = { c.dfn with inputs := [] } && d.inputs.map Prod.fst = c.dfn.inputs.map Prod.fst
      | .filter _ bk _ => bankFree k bk
      | .law _ _ _ => quietEnough k
      | .model _ m => quietEnough k && m.kind = c.model.kind
      | .table _ _ => quietEnough k && c.table.isSome
      | .prot _ _ _ => true
      | .diag _ _ _ => true
      | _ => false

/-- A channel whose law, model or table a patch touches. -/
def touchesLoop (l : List RecAt) (n : Chan) : Bool :=
  l.any fun r => match r.body with
    | .law m _ _ => m = n
    | .model m _ => m = n
    | .table m _ => m = n
    | _ => false

/-- A channel that a patch touches at all. -/
def touches (l : List RecAt) (n : Chan) : Bool := l.any fun r => r.body.chan = some n

/-- Unused inputs of a patched definition stay zero (R51). -/
def patchInputsOk (r : Rec) : Bool :=
  match r.body with
  | .chanDef _ d => zeros r.bytes (16 + 8 * d.inputs.length) (8 * (4 - d.inputs.length))
  | _ => true

/-- Step 6 for a record of a patch: its channel is in CH_MASK, and a filter list fits its channel (R43, R421). -/
def patchFits (b : Build) (r : Rec) : Bool :=
  match r.body.chan with
  | none => true
  | some n => inMask b.claim.chMask n && (match b.chans[n], r.body with
    | some c, .filter _ bk f => filterFits c.dfn bk f
    | _, _ => true)

/-- The parameter rules over the whole of a channel's configuration, patched and unpatched values together (R66). -/
def ChanCfg.paramsHold (c : ChanCfg) : Bool :=
  lawRecOk c c.dfn.law && modelRecOk c && (match c.table with
    | some t => tableRecOk t
    | none => true) && protRecOk c && diagRecOk c

/-- R66 on the bytes of the patch buffer. TARGET and SEQUENCE, which R62 does not place, are checked after the
signature; the digest of R68 covers every byte of the patch image, its signature block included; Table 2-17 is
checked after step 6; a parameter rule that an unpatched record breaks under patched values is reported at the
patch's plan, else at the first offset of its record region (DESIGN CHOICE, assumption 75). -/
def State.checkPatch (s : State) (img : List Byte) (cut : Bool) : Chk Patch :=
  match s.bld.build with
  | none => badNone codeAborted
  | some b => do
    if cut then badNone codeLength
    let h := parseHeader img
    checkHeader h true img.length
    need (h.mode = if b.bench then 0 else 3) codeMode 0
    checkSignature img h s.fuse
    need (h.target = first16 b.digest) codeTarget 0
    need (s.bld.patchSeq < h.patchSeq) codeSequence 0
    let region ← decryptRegion img h
    let l ← splitRecords (region.length / 8) h.base region
    checkDup codeFormat [] l
    checkAll (fun r => need (patchFits b r) codeFormat r.off) l
    checkAll (fun r => need (s.patchRecOk b r.body && unusedSlotsOk r) codePatchField r.off) l
    let recs : List RecAt := l.map fun r => { off := r.off, body := r.body }
    let cfg := patched b recs
    checkAll (fun r => match r.body with
      | .filter n bk f => match b.chans[n] with
        | some c => need (tapsOk c.dfn bk f) codeFormat r.off
        | none => .ok ()
      | _ => .ok ()) l
    checkAll (fun r => need (patchInputsOk r) codeStream r.off) l
    checkParams l cfg
    let each (p : Chan → Bool) (g : Chan → ChanCfg → Chk Unit) : Chk Unit := checkAll (fun n =>
      if p n then match cfg n with
        | some x => g n x
        | none => .ok ()
      else .ok ()) allChans
    each (touches recs) fun n x => need x.paramsHold codeParam (offOf l (10, n.val, false) h.base)
    each (touches recs) (checkGrowth l h.base)
    each (touchesLoop recs) (checkStable l h.base)
    .ok { recs := recs, seq := h.patchSeq, digest16 := first16 (Config.sha384 img), target16 := h.target,
          matchDigest := first16 (Config.sha384 region) }

end Sys2Proof.Machine
end

