-- ==== Sys2Proof/Machine/IdentCmd.lean ====
section
/-! DEFINITION. Chapter Motional Feedback and Loudspeaker Models: identification commands and sweeps,
the mains source, the ripple learner (R145 to R153). -/

namespace Sys2Proof.Machine

/-! ## Sweeps (R150 to R153) -/

/-- The conditions under which a host START begins a sweep (R150, R214). -/
def State.identOk (s : State) (n : Chan) : Bool :=
  let k := s.ch n
  (s.law n = 1 || s.law n = 2) && k.st = .quiet && ! k.ident.running && ! k.ident.fitPending && ! s.mutedAt n &&
    (s.dev.state = .armed || s.dev.state = .run)

/-- A write of START: started, sent to the lead half, or refused. -/
def State.identStart (s : State) (m : Master) (n : Chan) : State :=
  if s.follows n then
    (s.jot m.num 0x0E 0 0 n.val [] (some 0)).carry 0x07 0 1 0 (bitOf n)
  else if s.identOk n then s.beginSweep n m.num
  else s.jotRaise m.num 0x0E 1 0 n.val [] Ev.identificationRefused n.val 0 (some 0)

def execIdentStart (m : Master) (n : Chan) (s : State) : Out :=
  .next (s.byMaster m (0x10 + n.val) 0x60 (s.identStart m n))

/-- A write of START_ALL: one entry with the mask of the channels started (assumption 39). -/
def State.startAll (s : State) (m : Master) : State :=
  let mask := maskOf fun n => s.used n && s.identOk n
  let s := s.jot m.num 0x0E 0 0 0xFF ([0, 0, 0, 0, 0, 0, 0, 0] ++ leBytes 8 mask.toNat) (some 0)
  s.overChans (fun _ n => inMask mask n) fun s n =>
    if s.joinedTwin n then s.carry 0x07 0 (if s.follows n then 1 else 0) 0 (bitOf n)
    else s.startSweep n none

def execStartAll (m : Master) (s : State) : Out :=
  .next (s.byMaster m 0x00 0x1C (s.startAll m))

/-- A write of ABORT (R152); in RETRY the check fails with cause IDENT. -/
def State.identAbort (s : State) (m : Master) (n : Chan) : State :=
  let s := s.jotWrite m (0x10 + n.val) 0x60 [0x02] 0
  let k := s.ch n
  let on := k.ident.running || k.ident.fitPending
  let s := s.abortIdent n
  if on && k.st = .retry then s.checkFailed n causeIdent else s.playWaiting n

/-- Model choice: assumption 39. -/
def execIdentAbort (m : Master) (n : Chan) (s : State) : Out :=
  .next (s.byMaster m (0x10 + n.val) 0x60 (s.identAbort m n))

/-- The sweep of ID_AT_START: the first tick in QUIET with no mute (R150). -/
def execIdentAtStart (n : Chan) (s : State) : Out :=
  let k := s.ch n
  if s.identDue n && k.st = .quiet && ! s.mutedAt n && ! k.ident.running && ! k.ident.fitPending && ! s.follows n then
    .next (s.beginSweep n 0x10)
  else .next s

/-- After the sweep's last sample the fitter is released; it runs on the lead half alone (R28, R153, R254). -/
def execSweepEnd (n : Chan) (s : State) : Out :=
  let k := s.ch n
  if k.ident.running && 288000 ≤ k.ident.t then
    if s.follows n then .next (s.modCh n fun k => { k with ident := .reset })
    else
      .next (s.modCh n fun k => { k with
        ident := { k.ident with running := false, fitPending := true },
        cls := { k.cls with ident := { k.cls.ident with run := some (s.now, s.now + 192000) } } })
  else .next s

/-! ## The mains (R145, R146) -/

def sumNat (l : List Nat) : Nat := l.foldl (· + ·) 0

/-- The period that a source gives, MTB cycles: the mean of four mains periods, or twice the mean of
eight ripple intervals (assumption 40). -/
def Mtb.periodOf (t : Mtb) (src : MainsSrc) : BitVec 24 :=
  match src with
  | .none => 0
  | .mainsRef => BitVec.ofNat 24 (sumNat (t.edges.take 4) / 4)
  | .ripple => BitVec.ofNat 24 (2 * sumNat (t.ripEdges.take 8) / 8)

/-- A list of periods agrees within 1 %: none exceeds another by more (assumption 40). -/
def agree (l : List Nat) : Bool := l.all fun a => l.all fun b => Decidable.decide (100 * a ≤ 101 * b)

/-- A mains period in MTB cycles lies within 45 Hz to 65 Hz (R145). -/
def mainsRange (p : Nat) : Bool := Decidable.decide (24576000 ≤ 65 * p) && Decidable.decide (45 * p ≤ 24576000)

/-- A ripple interval in MTB cycles lies within 1/130 s to 1/90 s (R146). -/
def rippleRange (p : Nat) : Bool := Decidable.decide (24576000 ≤ 130 * p) && Decidable.decide (90 * p ≤ 24576000)

/-- MAINS_REF is valid (R145): four periods in range that agree make it so; it stays so until a period leaves the
range or no edge arrives for two periods' time. -/
def Mtb.refGood (t : Mtb) : Bool :=
  let four := t.edges.take 4
  let fresh := Decidable.decide (t.edgeAge * 4 < 2 * sumNat four)
  if t.mainsSrc = .mainsRef then fresh && (four.head?.any mainsRange)
  else fresh && four.length == 4 && four.all mainsRange && agree four

/-- The ripple gives a period (R146): its last eight intervals lie in range and agree, it measures at least 0.1 V
peak to peak, and the running interval has not outlasted the range (assumption 40). -/
def Mtb.rippleGood (t : Mtb) : Bool :=
  let l := t.ripEdges.take 8
  l.length == 8 && l.all rippleRange && agree l && Decidable.decide (1 / 10 ≤ t.ripPp) &&
    Decidable.decide (90 * t.ripAge ≤ 24576000)

/-- The source that R145 and R146 give. -/
def Mtb.sourceNow (t : Mtb) : MainsSrc :=
  if t.refGood then .mainsRef else if t.rippleGood then .ripple else .none

/-- The source changes to the one that R145 and R146 give: REP fades, the tables go, event and entry. A fade of
REP that runs already goes on to its end (R146) (assumption 40). -/
def execMainsSourceChange (src : MainsSrc) (s : State) : Out :=
  if src = s.mtb.mainsSrc || src != s.mtb.sourceNow then .next s
  else
    let s := { s with mtb := { s.mtb with
      mainsSrc := src, mainsChanges := satInc s.mtb.mainsChanges, mainsPeriod := s.mtb.periodOf src,
      repFade := if 0 < s.mtb.repFade then s.mtb.repFade else 64,
      repPeriod := if 0 < s.mtb.repFade then s.mtb.repPeriod else s.mtb.mainsPeriod.toNat, mainsFresh := true } }
    .next (s.jotRaise 0x16 0x0B 0 0 0xFF (s.supplyData 0) Ev.mainsSource 0xFF 0)

/-! ## The ripple learner (R148, R149) -/

/-- Mean error of a bin (assumption 41). -/
def binMean (sums : List Rat) (counts : List Nat) (j : Nat) : Rat :=
  let c := counts.getD j 0
  if c = 0 then 0 else sums.getD j 0 / (c : Rat)

/-- The new table of a period: leak and gain, smoothing, and whether the clamp acts (assumption 41). -/
def learnTable (c : ChanCfg) (old : List Rat) (mean : Nat → Rat) (ticks : Rat) : List Rat × Bool :=
  let d := if ticks = 0 then 0 else (roundEven (c.lawP 0x0132 * 1024 / ticks)).toNat
  let raw := (List.range 1024).map fun j =>
    (1 - c.lawP 0x0131) * old.getD j 0 + c.lawP 0x0130 * c.lawP 0x0010 * mean ((j + d) % 1024)
  let sm := (List.range 1024).map fun j =>
    raw.getD ((j + 1023) % 1024) 0 / 4 + raw.getD j 0 / 2 + raw.getD ((j + 1) % 1024) 0 / 4
  let lim := c.lawP 0x0133
  (sm.map (clampR (-lim) lim), sm.any fun x => lim < absR x)

/-- The update released at the end of a mains period ends (R28, R113, R148, R149) (assumption 41). -/
def State.learnerUpdate (s : State) (n : Chan) : Out :=
  let l := (s.ch n).learn
  match l.ready, s.cfg n with
  | some (sums, counts, tainted), some c =>
    if c.dfn.law = 0 || s.follows n then
      .next (s.modCh n fun k => { k with learn := { k.learn with ready := none } })
    else if tainted || (s.ch n).keep.freeze || c.lawP 0x0130 = 0 then
      .next (s.modCh n fun k => { k with learn := { k.learn with ready := none, lastDiscarded := true } })
    else
      let (t, clamp) := learnTable c l.table (binMean sums counts) ((s.mtb.mainsPeriod.toNat : Rat) / 128)
      let s := s.modCh n fun k => { k with learn := { k.learn with
        ready := none, table := t, clamped := k.learn.clamped || clamp, lastDiscarded := false,
        updates := min (k.learn.updates + 1) 0x3FFF } }
      .next (if clamp then s.recheckPages.raise Ev.learnerClamp n.val 0 else s.recheckPages)
  | _, _ => .next s

def execRippleLearnerUpdate (n : Chan) (s : State) : Out :=
  if s.served (.ripple n) then (s.finish (.ripple n)).learnerUpdate n else .next s

/-- A write of CH_RL_CTL: FREEZE, and CLEAR sets the table to 0 (R149, R163). -/
def State.rlCtlWrite (s : State) (m : Master) (n : Chan) (v : Byte) : State :=
  let s := s.modCh n fun k => { k with
    keep := { k.keep with freeze := v.getLsbD 0 },
    learn := if v.getLsbD 1 then { k.learn with table := [], updates := 0 } else k.learn }
  s.recheckPages.jotWrite m (0x10 + n.val) 0x7C [v] 0

/-- A write of CLEAR that leaves FREEZE as it is. -/
def execRlClear (m : Master) (n : Chan) (s : State) : Out :=
  .next (s.byMaster m (0x10 + n.val) 0x7C (s.rlCtlWrite m n (if (s.ch n).keep.freeze then 3 else 2)))

end Sys2Proof.Machine
end

