-- ==== Sys2Proof/Machine/Fit.lean ====
section
/-! DEFINITION. The end of an identification fit (R153 to R156, R254). -/

namespace Sys2Proof.Machine

/-- An array of the image rescaled to a fitted rest value (R155). -/
def rescale (img : List (BitVec 32)) (fit rest : Rat) : List (BitVec 32) :=
  img.map fun w => if rest = 0 then toF32 fit else toF32 (f32 w * fit / rest)

/-- The tables that a fit gives (R155). -/
def fitTable (img : PTable) (f : FitIn) : PTable :=
  { bl := rescale img.bl (f32 f.bl) (f32 (img.bl.getD 16 0)),
    kms := rescale img.kms (f32 f.kms) (f32 (img.kms.getD 16 0)),
    le := rescale img.le (f32 f.le) (f32 (img.le.getD 16 0)) }

/-- The configuration after a passed fit. -/
def ChanCfg.fitted (c : ChanCfg) (f : FitIn) : ChanCfg :=
  { c with table := c.imgTable.map fun t => fitTable t f, model := { c.model with rms := f.rms } }

/-- A value lies within (1 ± tol) of a reference. -/
def within (x r tol : Rat) : Bool := decide ((1 - tol) * r ≤ x) && decide (x ≤ (1 + tol) * r)

/-- The windows of conditions 2 to 4 of R154. -/
def fitWindows (c : ChanCfg) (f : FitIn) : Bool :=
  match c.imgTable with
  | none => false
  | some t =>
    let tol := c.lawP 0x0124
    let re := f32 c.imgModel.re
    let rms := f32 c.imgModel.rms
    let le0 := f32 (t.le.getD 16 0)
    [f.re, f.le, f.bl, f.kms, f.rms].all finite &&
      within (f32 f.bl) (f32 (t.bl.getD 16 0)) tol && within (f32 f.kms) (f32 (t.kms.getD 16 0)) tol &&
      (if le0 = 0 then decide (f32 f.le ≤ 1 / 1000) else within (f32 f.le) le0 tol) &&
      decide (8 / 10 * re ≤ f32 f.re) && decide (f32 f.re ≤ c.lawP 0x0112 * re) &&
      decide (rms / 4 ≤ f32 f.rms) && decide (f32 f.rms ≤ 4 * rms)

/-- The result code of Table 5-3 for a completed fit (assumption 39). -/
def fitCode (c : ChanCfg) (f : FitIn) : Nat :=
  if ! finite f.resid || decide (c.lawP 0x0123 < f32 f.resid) then 2
  else if ! fitWindows c f then 3
  else if ! (c.fitted f).stable then 4
  else 1

/-- The digest of a fit's entry: the 99 values of the new arrays (R155). -/
def tableDigest (t : Option PTable) : BitVec 128 :=
  match t with
  | none => 0
  | some t => first16 (Config.sha384 ((t.bl ++ t.kms ++ t.le).flatMap fun w => leBytes 4 w.toNat))

/-! ## What the fitter computes (R153) -/

/-- Transform of a sweep's samples, newest first, at a frequency. -/
def sweepBin (l : List Rat) (f : Rat) : Cx :=
  l.zipIdx.foldl (fun acc e => acc.add (Cx.scale e.1 (Cx.cis (2 * Config.pi * f * (e.2 : Rat) / fT)))) ⟨0, 0⟩

/-- Frequency m of the 256 of R153, spaced logarithmically. -/
def fitFreq (lo hi : Rat) (m : Nat) : Rat := lo * Config.expR (Config.lnR (hi / lo) * (m : Rat) / 255)

/-- Z_m at the 256 frequencies, by cross-spectrum: U·I* over I·I*. -/
def measured (c : ChanCfg) (l : List (Rat × Rat)) : List (Rat × Rat × Rat) :=
  (List.range 256).map fun m =>
    let f := fitFreq (c.lawP 0x0121) (c.lawP 0x0122) m
    let z := (sweepBin (l.map (·.1)) f).quot (sweepBin (l.map (·.2)) f)
    (f, z.re, z.im)

/-- Z(jω) of the model at fitted values. -/
def Plant.z (p : Plant) (f : Rat) : Cx :=
  let w := 2 * Config.pi * f
  (Cx.mk p.re (w * p.le)).add (p.zmot w)

/-- The plant at values Re, Le, Bl, Kms, Rms, with K_B = BOX_ALPHA·Kms (R132); what is not fitted keeps the values in
force. -/
def ChanCfg.fitPlant (c : ChanCfg) (v : Rat × Rat × Rat × Rat × Rat) : Plant :=
  { c.plant v.2.2.1 v.2.2.2.1 v.2.1 v.1 with rms := v.2.2.2.2, kb := c.lawP 0x0113 * v.2.2.2.1 }

/-- The sum that the fit minimises: the squared error on the complex values with weights 1/|Z_m|². -/
def fitCost (p : Plant) (l : List (Rat × Rat × Rat)) : Rat :=
  l.foldl (fun a e => a + quot ((Cx.mk e.2.1 e.2.2).sub (p.z e.1)).sq (Cx.mk e.2.1 e.2.2).sq) 0

/-- RESID. -/
def fitResid (p : Plant) (l : List (Rat × Rat × Rat)) : Rat :=
  Config.sqrtR (quot (l.foldl (fun a e => a + ((Cx.mk e.2.1 e.2.2).sub (p.z e.1)).sq) 0)
    (l.foldl (fun a e => a + (Cx.mk e.2.1 e.2.2).sq) 0))

/-- The first number below a bound whose cost is the least of those that have one. -/
@[irreducible] def leastBelow (cost : Nat → Option Rat) : Nat → Option Nat
  | 0 => none
  | n + 1 =>
    match leastBelow cost n, cost n with
    | b, none => b
    | none, some _ => some n
    | some b, some x => if x < (cost b).getD x then some n else some b

/-- The binary32 words Re, Le, Bl, Kms, Rms that a number of 160 bits spells. -/
def fitWords (j : Nat) : List (BitVec 32) := (List.range 5).map fun i => BitVec.ofNat 32 (j / 2 ^ (32 * i))

/-- The values of such words, where each is a finite number with a positive sign (assumption 39). -/
def fitPoint (j : Nat) : Option (Rat × Rat × Rat × Rat × Rat) :=
  match fitWords j with
  | [re, le, bl, kms, rms] =>
    if [re, le, bl, kms, rms].all fun w => finite w && ! w.getLsbD 31 then
      some (f32 re, f32 le, f32 bl, f32 kms, f32 rms)
    else none
  | _ => none

/-- The number of the point that a fitter ends at: one of least cost over all points, the free one where it has that cost
(R153) (assumption 8). -/
def leastPoint (cost : Nat → Option Rat) (pick : Nat) : Nat :=
  let best := (leastBelow cost (2 ^ 160)).getD 0
  if (cost pick).isSome && cost pick = cost best then pick else best

/-- The fit of a sweep's samples: five binary32 values for which no others give a lesser weighted sum of squares (R153)
(assumptions 8 and 39). -/
def ChanCfg.fit (c : ChanCfg) (l : List (Rat × Rat)) : FitIn :=
  let m := measured c l
  let p := c.plant c.bl0 c.kms0 c.le0 c.re
  let j := leastPoint (fun j => (fitPoint j).map fun v => fitCost (c.fitPlant v) m)
    (Config.fitPick m [p.mms, c.lawP 0x0113, p.wb, p.ql] [c.re, c.le0, c.bl0, c.kms0, c.rms])
  let w := fitWords j
  { re := w.getD 0 0, le := w.getD 1 0, bl := w.getD 2 0, kms := w.getD 3 0, rms := w.getD 4 0,
    resid := match fitPoint j with
      | some v => toF32 (fitResid (c.fitPlant v) m)
      | none => 0 }

/-- The tables of a fit replace those of the image in the build store, at their record (R155). -/
def tableToStore (m : Mem) (n : Chan) (t : PTable) : Mem :=
  let h := parseHeader (m.reads 0 128)
  match splitRecords (h.payloadLen / 8) h.base (m.reads h.base h.payloadLen) with
  | .ok l => match findKey l (8, n.val, false) with
    | some r => m.writes (r.off + 16) ((t.bl ++ t.kms ++ t.le).flatMap fun w => leBytes 4 w.toNat)
    | none => m
  | .error _ => m

/-- The build store takes the tables in force of a channel. -/
def State.storeTables (s : State) (n : Chan) : State :=
  match (s.cfg n).bind (·.table) with
  | some t => { s with bld := { s.bld with store := tableToStore s.bld.store n t } }
  | none => s

/-- A fit ends with a code: applied on a pass, reported, and the check of a channel in RETRY decided
(R155, R156). -/
def State.applyFit (s : State) (n : Chan) (code : Nat) (f : FitIn) : State :=
  let s := s.modCh n fun k => { k with keep := { k.keep with fit := f } }
  let s :=
    if code = 1 then
      let s := s.modCfg n fun c => c.fitted f
      (s.modCh n fun k => { k with
        keep := { k.keep with fits := satInc k.keep.fits },
        model := { k.model with reT := f32 f.re } }).storeTables n |>.recheckPages
    else s
  let dig := if code = 1 then tableDigest ((s.cfg n).bind (·.table)) else 0
  let retry := (s.ch n).st = .retry
  let s := s.identResult n code f.resid dig
  if retry && ! s.follows n then (if code = 1 then s.checkPasses n else s.checkFailed n causeIdent) else s

/-- The SLOW message of a fit result (Table 9-5). -/
def fitMsg (n : Chan) (code : Nat) (f : FitIn) : List Byte :=
  [BitVec.ofNat 8 n.val, BitVec.ofNat 8 code] ++ leBytes 4 f.re.toNat ++ leBytes 4 f.le.toNat ++
    leBytes 4 f.bl.toNat ++ leBytes 4 f.kms.toNat ++ leBytes 4 f.rms.toNat

/-- The result that a SLOW message carries; RESID is not in it and keeps its value. -/
def fitOfMsg (m : List Byte) (resid : BitVec 32) : FitIn :=
  { re := f32At m 2, le := f32At m 6, bl := f32At m 10, kms := f32At m 14, rms := f32At m 18, resid := resid }

/-- The fitter completes with the result of R153; a completion that reports another stands for no step of the device
(assumption 15). It is applied at the next tick boundary (R21, R155); on a joined twinned channel it travels in SLOW, and
both halves apply it at one boundary (R254) (assumption 39). -/
def execIdentFitComplete (n : Chan) (fit : FitIn) (s : State) : Out :=
  match s.cfg n with
  | some c =>
    let f := c.fit (s.ch n).ident.samples
    if (s.ch n).ident.fitPending && s.served (.ident n) && fit = f then
      let s := s.finish (.ident n)
      let code := fitCode c f
      let s := s.modCh n fun k => { k with keep := { k.keep with fit := { k.keep.fit with resid := f.resid } } }
      .next { s with swp :=
        if s.joinedTwin n then { s.swp with slowQ := s.swp.slowQ ++ [(0x02, fitMsg n code f)] }
        else { s.swp with fitQ := s.swp.fitQ ++ [(BitVec.ofNat 32 (s.dev.tick + 1), fitMsg n code f)] } }
    else .next s
  | none => .next s

end Sys2Proof.Machine
end

