-- ==== Sys2Proof/Machine/Diag.lean ====
section
/-! DEFINITION. Chapter Load Diagnostics While Playing (R219 to R236). -/

namespace Sys2Proof.Machine

/-- The fields of a reference that a capture journals (Table 13-5). -/
def refData (k : ChKeep) : List Byte :=
  leBytes 4 (toF32 k.zcalRe).toNat ++ leBytes 4 (toF32 k.zcalIm).toNat ++ leBytes 4 (toF32 k.reCal).toNat ++
    leBytes 4 (toF32 k.fsRef).toNat

/-- The pilot of a channel runs (R221, R261). -/
def State.pilotOk (s : State) (n : Chan) : Bool :=
  match s.cfg n with
  | some c => pilotRuns c (s.ch n) (s.mutedAt n) && s.swp.rejoin[n] = .none
  | none => false

/-- A write of CH_DIAG_CTL: PILOT_OFF, and RECAL accepted only while the pilot runs (R227, R236) (assumption 47). -/
def State.diagCtlWrite (s : State) (m : Master) (n : Chan) (v : Byte) : State :=
  let off := v.getLsbD 1
  let refused := v.getLsbD 0 && ! s.pilotOk n
  let changed := off != (s.ch n).keep.pilotOff
  let s := s.modCh n fun k => { k with
    keep := { k.keep with pilotOff := off },
    diag := if v.getLsbD 0 && ! refused then { k.diag with recal := true } else k.diag }
  let s := if ! refused || changed then s.jotWrite m (0x10 + n.val) 0xB0 [v] 0 else s
  if refused then s.jotRaise m.num 0x0D 1 0 n.val [] Ev.diagnosticReference n.val 0 else s

/-- A write of RECAL that leaves PILOT_OFF as it is. -/
def execRecal (m : Master) (n : Chan) (s : State) : Out :=
  .next (s.byMaster m (0x10 + n.val) 0xB0 (s.diagCtlWrite m n (if (s.ch n).keep.pilotOff then 3 else 1)))

/-! ## The pilot impedance estimator (R225 to R228) -/

/-- A single-bin transform of samples, newest first, whose newest has a tick count. -/
def oneBin (l : List Rat) (tick : Nat) (f : Rat) : Cx :=
  l.zipIdx.foldl (fun acc e =>
    let w := 2 * Config.pi * f * ((tick : Rat) - (e.2 : Rat)) / fT
    acc.add (Cx.scale e.1 (Cx.cis (-w)))) ⟨0, 0⟩

/-- The square of the RMS of the transforms at ±1 and ±2 bin spacings. -/
def noiseSq (l : List Rat) (tick : Nat) (f df : Rat) : Rat :=
  (([-2, -1, 1, 2] : List Rat).foldl (fun a k => a + (oneBin l tick (f + k * df)).sq) 0) / 4

/-- What one release of the estimator gives. -/
structure PilotOut where
  pilot : Bool
  impedance : Bool
  z : Cx
  deriving DecidableEq, Repr

/-- What a release gives; Z_p over a current that is 0 is free. Model's choices: assumptions 47 and 96. -/
def pilotRelease (c : ChanCfg) (w : List (Rat × Rat × Bool × Bool)) (tick : Nat) : PilotOut :=
  let mode := c.diagP 0x0300
  let size := if mode = 2 then 192000 else 1920
  let df : Rat := if mode = 2 then 1 else 100
  let f := c.diagP 0x0301
  let us := w.map fun e => e.1
  let is := w.map fun e => e.2.1
  let u := oneBin us tick f
  let i := oneBin is tick f
  let pilot := mode != 0 && w.length = size && w.all (fun e => e.2.2.1 && e.2.2.2) &&
    decide (100 * noiseSq us tick f df ≤ u.sq)
  let imp := pilot && decide (100 * noiseSq is tick f df ≤ i.sq)
  { pilot := pilot, impedance := imp, z := u.quot i }

/-- Capture Z_cal and Re_cal, with T_c of the release that gave the estimate (R227). -/
def Channel.capture (k : Channel) (c : ChanCfg) (z : Cx) : Channel :=
  { k with
    keep := { k.keep with
      cal := true, zcalRe := z.re, zcalIm := z.im,
      reCal := c.re * (1 + c.protP 0x0212 * (k.diag.snapTc - c.protP 0x0211)), fsWait := true },
    diag := { k.diag with recal := false } }

/-- Re_p of an impedance estimate (R228). -/
def repOfZ (c : ChanCfg) (k : Channel) (z : Cx) : Option Rat :=
  let mode := c.diagP 0x0300
  if mode = 2 then
    some (z.re - ((c.plant c.bl0 c.kms0 c.le0 c.re).zmot (2 * Config.pi * c.diagP 0x0301)).re)
  else if k.keep.cal then some (quot (k.keep.reCal * z.re) k.keep.zcalRe)
  else none

/-- A valid Re_p reaches the registers, the estimator and the coil model (R136, R202, R228). -/
def Channel.takeRe (k : Channel) (c : ChanCfg) (r : Option Rat) (now : Nat) : Channel :=
  match r with
  | some re =>
    if decide (c.re / 2 ≤ re) && decide (re ≤ 3 * c.re) then
      { k with
        diag := { k.diag with reVal := true, re := re, tpil := c.protP 0x0211 + (re / c.re - 1) / c.protP 0x0212 },
        model := { k.model with rePilot := some (re, now) }, prot := { k.prot with correction := some re } }
    else { k with diag := { k.diag with reVal := false } }
  | none => { k with diag := { k.diag with reVal := false } }

/-- The run of the pilot impedance estimator ends: it works on the window of its release, whose last sample has the
tick count `tick` (R28, R113, R225). -/
def State.pilotDone (s : State) (n : Chan) (tick : Nat) : Out :=
  match s.cfg n with
  | none => .next s
  | some c =>
    let o := pilotRelease c (s.ch n).diag.snap tick
    let s := s.modCh n fun k => { k with diag := { k.diag with
      pilotEst := o.pilot, impEst := o.impedance, pilVal := o.impedance,
      estSeen := k.diag.estSeen || o.pilot,
      zre := if o.impedance then o.z.re else k.diag.zre, zim := if o.impedance then o.z.im else k.diag.zim } }
    if ! o.impedance then .next (s.modCh n fun k => k.takeRe c none s.now)
    else
      let due := ! (s.ch n).keep.cal || (s.ch n).diag.recal
      let s1 := if due then s.modCh n fun k => k.capture c o.z else s
      let s2 := s1.modCh n fun k => k.takeRe c (repOfZ c k o.z) s.now
      .next (if due then
          s2.jotRaise 0x10 0x0D 0 0 n.val (refData (s2.ch n).keep) Ev.diagnosticReference n.val 0
        else s2)

def execPilotEstimate (n : Chan) (s : State) : Out :=
  match (s.slot (.pilot n)).run with
  | some r =>
    if s.served (.pilot n) then (s.finish (.pilot n)).pilotDone n (s.dev.tick - 1 - (s.now - r.1)) else .next s
  | none => .next s

/-! ## The programme (R229 to R231) -/

/-- One bin of the auto-spectra and the cross-spectrum of a frame. -/
structure SpecBin where
  sii : Rat
  suu : Rat
  siuRe : Rat
  siuIm : Rat
  deriving DecidableEq, Repr

/-- Bin k of the 2,048-point Hann-windowed transform of samples, newest first, scaled so that a sine at the bin
has its RMS value there (assumption 47). -/
def hannBin (l : List Rat) (k : Nat) : Cx :=
  let sum := l.reverse.zipIdx.foldl (fun acc e =>
    let w := 2 * Config.pi * (e.2 : Rat) / 2048
    acc.add (Cx.scale (e.1 * ((1 - Config.cosR w) / 2)) (Cx.cis (-((k : Rat) * w))))) (⟨0, 0⟩ : Cx)
  Cx.scale (4 / (2048 * Config.sqrtR 2)) sum

/-- The spectra of a frame of 2,048 samples of u and i: S_iu = I*·U (R229). -/
def spectra (l : List (Rat × Rat)) : List SpecBin :=
  (List.range 1025).map fun k =>
    let u := hannBin (l.map (·.1)) k
    let i := hannBin (l.map (·.2)) k
    let x := u.mul ⟨i.re, -i.im⟩
    { sii := i.sq, suu := u.sq, siuRe := x.re, siuIm := x.im }

/-- Spacing of the programme bins, Hz. -/
def binHz : Rat := 6000 / 2048

/-- The exponential average of one spectrum (assumption 47). -/
def average (w : Rat) (old new : List Rat) : List Rat :=
  new.zipIdx.map fun e => old.getD e.2 0 + w * (e.1 - old.getD e.2 0)

/-- A bin qualifies: 1 mA RMS of averaged current. -/
def ChDiag.qual (d : ChDiag) (k : Nat) : Bool := decide (1 / 1000000 ≤ d.sii.getD k 0)

/-- |Z|² of a bin. -/
def ChDiag.zSq (d : ChDiag) (k : Nat) : Rat :=
  quot (d.siuRe.getD k 0 * d.siuRe.getD k 0 + d.siuIm.getD k 0 * d.siuIm.getD k 0) (d.sii.getD k 0 * d.sii.getD k 0)

/-- γ² of a bin. -/
def ChDiag.coh2 (d : ChDiag) (k : Nat) : Rat :=
  quot (d.siuRe.getD k 0 * d.siuRe.getD k 0 + d.siuIm.getD k 0 * d.siuIm.getD k 0) (d.sii.getD k 0 * d.suu.getD k 0)

/-- The bin meets the conditions of R230 in a band. -/
def ChDiag.peakAt (d : ChDiag) (re lo hi : Rat) (k : Nat) : Bool :=
  let f := (k : Rat) * binHz
  1 ≤ k && decide (lo ≤ f) && decide (f ≤ hi) &&
    [k - 1, k, k + 1].all (fun j => d.qual j && decide (9 / 10 ≤ d.coh2 j)) &&
    decide (d.zSq (k - 1) ≤ d.zSq k) && decide (d.zSq (k + 1) ≤ d.zSq k) && decide (4 * re * re ≤ d.zSq k)

/-- FS_TRK, none when no bin meets the conditions (assumption 47). -/
def ChDiag.resonance (d : ChDiag) (re : Rat) (ref : Option Rat) : Option Rat :=
  let (lo, hi) : Rat × Rat := match ref with
    | some f => (f / 2, 2 * f)
    | none => (5, 500)
  match ((List.range 1024).reverse.find? fun k => d.peakAt re lo hi k) with
  | none => none
  | some k =>
    let a := Config.sqrtR (d.zSq (k - 1))
    let b := Config.sqrtR (d.zSq k)
    let e := Config.sqrtR (d.zSq (k + 1))
    let den := a - 2 * b + e
    some (((k : Rat) + quot (a - e) (2 * den)) * binHz)

/-- COH and whether it is valid (R231) (assumption 47). -/
def ChDiag.coherence (d : ChDiag) (ref : Option Rat) : Option Rat :=
  match ref with
  | none => none
  | some f =>
    let hi := minR (10 * f) 2500
    let l := (List.range 1025).filter fun k =>
      d.qual k && decide (f ≤ (k : Rat) * binHz) && decide ((k : Rat) * binHz ≤ hi)
    if l.length < 16 then none
    else some ((l.foldl (fun a k => a + d.coh2 k) 0) / (l.length : Rat))

/-- A programme frame that holds no unusable tick enters the averages (R229) (assumption 47). -/
def State.programmeFrame (s : State) (n : Chan) (bins : List SpecBin) : State :=
  match s.cfg n with
  | none => s
  | some c =>
    if c.diagP 0x0303 = 0 then s
    else
      let w := 1 - Config.expR (-(17067 / 100000) / c.diagP 0x0304)
      let ref := fun (k : Channel) => if k.keep.fsRefSet then some k.keep.fsRef else none
      let s := s.modCh n fun k =>
        let d := { k.diag with
          sii := average w k.diag.sii (bins.map SpecBin.sii), suu := average w k.diag.suu (bins.map SpecBin.suu),
          siuRe := average w k.diag.siuRe (bins.map SpecBin.siuRe),
          siuIm := average w k.diag.siuIm (bins.map SpecBin.siuIm), frames := k.diag.frames + 1 }
        let fs := d.resonance c.re (ref k)
        { k with diag := { d with fsVal := fs.isSome, fs := fs.getD d.fs } }
      let k := s.ch n
      let take := k.diag.fsVal && k.keep.cal && (k.keep.fsWait || ! k.keep.fsRefSet)
      let s := if take then
          s.modCh n fun k => { k with
            keep := { k.keep with fsRefSet := true, fsRef := k.diag.fs, fsWait := false } }
        else s
      let s := s.modCh n fun k =>
        let co := k.diag.coherence (ref k)
        { k with diag := { k.diag with cohVal := co.isSome, coh := co.getD k.diag.coh } }
      if take then s.jotRaise 0x10 0x0D 0 0 n.val (refData (s.ch n).keep) Ev.diagnosticReference n.val 0 else s

/-- The frame that the last 65,536 ticks complete is transformed, and discarded where one of its ticks does not
count (R229). A frame of other samples stands for no step of the device (assumption 15). -/
def execProgrammeFrame (n : Chan) (frame : List (Rat × Rat)) (s : State) : Out :=
  match (s.ch n).diag.frameDue with
  | none => .next s
  | some (l, good) =>
    if frame != l then .next s else
    let s := s.modCh n fun k => { k with diag := { k.diag with frameDue := none } }
    .next (if good then s.programmeFrame n (spectra l) else s)

/-! ## Classification and reports (R232 to R234) -/

/-- Z_ref of R232; before a capture every value is the model record's, Kms(0) of K_B too. -/
def zRef (c : ChanCfg) (k : ChKeep) : Cx :=
  if k.cal then ⟨k.zcalRe, k.zcalIm⟩
  else
    let w := 2 * Config.pi * c.diagP 0x0301
    let p := { c.plant (f32 c.model.bl) (f32 c.model.kms) (f32 c.model.le) c.re with
      kb := c.lawP 0x0113 * f32 c.model.kms }
    let m := p.zmot w
    ⟨c.re + m.re, w * f32 c.model.le + m.im⟩

/-- The raw outcome of Table 8-1, 0 when there is none. -/
def rawOutcome (c : ChanCfg) (k : Channel) : BitVec 4 :=
  let d := k.diag
  let z2 := (Cx.mk d.zre d.zim).sq
  let r2 := (zRef c k.keep).sq
  let op := c.diagP 0x0311
  let sh := c.diagP 0x0312
  if ! d.estSeen then 0
  else if (d.pilotEst && ! d.impEst) || (d.impEst && decide (op * op * r2 < z2)) then 2
  else if d.impEst && decide (z2 < sh * sh * r2) then 3
  else if c.diagP 0x0300 = 1 && k.keep.cal && d.impEst &&
      decide (c.diagP 0x0315 < absR (quot d.zim k.keep.zcalIm - 1)) then 5
  else if (d.fsVal && k.keep.fsRefSet && decide (c.diagP 0x0313 < absR (quot d.fs k.keep.fsRef - 1))) ||
      (d.reVal && decide (d.re <
        c.re * (1 + c.protP 0x0212 * (c.protP 0x0210 - c.protP 0x0211)) * (1 - c.diagP 0x0314))) then 4
  else if d.cohVal && decide (d.coh < c.diagP 0x0316) then 6
  else if d.impEst then 1
  else 0

/-- STATUS bits 12:8: PILOT_ON, PIL_VALID, RE_VALID, FS_VALID, COH_VALID. -/
def ChDiag.flags (d : ChDiag) : Nat :=
  d.pilotOn.toNat + 2 * d.pilVal.toNat + 4 * d.reVal.toNat + 8 * d.fsVal.toNat + 16 * d.cohVal.toNat

/-- The report record of Table 8-2. -/
def reportRecord (n : Chan) (k : Channel) (frame : BitVec 32) : List Byte :=
  [BitVec.ofNat 8 n.val, BitVec.ofNat 8 (k.diag.cls.toNat + 16 * k.diag.raw.toNat)] ++
    leBytes 2 (k.diag.regFlags.toNat + 32 * k.keep.cal.toNat + 64 * k.keep.fsRefSet.toNat) ++
    leBytes 4 k.keep.seq.toNat ++ leBytes 4 frame.toNat ++
    k.diag.regs.flatMap (fun w => leBytes 4 w.toNat) ++ [0, 0, 0, 0]

/-- Queue a diagnostic report on a port with a session: 128 wait, the oldest goes (R289). -/
def LinkPort.queueReport (l : LinkPort) (r : List Byte) : LinkPort :=
  if l.session.isNone then l
  else if l.rptQ.length < 128 then { l with rptQ := l.rptQ ++ [r] }
  else { l with rptQ := l.rptQ.tail ++ [r], rptDrop := satInc l.rptDrop }

/-- The run of equal raw outcomes after a report (R233). -/
def ChDiag.nextRun (d : ChDiag) (raw : BitVec 4) : ChDiag :=
  if raw = 0 then { d with raw := 0, runCode := 0, runLen := 0, noRaw := d.noRaw + 1, estSeen := false }
  else { d with raw := raw, runCode := raw, runLen := if raw = d.runCode then d.runLen + 1 else 1, noRaw := 0,
                estSeen := false }

/-- A report, one for every ten releases of the estimator (R232, R234) (assumption 47). -/
def execDiagReport (n : Chan) (s : State) : Out :=
  match s.cfg n with
  | none => .next s
  | some c =>
    if ! (s.ch n).diag.rptDue then .next s else
    let s := s.modCh n fun k => { k with diag := { k.diag with rptDue := false } }
    let raw := rawOutcome c (s.ch n)
    let s := s.modCh n fun k => { k with diag := k.diag.nextRun raw }
    let d := (s.ch n).diag
    let s := if raw != 0 && decide (c.diagP 0x0310 ≤ (d.runLen : Rat)) then s.setClass n raw
      else if c.diagP 0x0300 = 0 || 50 ≤ d.noRaw then s.setClass n 0
      else s
    let s := s.modCh n fun k => { k with
      keep := { k.keep with seq := k.keep.seq + 1 },
      diag := { k.diag with
        regs := [toF32 k.diag.re, toF32 k.diag.tpil, toF32 k.diag.zre, toF32 k.diag.zim, toF32 k.diag.fs,
                 toF32 k.diag.coh],
        regFlags := BitVec.ofNat 5 k.diag.flags } }
    let r := reportRecord n (s.ch n) s.activeFrame
    .next { s with portA := s.portA.queueReport r, portB := s.portB.queueReport r }

end Sys2Proof.Machine
end

