-- ==== Sys2Proof/Machine/Loader.lean ====
section
/-! DEFINITION. Chapter The Build Image: loading a build, the patch buffer, patches and held patches
(R59 to R71, R252, R301, R422). -/

namespace Sys2Proof.Machine

/-! ## BLD_CTL (R59, R61, R422) -/

/-- A write of BEGIN. -/
def State.bldBegin (s : State) (m : Master) : State :=
  let len := s.bld.len.toNat
  if s.keeper.failed then s.secRefuse m.num 0x09 true
  else if s.dev.state != .unbuilt && s.dev.state != .built then s.refuseBld false m.num codeState noOffset
  else if s.ldr.phase != .idle || s.ldr.patchCheck then s.refuseBld false m.num codeBusy noOffset
  else if len = 0 || 4194304 < len || len % 8 != 0 then s.refuseBld false m.num codeLength noOffset
  else
    let s := (s.jot m.num 0x04 0 0 0xFF [] (some 0)).trcEnd
    let s :=
      if s.dev.state = .built then
        let t := (s.cutPatch 6 codeAborted).dropBuild
        ({ t with dev := { t.dev with state := .unbuilt } }).jotDev m.num .built .unbuilt 0 (movedChans s t)
      else s
    { s with ldr := { s.ldr with phase := .receiving, covered := [], loadBy := m }, bld := { s.bld with received := 0 } }

def execBldBegin (m : Master) (s : State) : Out :=
  .next (s.byMaster m 0x08 0x04 (s.bldBegin m))

/-- A write of ABORT. -/
def State.bldAbort (s : State) (m : Master) : State :=
  if s.ldr.phase = .idle then s.jotWrite m 0x08 0x04 [0x02] 0 else s.endLoad m.num codeAborted noOffset

def execBldAbort (m : Master) (s : State) : Out :=
  .next (s.byMaster m 0x08 0x04 (s.bldAbort m))

/-- A patch refused at once; an overflowed one empties the buffer (R66). -/
def State.bldPatchGo (s : State) (m : Master) : State :=
  let ok := s.bld.build.isSome &&
    (s.dev.state = .built || s.dev.state = .armed || s.dev.state = .run || s.dev.state = .halt)
  if s.keeper.failed then s.secRefuse m.num 0x09 true
  else if ! ok then s.refuseBld true m.num codeState noOffset
  else if s.ldr.patchBusy then s.refuseBld true m.num codeBusy noOffset
  else if s.ldr.patchOver then ({ s with ldr := s.ldr.emptyPatch }).refuseBld true m.num codeLength noOffset
  else
    { s.jot m.num 0x05 0 0 0xFF [] (some 0) with ldr := { s.ldr with patchCheck := true, patchBy := m, owner := none } }

def execBldPatchGo (m : Master) (s : State) : Out :=
  .next (s.byMaster m 0x08 0x04 (s.bldPatchGo m))

/-- A write of PATCH_CLEAR. A check that runs goes on, on the buffer as it then stands (DESIGN CHOICE, assumption 85). -/
def State.bldPatchClear (s : State) (m : Master) : State :=
  ({ s with ldr := { s.ldr with owner := none, patchWords := [], patchOver := false } }).jotWrite m 0x08 0x04 [0x08] 0

def execBldPatchClear (m : Master) (s : State) : Out :=
  .next (s.byMaster m 0x08 0x04 (s.bldPatchClear m))

/-- A write of BLD_CTL, its bits in order. -/
def State.bldCtlWrite (s : State) (m : Master) (v : Byte) : State :=
  let s := if v.getLsbD 0 then s.bldBegin m else s
  let s := if v.getLsbD 1 then s.bldAbort m else s
  let s := if v.getLsbD 2 then s.bldPatchGo m else s
  if v.getLsbD 3 then s.bldPatchClear m else s

/-! ## The patch buffer (R65) -/

/-- A write of BLD_PATCH_DATA. One that comes while a check of the buffer runs, which the rule does not bar, is
appended, makes no master the owner, and is part of what the check covers (DESIGN CHOICE, assumption 75). -/
def State.patchData (s : State) (m : Master) (d : BitVec 32) : State :=
  let mayWrite := m = .m1 || m = .m2 || m = .m4
  if ! mayWrite || (s.ldr.owner.isSome && s.ldr.owner != some m) then s.deny m 3 0x30000818 true
  else if 16384 ≤ s.ldr.patchWords.length then
    ({ s with ldr := { s.ldr with patchOver := true } }).raise Ev.patchOverflow 0xFF 0
  else
    let own := if s.ldr.patchWords.isEmpty then some m else s.ldr.owner
    { s with ldr := { s.ldr with owner := own, patchWords := d :: s.ldr.patchWords } }

def execBldPatchDataWrite (m : Master) (d : BitVec 32) (s : State) : Out := .next (s.patchData m d)

/-! ## Segments (R60) -/

/-- Granules of 64 bytes below LEN. -/
def granules (len : Nat) : Nat := (len + 63) / 64

/-- A segment of a port handed to the loader: offset and bytes. BLD_RECEIVED counts covered granules, a partial last
one as 64 bytes until every granule is covered (DESIGN CHOICE, assumption 76). LEN and PORT act as they stand: a write of
BLD_LOAD while the load receives acts on its next segments (DESIGN CHOICE, assumption 85). -/
def State.segment (s : State) (p : Port) (off : Nat) (data : List Byte) : State :=
  let len := s.bld.len.toNat
  let fin := off + data.length
  if off % 64 != 0 || len < fin || (data.length % 64 != 0 && fin != len) then s.raise Ev.segmentError p.num 0
  else
    let new := (List.range (granules data.length)).map (· + off / 64)
    let cov := s.ldr.covered ++ new.filter fun g => ! s.ldr.covered.contains g
    let bytes := min len (64 * cov.length)
    let last := granules len ≤ cov.length
    { s with
      ldr := { s.ldr with covered := cov, phase := if last then .checking else .receiving, stage := 0 },
      bld := { s.bld with store := s.bld.store.writes off data, received := BitVec.ofNat 32 bytes } }

/-- 100 ms without an accepted segment (R61) (assumption 16). -/
def execLoadTimeout (s : State) : Out :=
  if s.ldr.phase = .receiving then .next (s.endLoad 6 codeTimeout noOffset) else .next s

/-! ## The end of a check (R62 to R64) -/

/-- BUILD_DIGEST as far as a refused check knows it, and BUILD_ID of its header. -/
def imageIds (img : List Byte) (len : Nat) (f : Fuses) : BitVec 128 × List Byte :=
  let h := parseHeader img
  match checkHeader h false len with
  | .error _ => (0, [])
  | .ok _ =>
    let known := h.mode = (if f.life = 0b10 then 3 else 0) && f.life != 0b11 &&
      (match checkSignature img h f with
        | .error e => e.code != codeFormat
        | .ok _ => true)
    (if known then first16 (buildDigest img h) else 0, beBytes 16 h.id.toNat)

/-- Protection and supervision values of a configuration that registers show. `moved`: R171 shifts its phase. -/
def Channel.loadCfg (k : Channel) (c : ChanCfg) (bench moved : Bool) : Channel :=
  { k with
    keep := { k.keep with feTicks := c.feTicks, feLim := parBits lawPars c.dfn.law c.law 0x0013 },
    ilim := c.ilimCode bench, phaseNow := BitVec.ofNat 4 (phaseOf c.dfn moved) }

/-- A channel under a build just accepted. -/
def Channel.built (k : Channel) (c : ChanCfg) (bench moved : Bool) : Channel :=
  (((k.unbuilt).startModels c).loadCfg c bench moved).settle true

/-- The record region in plain text of an image that passes steps 1 to 5 of R62. -/
def State.plain (s : State) (img : List Byte) : Option (List Byte) :=
  let h := parseHeader img
  match checkHeader h false img.length, checkFront img h s.fuse s.rbCounter with
  | .ok _, .ok r => some r
  | _, _ => none

/-- How far a check can have come: verifying, checking once steps 1 to 5 passed, expanding once all passed
(Tables 2-15, 2-19). -/
def State.stageLimit (s : State) : Nat :=
  let img := s.bld.store.reads 0 s.bld.len.toNat
  if (s.plain img).isNone then 0 else if (checkBuild img img.length s.fuse s.rbCounter).isOk then 2 else 1

/-- A check moves on through its phases in a tick or not: the manual gives typical times alone, so the step of a
tick is free (Table 2-15) (assumption 76). -/
def State.loadTick (s : State) : State :=
  if s.ldr.phase = .checking && s.ldr.stage < s.stageLimit then
    let (d, s) := s.draw
    if Config.freeBits 1 d = 1 then { s with ldr := { s.ldr with stage := s.ldr.stage + 1 } } else s
  else s

/-- The record region of an image that passes steps 1 to 5 is decrypted in place in the build store (R300). -/
def State.storePlain (s : State) (img : List Byte) : State :=
  match s.plain img with
  | some r => { s with bld := { s.bld with store := s.bld.store.writes (parseHeader img).base r } }
  | none => s

/-- The acceptance of a build (R63, R99, R339, R362). -/
def State.accept (s : State) (b : Build) : State :=
  let old := s.dev.state
  let masks := b.policy.getD (Events.reset.amask, 0)
  let s := { s with
    bld := { s.bld with build := some b, patchSeq := 0, lastCode := 0, lastKind := false, acceptedAt := s.now },
    ldr := { s.ldr with phase := .idle },
    chans := vmapIdx (fun n (k : Channel) => match b.chans[n] with
      | some c => k.built c b.bench (TwinPlan.moves b.twin n)
      | none => k.unbuilt) s.chans,
    stm := { s.stm with since := 0 },
    evt := { s.evt with umask := masks.2 },
    swp := { s.swp with drivenSince := none },
    keeper := if ! b.bench && Decidable.decide (s.rbCounter < b.rollback) then
        { s.keeper with fuseBusy := true, rbTarget := b.rollback }
      else s.keeper,
    dev := { s.dev with state := .built } }
  let s := (({ s with mtb := { s.mtb with xtalRuns := b.claim.xtal, xtalOk := false, xtalHold := 0 } }).loadAmask
    masks.1).reReference
  let s := (s.setJoin.jotDev 0 old .built 0).recheckPages
  s.jotRaise 0 0x04 0 0 0xFF (beBytes 16 b.id.toNat) Ev.buildAccepted 0xFF 0 (some (first16 b.digest))

/-- A load or a patch that needs a keeper which has failed is refused with code KEEPER; SEC_LAST names the master that began
it (R293, R311) (assumption 76). -/
def State.keeperGone (s : State) : State :=
  if s.ldr.phase != .idle then
    (({ s with ldr := { s.ldr with phase := .idle } }).secRefuse 0 secKeeper true).secLast s.ldr.loadBy.num secKeeper
  else
    (({ s with ldr := s.ldr.emptyPatch }).secRefuse 0 secKeeper true).secLast s.ldr.patchBy.num secKeeper

/-- Larkspur has checked the image. -/
def execBuildCheckComplete (s : State) : Out :=
  if s.ldr.phase = .checking && s.dev.state = .unbuilt then
    if s.keeper.failed then .next s.keeperGone else
    let len := s.bld.len.toNat
    let img := s.bld.store.reads 0 len
    match checkBuild img len s.fuse s.rbCounter with
    | .ok b => .next ((s.storePlain img).accept b)
    | .error e =>
      let ids := imageIds img len s.fuse
      .next ((s.storePlain img).endLoad 0 e.code e.off ids.1 ids.2)
  else .next s

/-! ## The rollback counter (R301) -/

/-- The counter has passed the operator certificate of a session. -/
def Session.passed (x : Session) (rb : BitVec 64) : Bool := x.rbMax.any fun m => Decidable.decide (m < rb)

/-- The sessions of a port whose operator certificate the counter has passed end, the one in force and one that
waits for its first frame (R301, R306). -/
def State.revoke (s : State) (p : Port) : State :=
  let s := match (s.port p).pendSess with
    | some x => if x.passed s.rbCounter then s.endPending p 4 else s
    | none => s
  match (s.port p).session with
  | some x => if x.passed s.rbCounter then (s.endSession p 4).promote p else s
  | none => s

/-- The keeper has programmed, or found no slot for, a higher ROLLBACK, which it does whatever becomes of the build. It
programs only while VAUX lies within its range; a write that VAUX interrupts leaves its slot used and not valid (R294,
R301) (assumption 57). -/
def execRollbackAdvance (readBackOk : Bool) (s : State) : Out :=
  if s.keeper.fuseBusy then
    let ok := readBackOk && ! s.keeper.vauxCut
    let none_ := ! s.vauxRange && ! s.keeper.vauxCut
    let s := { s with keeper := { s.keeper with fuseBusy := false, vauxCut := false } }
    if s.fuse.rb.all (·.used) then
      .next (s.jotRaise 0 0x0A 0 0 0xFF (secData 0 0 s.rbCounter) Ev.rollbackFull 0xFF 0 (some 0))
    else if none_ then .next s
    else
      let s := { s with fuse := { s.fuse with rb := progRb s.keeper.rbTarget ok s.fuse.rb } }
      if ok then
        let s := s.jotRaise 0 0x0A 0 0 0xFF (secData 0 0 s.rbCounter) Ev.rollbackAdvanced 0xFF 0 (some 0)
        .next ((s.revoke .a).revoke .b)
      else .next s
  else .next s

/-! ## Patches (R66 to R69, R252) -/

/-- A patch that awaits its boundary, or is held, is refused (R68, R252). -/
def State.refusePatch (s : State) (p : Patch) (off : BitVec 32) : State :=
  ({ s with ldr := s.ldr.emptyPatch }).refuseBld true 0 codePatchField off p.digest16 (patchData12 p.seq p.target16)

/-- The patch names a twinned channel in a record other than an event policy (R252). -/
def State.patchTwinned (s : State) (p : Patch) : Bool :=
  p.recs.any fun r => match r.body.chan with
    | some n => s.twinned n
    | none => false

/-- A patch that passed its check is held on a joined device, whose frames carry its PATCH_MATCH while it is held, else
awaits the next boundary (R252) (assumption 32). -/
def State.patchPassed (s : State) (p : Patch) : State :=
  if s.swp.joined && s.patchTwinned p then
    let at_ := s.dev.tick + 16
    let s := { s with ldr := { s.ldr with patchCheck := false, heldPatch := some (p, at_, s.now) } }
    s.jot 0 0x05 3 0 0xFF (patchData12 p.seq p.target16) (some p.digest16)
  else { s with ldr := { s.ldr with patchCheck := false, accepted := some p, acceptedAt := s.now } }

def execPatchCheckComplete (s : State) : Out :=
  if s.ldr.patchCheck then
    if s.keeper.failed then .next s.keeperGone else
    let img := s.ldr.patchBytes
    match s.checkPatch img s.ldr.patchOver with
    | .ok p => .next (s.patchPassed p)
    | .error e =>
      let h := parseHeader img
      .next (({ s with ldr := s.ldr.emptyPatch }).refuseBld true 0 e.code e.off
        (first16 (Config.sha384 img)) (patchData12 h.patchSeq h.target))
  else .next s

/-- The first record of a patch that breaks its condition now (assumption 32). -/
def State.patchBreak (s : State) (b : Build) (p : Patch) : Option RecAt :=
  p.recs.find? fun r => ! s.patchRecOk b r.body

/-- A diagnostic plan patched: estimates cleared, windows restarted; the reference too where PIL_MODE or
PIL_F changed (R227, R235). -/
def Channel.newPlan (k : Channel) (old new : ChanCfg) : Channel :=
  let ref := old.diagBits 0x0300 != new.diagBits 0x0300 || old.diagBits 0x0301 != new.diagBits 0x0301
  { k with
    keep := if ref then { k.keep with cal := false, fsRefSet := false, fsWait := false, zcalRe := 0, zcalIm := 0, reCal := 0, fsRef := 0 }
      else k.keep,
    diag := { k.diag with
      pilVal := false, reVal := false, fsVal := false, cohVal := false, pilotEst := false, impEst := false,
      estSeen := false, window := [], snap := [], slow := [], slowAge := 0, frameDue := none, progRun := 0, sii := [], suu := [], siuRe := [], siuIm := [], frames := 0,
      recal := k.diag.recal && ! ref } }

/-- What one patched record does to its channel beyond the configuration (R69, R152, R194, R217). -/
def State.applyRec (s : State) (old : ChanCfg) (n : Chan) (new : ChanCfg) (bench : Bool) (r : Record) : State :=
  match r with
  | .chanDef _ _ => s.modCh n fun k => { k with fgk := { k.fgk with
      gainFrom := old.dfn.inputs.zipIdx.map fun e => k.fgk.gain e.2 e.1.2, gainPos := 0 } }
  | .law _ _ _ => (s.abortIdent n).modCh n fun k => { k with keep := { k.keep with
      feTicks := new.feTicks, feLim := parBits lawPars new.dfn.law new.law 0x0013 } }
  | .model _ _ => s.abortIdent n
  | .table _ _ => s.abortIdent n
  | .prot _ _ _ => s.modCh n fun k => { k with
      ilim := new.ilimCode bench,
      prot := if k.st.playing then { k.prot with laPending := k.prot.la != new.lookahead }
        else { k.prot with la := new.lookahead, laPending := false } }
  | .diag _ _ _ =>
    let s := s.modCh n fun k => k.newPlan old new
    if new.diagP 0x0300 = 0 then s.setClass n 0 else s
  | _ => s

/-- An accepted patch applies as a whole at one boundary, or is refused as a whole (R68). -/
def State.applyPatch (s : State) (p : Patch) : State :=
  match s.bld.build with
  | none => s
  | some b =>
    match s.patchBreak b p with
    | some r => s.refusePatch p (BitVec.ofNat 32 r.off)
    | none =>
      let s := s.overChans (fun _ n => touches p.recs n) fun s n =>
        match b.chans[n], patched b p.recs n with
        | some old, some new =>
          let s := s.modCfg n fun _ => new
          (p.recs.filter fun r => r.body.chan = some n).foldl (fun s r => s.applyRec old n new b.bench r.body) s
        | _, _ => s
      let s := p.recs.foldl (fun s r => match r.body with
        | .policy a u => ({ s with evt := { s.evt with umask := u } }).loadAmask a
        | _ => s) s
      let s := { s with
        ldr := s.ldr.emptyPatch, swp := { s.swp with heldMsg := none },
        bld := { s.bld with patchSeq := p.seq, lastCode := 0, lastKind := true } }
      s.recheckPages.jotRaise 0 0x05 0 0 0xFF (patchData12 p.seq p.target16) Ev.patchAccepted 0xFF 0 (some p.digest16)

/-- A tick boundary at which an accepted or matched patch is due (assumption 32). -/
def execPatchApply (s : State) : Out :=
  match s.ldr.accepted with
  | some p => .next (s.applyPatch p)
  | none =>
    match s.ldr.heldPatch, s.ldr.heldApply with
    | some (p, _, _), some t => if t ≤ s.dev.tick then .next (s.applyPatch p) else .next s
    | _, _ => .next s

/-- The later of an own tick and a 32-bit tick of the twin. -/
def laterTick (own : Nat) (theirs : BitVec 32) : Nat :=
  let d := (theirs - BitVec.ofNat 32 own).toInt
  if 0 < d then own + d.toNat else own

/-- Both devices hold a patch with the same PATCH_MATCH (R252) (assumption 32). -/
def execHeldPatchMatch (s : State) : Out :=
  match s.ldr.heldPatch, s.swp.heldMsg with
  | some (p, t, _), some (d, u) =>
    if p.matchDigest = d && s.ldr.heldApply.isNone then
      .next { s with ldr := { s.ldr with heldApply := some (laterTick t u) } }
    else .next s
  | _, _ => .next s

/-- 10 s without a match (R252) (assumption 32). -/
def execHeldPatchTimeout (s : State) : Out :=
  match s.ldr.heldPatch, s.ldr.heldApply with
  | some (p, _, t), none => if t + 1920000 ≤ s.now then .next (s.refusePatch p noOffset) else .next s
  | _, _ => .next s

end Sys2Proof.Machine
end

