-- ==== Sys2Proof/Machine/HostCmd.lean ====
section
/-! DEFINITION. The commands of CH_CMD from a host and of the device transitions to ARMED and RUN and back, in the order of
R127: a due patch, the local decisions of the tick, the command (R123 to R127, R322, R323). -/

namespace Sys2Proof.Machine

/-! ## Commands of CH_CMD -/

/-- A runtime patch that passed its check in an earlier tick, or whose agreed tick has come, applies first (R68, R127). -/
def State.duePatch (s : State) : State :=
  match s.ldr.accepted, s.ldr.heldPatch, s.ldr.heldApply with
  | some p, _, _ => if s.ldr.acceptedAt < s.now then s.applyPatch p else s
  | none, some (p, _, _), some t => if t ≤ s.dev.tick then s.applyPatch p else s
  | _, _, _ => s

/-- The class P work of the running tick may still decide on the channel, a drop of CLOSED_LOOP, the fourth pace fault or
the fifth open block; or earlier commands wait for it (R24, R119, R122, R212). -/
def State.undecided (s : State) (n : Chan) : Bool :=
  let k := s.ch n
  k.st = .closedLoop || (k.st = .openLoop && Decidable.decide (3 ≤ k.loop.paceFaultRun)) ||
    (k.st.playing && ! k.prot.openActed && Decidable.decide (4 ≤ k.prot.openRun) && Decidable.decide (1919 ≤ k.prot.blkCount)) ||
    ! k.loop.heldCmds.isEmpty

/-- Who issues a command that waited. -/
def HeldCmd.origin (h : HeldCmd) : Origin :=
  match h.host with
  | some (m, bs) => .host m bs
  | none => .device

/-- A channel command whose tick may still decide on the channel waits for its end, since that decision comes first; another
takes effect now (R127) (assumption 81). -/
def State.order (s : State) (n : Chan) (h : HeldCmd) : State :=
  if s.undecided n && s.used n && ! s.follows n then
    s.modCh n fun c => { c with loop := { c.loop with heldCmds := c.loop.heldCmds ++ [h] } }
  else s.command h.origin h.cmd n

/-- A host command, judged against the state that a due patch and the local decisions of the tick leave (R127)
(assumptions 48 and 81). -/
def State.judgeHost (s : State) (m : Master) (n : Chan) (bs : List Byte) (k : ChCmd) : State :=
  (s.duePatch.settle n).order n { host := some (m, bs), cmd := k }

/-- The commands of a channel that waited for the end of their tick meet, in their order, what its decisions leave
(R127). -/
def State.runHeld (s : State) (n : Chan) : State :=
  let s1 := s.modCh n fun c => { c with loop := { c.loop with heldCmds := [] } }
  (s.ch n).loop.heldCmds.foldl (fun s h => s.command h.origin h.cmd n) (s1.settle n)

/-- A host command of one bit of CH_CMD. -/
def State.hostCmd (s : State) (m : Master) (n : Chan) (k : ChCmd) : State := s.judgeHost m n [1#8 <<< k.bit] k

def execEnable (m : Master) (n : Chan) (s : State) : Out :=
  .next (s.byMaster m (0x10 + n.val) 0x04 (s.hostCmd m n .enable))

def execPlay (m : Master) (n : Chan) (s : State) : Out :=
  .next (s.byMaster m (0x10 + n.val) 0x04 (s.hostCmd m n .play))

def execQuiet (m : Master) (n : Chan) (s : State) : Out :=
  .next (s.byMaster m (0x10 + n.val) 0x04 (s.hostCmd m n .quiet))

def execOpen (m : Master) (n : Chan) (s : State) : Out :=
  .next (s.byMaster m (0x10 + n.val) 0x04 (s.hostCmd m n .open_))

def execClose (m : Master) (n : Chan) (s : State) : Out :=
  .next (s.byMaster m (0x10 + n.val) 0x04 (s.hostCmd m n .close))

def execStop (m : Master) (n : Chan) (s : State) : Out :=
  .next (s.byMaster m (0x10 + n.val) 0x04 (s.hostCmd m n .stop))

def execClear (m : Master) (n : Chan) (s : State) : Out :=
  .next (s.byMaster m (0x10 + n.val) 0x04 (s.hostCmd m n .clear))

/-! ## Device transitions that command the channels (R322, R323, Table 12-4) -/

/-- What comes before the commands of a tick: a patch that is due, and the local decisions on every channel (R127). -/
def State.settleAll (s : State) : State := s.duePatch.overChans (fun s n => s.used n) State.settle

/-- ARM. -/
def State.arm (s : State) (m : Master) : State :=
  if s.dev.state != .built then s.refuseDev m [0x01] (if s.dev.disarming then refBusy else refState)
  else if ! s.pwr.vioOk then s.refuseDev m [0x01] refSupply
  else
    s.settleAll.toDev m [0x01] .armed fun s =>
      s.overChans (fun s n => s.used n && (s.ch n).st = .off) fun s n => s.order n { host := none, cmd := .enable }

/-- RUN. The device reaches RUN only with a whole kernel; the refusal code of a kernel that is not whole is
STATE (R39, R322) (assumption 73). -/
def State.run (s : State) (m : Master) : State :=
  if s.dev.state != .armed then s.refuseDev m [0x02] refState
  else if s.dev.disarming then s.refuseDev m [0x02] refBusy
  else if s.muted then s.refuseDev m [0x02] refMuted
  else if ! s.kernelWhole then s.refuseDev m [0x02] refState
  else s.settleAll.toDev m [0x02] .run fun s => s.overChans (fun s n => s.used n) State.runChan

/-- HOLD. -/
def State.hold (s : State) (m : Master) : State :=
  if s.dev.state != .run then s.refuseDev m [0x04] refState
  else if s.dev.disarming then s.refuseDev m [0x04] refBusy
  else s.settleAll.toDev m [0x04] .armed fun s =>
    s.overChans (fun s n => (s.ch n).st.playing) fun s n => s.order n { host := none, cmd := .quiet }

/-- DISARM, also while the device is disarming (R322). -/
def State.disarm (s : State) (m : Master) : State :=
  if s.dev.state != .armed && s.dev.state != .run then s.refuseDev m [0x08] refState
  else
    s.settleAll.toDev m [0x08] s.dev.state fun s =>
      State.overChans { s with dev := { s.dev with disarming := true } }
        (fun s n => s.used n && (s.judge n .stop).isSome) fun s n => s.order n { host := none, cmd := .stop }

def execArm (m : Master) (s : State) : Out :=
  .next (s.byMaster m 0x00 0x28 (s.arm m))

def execRun (m : Master) (s : State) : Out :=
  .next (s.byMaster m 0x00 0x28 (s.run m))

def execHold (m : Master) (s : State) : Out :=
  .next (s.byMaster m 0x00 0x28 (s.hold m))

def execDisarm (m : Master) (s : State) : Out :=
  .next (s.byMaster m 0x00 0x28 (s.disarm m))

end Sys2Proof.Machine
end

