-- ==== Sys2Proof/Machine/RecordBytes.lean ====
section
/-! DEFINITION. The bytes of the records of a build, in the layouts of Tables 2-6 to 2-13. -/

namespace Sys2Proof.Machine

/-- A record header and its body, padded to a multiple of 8 (R42). -/
def framed (type : Nat) (body : List Byte) : List Byte :=
  let len := 8 + body.length
  let pad := (8 - len % 8) % 8
  [BitVec.ofNat 8 type, 1, 0, 0] ++ leBytes 4 (len + pad) ++ body ++ List.replicate pad 0

def b32 (w : BitVec 32) : List Byte := leBytes 4 w.toNat

def bInt (x : Int) : List Byte := b32 (BitVec.ofInt 32 x)

def zeroBytes (n : Nat) : List Byte := List.replicate n 0

def engineByte (e : Option (Fin 8)) : Byte :=
  match e with
  | some e => BitVec.ofNat 8 e.val
  | none => 0xFF

def byteN (n : Nat) : Byte := BitVec.ofNat 8 n

def claimBytes (c : Claim) : List Byte :=
  framed 2 (leBytes 8 c.chMask.toNat ++
    [byteN c.streams, byteN c.fir, byteN c.models, byteN c.ptables, byteN c.ripple, byteN c.xtal.toNat] ++
    leBytes 2 c.sections ++ zeroBytes 8)

def streamBytes (m : List (Nat × Nat)) : List Byte :=
  framed 3 (byteN m.length :: zeroBytes 7 ++ m.flatMap fun e => [byteN e.1, byteN e.2] ++ zeroBytes 6)

/-- Channel definition; `slot` maps each IN_SLOT. -/
def defBytes (n : Chan) (d : ChanDef) (slot : Nat → Nat) : List Byte :=
  framed 4 ([byteN n.val, byteN d.inputs.length, byteN d.law, byteN (d.fadeEn.toNat + 2 * d.firFade.toNat),
      byteN d.sectMax, engineByte d.fir, engineByte d.firShadow, byteN d.phase] ++
    (d.inputs.flatMap fun e => [byteN (slot e.1), 0, 0, 0] ++ bInt e.2) ++ zeroBytes (8 * (4 - d.inputs.length)))

def filterBytes (n : Chan) (bank : Bool) (f : FilterList) : List Byte :=
  framed 5 ([byteN n.val, byteN bank.toNat, byteN f.secs.length, 0] ++ leBytes 2 f.taps.length ++ [0, 0] ++
    (f.secs.flatMap fun c => bInt c.b0 ++ bInt c.b1 ++ bInt c.b2 ++ bInt c.a1 ++ bInt c.a2) ++
    f.taps.flatMap bInt)

/-- Control law, protection set or diagnostic plan. -/
def paramBytes (type : Nat) (n : Chan) (subtype : Nat) (p : Params) : List Byte :=
  framed type ([byteN n.val, byteN subtype] ++ leBytes 2 p.length ++ zeroBytes 4 ++
    p.flatMap fun e => leBytes 2 e.1 ++ [0, 0] ++ b32 e.2)

def modelBytes (n : Chan) (m : Model) : List Byte :=
  framed 7 ([byteN n.val, byteN m.kind] ++ zeroBytes 6 ++ b32 m.re ++ b32 m.le ++ b32 m.bl ++ b32 m.mms ++
    b32 m.kms ++ b32 m.rms ++ b32 m.xlim ++ b32 m.fb)

def tableBytes (n : Chan) (t : PTable) : List Byte :=
  framed 8 (byteN n.val :: zeroBytes 7 ++ t.bl.flatMap b32 ++ t.kms.flatMap b32 ++ t.le.flatMap b32 ++ zeroBytes 4)

def planBytes (t : TwinPlan) : List Byte :=
  leBytes 8 t.twinMask.toNat ++ leBytes 8 t.leadMask.toNat ++ leBytes 8 t.pairId.toNat ++ [byteN t.tbFollower.toNat]

/-- A record's bytes. -/
def Record.bytes : Record → List Byte
  | .claim c => claimBytes c
  | .streams m => streamBytes m
  | .chanDef n d => defBytes n d id
  | .filter n b f => filterBytes n b f
  | .law n st p => paramBytes 6 n st p
  | .model n m => modelBytes n m
  | .table n t => tableBytes n t
  | .prot n st p => paramBytes 9 n st p
  | .diag n st p => paramBytes 10 n st p
  | .twin t f => framed 11 ((planBytes t).take 24 ++ [byteN f] ++ zeroBytes 7)
  | .policy a u => framed 12 (leBytes 32 a.toNat ++ leBytes 32 u.toNat)

/-- The agreement digest of a channel (R244) (assumption 50). -/
def agreement (n : Chan) (c : ChanCfg) (slotPos : Nat → Nat) : BitVec 128 :=
  first16 (Config.sha384 (defBytes n c.dfn slotPos ++ filterBytes n false c.bankA ++
    (if c.dfn.fadeEn then filterBytes n true c.bankB else []) ++ paramBytes 6 n c.dfn.law c.law ++
    modelBytes n c.model ++ (match c.table with
      | some t => tableBytes n t
      | none => []) ++ paramBytes 9 n 0 c.prot ++ (if c.diag.isEmpty then [] else paramBytes 10 n 0 c.diag)))

end Sys2Proof.Machine
end

