-- ==== Sys2Proof/Machine/Twin.lean ====
section
/-! DEFINITION. Chapter Twin Operation: Sweetpea frames, joining, carried commands, failover, farewell and
rejoining (R238 to R263). -/

namespace Sys2Proof.Machine

/-! ## Joining (R243 to R246) -/

/-- The Sweetpea block works (Table 1-8). -/
def State.sweetpeaOk (s : State) : Bool := ! s.dev.gone.contains .sweetpea

/-- TWIN_MASK of the plan in force. -/
def State.twinMask (s : State) : BitVec 64 :=
  match s.plan with
  | some t => t.twinMask
  | none => 0

/-- LEAD_MASK of the plan in force. -/
def State.planLead (s : State) : BitVec 64 :=
  match s.plan with
  | some t => t.leadMask
  | none => 0

/-- 64 consecutive good frames (R238). -/
def execLaneUp (s : State) : Out :=
  if s.plan.isSome && s.sweetpeaOk && 64 ≤ s.swp.goodRun && ! s.swp.laneUp then
    .next ({ s with swp := { s.swp with
      laneUp := true, laneUpAt := s.now, silentAt := none, lossLow := none } }).setJoin.reReference
  else .next s

/-- The pilot windows of a playing channel restart (R242). -/
def Channel.restartWindows (k : Channel) : Channel :=
  if k.st.playing then { k with diag := { k.diag with window := [], progRun := 0, slow := [], slowAge := 0 } } else k

/-- The phase error lies within 5 ns, in steps of 0.1 ns; it is 0 on the TB leader (R241, Table 9-9). -/
def Twin.inPhase (w : Twin) : Bool := decide (w.tbErr.toInt.natAbs ≤ 50)

/-- Within 5 ns of phase error the TB follower adopts the TB leader's tick count at one boundary (R241). -/
def execTbLock (s : State) : Out :=
  if s.plan.isSome && s.swp.laneUp && ! s.swp.tbLock && s.swp.inPhase then
    let s1 := { s with swp := { s.swp with tbLock := true } }
    if s.tbFollower then
      .next ({ s1 with
        dev := { s1.dev with tick := s.swp.partnerTick.toNat },
        chans := vmap Channel.restartWindows s1.chans }).setJoin
    else .next s1.setJoin
  else .next s

/-- Two seconds after lane up without TB_LOCK (Table 9-10). -/
def execTbLockTimeout (s : State) : Out :=
  if s.plan.isSome && s.swp.laneUp && ! s.swp.tbLock && s.swp.laneUpAt + 384000 ≤ s.now then .next { s with swp := { s.swp with joinCode := 6 } } else .next s

/-- The pair joins: roles of R246, event and entry. -/
def execTwinJoin (s : State) : Out :=
  if s.swp.laneUp && s.swp.tbLock && ! s.swp.joined && s.plan.isSome && s.joinCheck = 0 then
    let whole := s.swp.partnerLead &&& s.twinMask = s.twinMask
    let lead := if s.swp.soloAll then s.twinMask else if whole then 0 else s.planLead
    let solo := if s.swp.soloAll || whole then s.twinMask else 0
    let s := ({ s with
      swp := { s.swp with joined := true, lead := lead, solo := solo },
      dev := { s.dev with muteApplied := s.muted } }).setJoin
    let q := s.jrn.nextSeq
    .next ((s.jotTwin 0x13 0).raise Ev.twinJoined 0xFF 0 q)
  else .next s

/-- This device leads every twinned channel (R245, R257) (assumption 50). -/
def State.soloAll (s : State) : State :=
  { s with swp := { s.swp with soloAll := true, lead := s.twinMask, solo := s.twinMask } }

/-- The end of the 3 s wait (R245) (assumptions 16 and 50). -/
def execJoinWaitExpiry (s : State) : Out :=
  if s.plan.isSome && ! s.swp.joined && ! s.swp.waitOver && s.bld.acceptedAt + 576000 ≤ s.now then
    let absent := s.swp.drivenSince.isSome && (match s.swp.lastLow with
      | some t => t + 192000 ≤ s.now
      | none => true)
    let s := { s with swp := { s.swp with waitOver := true } }
    if absent || ! s.tbFollower then
      let q := s.jrn.nextSeq
      .next ((s.soloAll.jotTwin 0x13 0).overChans (fun s n => s.twinned n) fun s n => s.raise Ev.twinSolo n.val 0 q)
    else .next s
  else .next s

/-! ## Sending (R239, Table 9-2) -/

/-- HALF byte of a channel (Table 9-3). -/
def State.halfByte (s : State) (n : Chan) : Byte :=
  let k := s.ch n
  byteN (k.st.code + 16 * k.loop.curValid.toNat + 32 * k.loop.curOvl.toNat +
    64 * (inMask s.swp.lead n).toNat + 128 * (Decidable.decide (k.stage.bridge = 0)).toNat)

/-- GAIN of a channel, Q1.15. -/
def gainCode (g : Rat) : Nat := (clampI 0 65535 (roundEven (g * 32768))).toNat

/-- TERM of a channel: I + REP + T where this device leads it, else 0. -/
def State.termOf (s : State) (n : Chan) : BitVec 32 :=
  let p := (s.ch n).loop.probes
  if inMask s.swp.lead n && (s.ch n).mode != .off then toF32 (p.getD 11 0 + p.getD 12 0 + p.getD 13 0) else 0

def CmdEntry.bytes (e : CmdEntry) : List Byte :=
  [e.kind, e.code, e.origin, 0] ++ leBytes 4 e.apply.toNat ++ leBytes 8 e.mask.toNat ++ [e.cause] ++ zeroBytes 15

/-- The message of the frame's SLOW section: the oldest waiting one, else the held patch while it is held, else the
plan until the pair has joined (R243, R252) (assumption 32). -/
def State.slowMsg (s : State) : Byte × List Byte :=
  match s.swp.slowQ with
  | m :: _ => m
  | [] => match s.swp.joined, s.ldr.heldPatch, s.plan with
    | true, some (p, t, _), _ => (3, beBytes 16 p.matchDigest.toNat ++ leBytes 4 t)
    | false, _, some t => (1, planBytes t)
    | _, _, _ => (0, [])

/-- The SLOW section (Table 9-5). -/
def State.slowBytes (s : State) : List Byte :=
  let n : Chan := ⟨s.dev.tick % 64, Nat.mod_lt _ (by decide)⟩
  let dig : BitVec 128 := match s.cfg n, s.bld.build with
    | some c, some b => if s.twinned n then agreement n c (linkPos b.streams) else 0
    | _, _ => 0
  let k := s.ch n
  let m := s.slowMsg
  [byteN n.val, 0, 0, 0] ++ beBytes 16 dig.toNat ++ leBytes 4 (toF32 k.prot.tc).toNat ++
    leBytes 4 (toF32 k.prot.tm).toNat ++ zeroBytes 4 ++ [m.1] ++ slice m.2 0 31

/-- The entry that travels in this frame. -/
def State.cmdToSend (s : State) : CmdEntry :=
  match s.swp.outQ with
  | e :: _ => { e with apply := if e.origin = 0 then BitVec.ofNat 32 (s.dev.tick + 1) else 0 }
  | [] => { kind := 0, code := 0, origin := 0, apply := 0, mask := 0, cause := 0 }

/-- The frame of a tick, 1,016 bytes. -/
def State.twinFrame (s : State) : List Byte :=
  let flags := (! s.tbFollower).toNat + 2 * s.swp.joined.toNat + 4 * s.swp.farewellSent.toNat +
    8 * (Decidable.decide (s.dev.state = .halt)).toNat
  let a := [1, byteN flags] ++ leBytes 2 s.swp.hb.toNat ++ leBytes 4 s.dev.tick ++ leBytes 8 s.jrn.head.toNat ++
    allChans.flatMap (fun n => leBytes 3 (s.ch n).loop.lastI.toNat) ++ allChans.map s.halfByte ++
    allChans.flatMap (fun n => leBytes 2 (gainCode (s.ch n).prot.gL))
  let b := allChans.flatMap (fun n => leBytes 4 (s.termOf n).toNat) ++
    allChans.flatMap (fun n => leBytes 4 (toF32 (s.ch n).model.x).toNat) ++ s.cmdToSend.bytes ++ s.slowBytes
  a ++ leBytes 4 (crc32 a).toNat ++ b ++ leBytes 4 (crc32 b).toNat

/-- Send the frame of the running tick: an entry sent with ORIGIN 0 waits here too for its APPLY, a fit
result for the next boundary (R251, R254) (assumption 52). -/
def State.sendFrame (s : State) : State :=
  if s.plan.isNone || ! s.sweetpeaOk then s
  else
    let f := s.twinFrame
    let e := s.cmdToSend
    let own : List (Bool × CmdEntry) := if s.swp.outQ.isEmpty || e.origin != 0 then [] else [(false, e)]
    let fit : List (BitVec 32 × List Byte) := match s.swp.slowQ with
      | (k, m) :: _ => if k = 2 then [(BitVec.ofNat 32 (s.dev.tick + 1), m)] else []
      | [] => []
    { s with swp := { s.swp with
      tx := f, hb := s.swp.hb + 1, outQ := s.swp.outQ.tail, applyQ := s.swp.applyQ ++ own,
      slowQ := s.swp.slowQ.tail, fitQ := s.swp.fitQ ++ fit } }

/-! ## Receiving (R239, R240) -/

/-- Account for a missed frame (R240, R255). -/
def Twin.miss (w : Twin) : Twin :=
  { w with
    missed := if w.laneUp then satInc w.missed else w.missed, goodRun := 0, missRun := w.missRun + 1,
    frameSeen := true, partB := none }

/-- Part A of a frame: CUR, HALF, GAIN, and what HALF says of the partner halves. -/
def State.takePartA (s : State) (b : List Byte) : State :=
  let half := slice b 208 64
  let p : PartA :=
    { cur := (List.range 64).map fun i => BitVec.ofNat 24 (field b (16 + 3 * i) 3), half := half,
      gain := (List.range 64).map fun i => field b (272 + 2 * i) 2 }
  let h (n : Chan) := byteAt half n.val
  { s with
    swp := { s.swp with
      part := some p, twinHead := BitVec.ofNat 64 (field b 8 8), partnerTick := BitVec.ofNat 32 (field b 4 4),
      farewellRx := s.swp.farewellRx || (byteAt b 1).getLsbD 2,
      partnerLead := maskOf fun n => (h n).getLsbD 6 },
    chans := vmapIdx (fun n (k : Channel) =>
      if s.twinned n then
        { k with twin := { k.twin with partnerState := (h n).setWidth 4, partnerHiz := (h n).getLsbD 7 } }
      else k) s.chans }

/-- A frame arrives, 1,016 bytes after its comma. One that fails a check counts once and is missed; a part
A that passed keeps its contributions (assumption 52). -/
def execSweetpeaFrame (bytes : List Byte) (s : State) : Out :=
  if s.plan.isNone || ! s.sweetpeaOk then .next s
  else
    let okLen := bytes.length = 1016
    let okA := okLen && field bytes 400 4 = (crc32 (slice bytes 0 400)).toNat
    let okB := okLen && field bytes 1012 4 = (crc32 (slice bytes 404 608)).toNat
    let s := if okA then s.takePartA bytes else { s with swp := { s.swp with part := none } }
    if okA && okB then
      .next { s with swp := { s.swp with
        goodRun := s.swp.goodRun + 1, missRun := 0, frameSeen := true, partB := some (slice bytes 404 608) } }
    else .next { s with swp := { s.swp.miss with crcErrs := satInc s.swp.crcErrs } }

/-- No frame, or only its part A, arrived in time (R240) (assumption 52). -/
def execSweetpeaFrameMissed (partBOnly : Bool) (s : State) : Out :=
  if s.plan.isNone then .next s
  else
    let w := s.swp.miss
    .next { s with swp := { w with part := if partBOnly then w.part else none } }

/-- The twin's plan in a SLOW message. -/
def planOfMsg (m : List Byte) : TwinPlan :=
  { twinMask := BitVec.ofNat 64 (field m 0 8), leadMask := BitVec.ofNat 64 (field m 8 8),
    pairId := BitVec.ofNat 64 (field m 16 8), tbFollower := byteAt m 24 = 1 }

/-- Σ_L of a channel. -/
def State.sigmaL (s : State) (n : Chan) : Rat := f32 (s.swp.term.getD n.val 0)

/-- A half takes the lead (R258). The tick of the change is unusable (R224). -/
def State.takeLead (s : State) (n : Chan) : State :=
  match s.cfg n with
  | none => s
  | some c =>
    let sig := s.sigmaL n
    let s := { s with swp := { s.swp with lead := setMask s.swp.lead n true } }
    s.modCh n fun k =>
      let lim := c.lawP 0x0012
      let i := if c.dfn.law = 0 then 0 else clampR (-lim) lim sig
      let t := k.loop.tC * (k.loop.tLeft : Rat) / 64 + k.twin.shareP + k.twin.shareI + (sig - i)
      { k with
        loop := { k.loop with integ := i, tC := t, tLeft := 64, closing := false, feCount := 0,
                              lastFb := k.loop.probes.getD 10 0 + i + t },
        twin := { k.twin with shareP := 0, shareI := 0, shareSat := false, satRun := 0, roleNew := true },
        learn := { ChLearn.reset with clamped := k.learn.clamped }
        issue := { k.issue with table := [] } }

/-- The lead of a half changes without a takeover (R246). -/
def State.setLead (s : State) (n : Chan) (b : Bool) : State :=
  if inMask s.swp.lead n = b then s
  else
    ({ s with swp := { s.swp with lead := setMask s.swp.lead n b } }).modCh n fun k =>
      { k with twin := { k.twin with roleNew := true } }

/-- A channel turns mismatched: the TB follower's half goes high-impedance, and the TB leader's half leads; or it
agrees again, and the roles of the plan return where neither half plays solo (R244, R246) (assumption 51). -/
def State.mismatchRoles (s : State) (n : Chan) (mis : Bool) : State :=
  if ! s.swp.joined then s
  else if mis then
    if s.tbFollower then
      let st := (s.ch n).st
      (if st = .off || st = .tripped then s else s.moveTo 0x13 true n .off 0).setLead n false
    else if inMask s.swp.lead n then s else s.takeLead n
  else if inMask s.swp.solo n || ! (s.ch n).twin.partnerHiz then s
  else s.setLead n (inMask s.planLead n)

/-- The agreement digest that this device sent in its frame of the same tick, else the one of the configuration in
force: both sides of a comparison stand at one boundary (R239, R244). -/
def State.ownDigest (s : State) (n : Chan) : BitVec 128 :=
  if s.swp.tx.length = 1016 && (byteAt s.swp.tx 948).toNat = n.val then BitVec.ofNat 128 (beNat (slice s.swp.tx 952 16))
  else match s.cfg n, s.bld.build with
    | some c, some b => agreement n c (linkPos b.streams)
    | _, _ => 0

/-- Compare the agreement digests of a channel: the roles change, and the entry shows them after the change (R244, Table
13-5). -/
def State.compareDigest (s : State) (n : Chan) (theirs : BitVec 128) : State :=
  if ! s.twinned n || ! s.used n then s
  else
    let mis := s.ownDigest n != theirs
    let s := { s with swp := { s.swp with digestsSeen := setMask s.swp.digestsSeen n true } }
    if mis = inMask s.swp.mismatch n then s
    else
      let s := ({ s with swp := { s.swp with mismatch := setMask s.swp.mismatch n mis } }).mismatchRoles n mis
      let q := s.jrn.nextSeq
      (s.jotTwin 0x13 0 n.val).raise Ev.twinMismatch n.val 0 q

/-- A SLOW message (Table 9-5). A frame without a message says that the twin holds no patch (R252)
(assumption 32). -/
def State.slowMessage (s : State) (kind : Nat) (m : List Byte) : State :=
  match kind with
  | 0 => { s with swp := { s.swp with heldMsg := none } }
  | 1 => ({ s with swp := { s.swp with partnerPlan := some (planOfMsg m) } }).setJoin
  | 2 =>
    let n : Chan := ⟨(byteAt m 0).toNat % 64, Nat.mod_lt _ (by decide)⟩
    if s.follows n then s.applyFit n (byteAt m 1).toNat (fitOfMsg m (s.ch n).keep.fit.resid) else s
  | 3 => { s with swp := { s.swp with
      heldMsg := some (BitVec.ofNat 128 (beNat (slice m 0 16)), BitVec.ofNat 32 (field m 16 4)) } }
  | 4 =>
    if s.swp.joined && s.swp.farewell.isNone then
      let s := { s with swp := { s.swp with
        farewellRx := true, farewell := some { leaving := false, handover := field m 0 4, done := false } } }
      s.jotTwin 0x13 0
    else s
  | _ => s

/-- T_c and T_m of a channel that the twin leads (R249). -/
def State.takeCoil (s : State) (n : Chan) (sl : List Byte) : State :=
  if s.follows n then
    s.modCh n fun k => { k with prot := { k.prot with tc := f32 (f32At sl 20), tm := f32 (f32At sl 24) } }
  else s

/-- Part B takes effect in the tick after its frame's (R240) (assumption 52). -/
def State.usePartB (s : State) : State :=
  match s.swp.partB with
  | none => s
  | some b =>
    let term := (List.range 64).map fun i => f32At b (4 * i)
    let cmd := slice b 512 32
    let e : CmdEntry :=
      { kind := byteAt cmd 0, code := byteAt cmd 1, origin := byteAt cmd 2, apply := f32At cmd 4,
        mask := BitVec.ofNat 64 (field cmd 8 8), cause := byteAt cmd 16 }
    let sl := slice b 544 64
    let n : Chan := ⟨(byteAt sl 0).toNat % 64, Nat.mod_lt _ (by decide)⟩
    let s := { s with swp := { s.swp with
      partB := none, term := term,
      applyQ := if e.kind = 0 || ! s.swp.joined then s.swp.applyQ else s.swp.applyQ ++ [(true, e)] } }
    let s := (s.compareDigest n (BitVec.ofNat 128 (beNat (slice sl 4 16)))).takeCoil n sl
    s.slowMessage (byteAt sl 32).toNat (slice sl 33 31)

/-- Fit results whose boundary has come (R254). -/
def State.applyFits (s : State) : State :=
  let due := s.swp.fitQ.filter fun e => Decidable.decide ((e.1 - BitVec.ofNat 32 s.dev.tick).toInt ≤ 0)
  let s := { s with swp := { s.swp with
    fitQ := s.swp.fitQ.filter fun e => Decidable.decide (0 < (e.1 - BitVec.ofNat 32 s.dev.tick).toInt) } }
  due.foldl (fun s e =>
    let n : Chan := ⟨(byteAt e.2 0).toNat % 64, Nat.mod_lt _ (by decide)⟩
    if (s.ch n).ident.fitPending then s.applyFit n (byteAt e.2 1).toNat (fitOfMsg e.2 (s.ch n).keep.fit.resid)
    else s) s

/-! ## Carried commands (R251, Table 9-4) -/

/-- The rows of Table 4-7 that a carried state change can take on this half. -/
def carriedOk (old new : ChState) : Bool :=
  match old, new with
  | .off, .rampUp => true
  | .rampUp, .rampDown => true
  | .rampUp, .quiet => true
  | .rampUp, .retry => true
  | .rampUp, .off => true
  | .rampUp, .openLoop => true
  | .rampUp, .closedLoop => true
  | .quiet, .openLoop => true
  | .quiet, .closedLoop => true
  | .quiet, .rampDown => true
  | .quiet, .tripped => true
  | .openLoop, .closedLoop => true
  | .openLoop, .quiet => true
  | .openLoop, .rampDown => true
  | .openLoop, .tripped => true
  | .closedLoop, .openLoop => true
  | .closedLoop, .quiet => true
  | .closedLoop, .rampDown => true
  | .closedLoop, .tripped => true
  | .tripped, .off => true
  | .tripped, .retry => true
  | .retry, .quiet => true
  | .retry, .tripped => true
  | .retry, .rampDown => true
  | .rampDown, .off => true
  | _, _ => false

/-- The half of a TB follower may not take a channel that is mismatched into play (R244). -/
def State.barred (s : State) (n : Chan) (new : ChState) : Bool :=
  s.mismatchBars n && (new = .rampUp || new.playing)

/-- The loop of a follow half opens at APPLY. Table 9-4 carries no cause for it, so that which of the four causes
the half records is free; one that is a drop counts as one (R117, R122) (assumption 48). -/
def State.followOpened (s : State) (n : Chan) : State :=
  let (d, s) := s.draw
  let cause := 1 + (Config.freeBits 2 d).toNat
  s.modCh n fun k =>
    if cause = 1 then { k with loop := { k.loop with openCause := 1 } } else k.recordDrop s.now cause

/-- The rejoin of a channel that is pending on this device, if any, ends (R260, R261). -/
def State.rejoinCut (s : State) (n : Chan) : State :=
  { s with swp := { s.swp with
    rejoin := s.swp.rejoin.set n.val .none, rejoinPlay := setMask s.swp.rejoinPlay n false } }

/-- With both halves in QUIET the roles return to the plan, and the channel that was playing plays (R246, R261). -/
def State.rolesReturn (s : State) (n : Chan) : State :=
  let solo := setMask s.swp.solo n false
  let play := inMask s.swp.rejoinPlay n
  let s := ({ s with swp := { s.swp with solo := solo, soloAll := s.swp.soloAll && solo != 0 } }).rejoinCut n
  let s := (s.setLead n (inMask s.planLead n)).jotTwin 0x13 0 n.val
  if play then s.command (.block 0x13) .play n else s.playWaiting n

/-- Both halves of a joined channel enter QUIET while the roles in force are not those of the plan, or a rejoin is
pending: from there on neither half plays alone (R246, R261) (assumption 51). -/
def State.bothQuiet (s : State) (n : Chan) (new : ChState) : Bool :=
  let k := s.ch n
  let twin := k.twin.partnerState.toNat
  new = .quiet && s.joinedTwin n && ! k.twin.partnerHiz &&
    ((k.st = .rampUp && (twin = ChState.quiet.code || twin = ChState.rampUp.code)) ||
      (k.st = .quiet && twin = ChState.rampUp.code)) &&
    (inMask s.swp.solo n || s.swp.rejoin[n] != .none || inMask s.swp.lead n != inMask s.planLead n)

/-- Ticks that an out half waits in OFF for its ENABLE: those of the fade, of the carriage and of the way there (assumption
51). -/
def rejoinWait : Nat := 320

/-- A rejoin's out half is enabled, or what the lead carries ends the rejoin (R261). -/
def State.rejoinSeen (s : State) (n : Chan) (new : ChState) : State :=
  let k := s.ch n
  if new = .rampUp && k.st = .off && k.twin.partnerState.toNat = ChState.quiet.code then
    { s with swp := { s.swp with rejoin := s.swp.rejoin.set n.val (.out (s.now + rejoinWait)) } }
  else if s.swp.rejoin[n] = .none || new = .quiet || new = .rampUp then s
  else s.rejoinCut n

/-- The half is held by a shutdown, or has come out of one while its partner plays the channel alone: only a STOP reaches it,
as a channel whose bridge is not driven, or what takes it to OFF (R318, R319). -/
def Channel.heldOut (k : Channel) : Bool := k.st = .rampUp && (k.loop.uvHold || k.twin.outHeld)

/-- Where a carried state change takes a half: to the state itself, and a held one to OFF at a STOP; none where the half has
no row for it (R318, R319, Table 4-7). -/
def State.carriedTo (s : State) (n : Chan) (new : ChState) : Option ChState :=
  let k := s.ch n
  if k.heldOut then (if new = .rampDown || new = .off then some .off else none)
  else if ! carriedOk k.st new || s.barred n new || (k.st = .rampUp && new.playing && ! k.loop.uvResume) then none
  else some new

/-- A held half that returns to a playing state is held no longer, and starts from rest (R319). -/
def Channel.uvReturn (k : Channel) (new : ChState) : Channel :=
  if k.st = .rampUp && new.playing then { k with loop := { k.loop with phi := 0, uvHold := false, uvResume := false } }
  else k

/-- A carried state change of one channel. `rx`: the twin decided it. A QUIET that a half reaches from its ramp while
its partner waits in QUIET ends a rejoin on both devices (R251, R261); a held half returns to its RESUME state (R319). -/
def State.carriedState (s : State) (src : Nat) (rx : Bool) (n : Chan) (new : ChState) (cause : Nat) : State :=
  let old := (s.ch n).st
  let ended := s.bothQuiet n new
  let s := s.rejoinSeen n new
  let s :=
    match s.carriedTo n new with
    | none => s
    | some new =>
      let s := if rx && old = .closedLoop && new = .openLoop then s.followOpened n else s
      let s := (s.modCh n fun k => k.uvReturn new).moveTo src true n new cause
      match new with
      | .tripped => s.raiseLast Ev.channelTrip n.val cause
      | .quiet => if ended then s else s.playWaiting n
      | .retry => if old = .rampUp then (s.modCh n fun k => { k with loop := { k.loop with ramped := true } }).startCheck n else s
      | _ => s
  if ended then s.rolesReturn n else s

/-- The out half's device learns of a rejoin that its partner has begun: pending from here on (R260, R261) (assumption
51). -/
def State.rejoinTold (s : State) (n : Chan) : State :=
  if (s.ch n).st = .off && s.swp.rejoin[n] = .none then
    ({ s with swp := { s.swp with rejoin := s.swp.rejoin.set n.val (.out (s.now + rejoinWait)) } }).jotTwin 0x13 0 n.val
  else s

/-- The rejoin of one channel begins at its solo half, which stops its pilot, fades out and tells the device of the out
half; begun at that device, it asks the solo half's (R260, R261) (assumption 51). -/
def State.rejoinStart (s : State) (n : Chan) : State :=
  let k := s.ch n
  let s := s.jotTwin 0x13 0 n.val
  if k.st = .off then
    ({ s with swp := { s.swp with rejoin := s.swp.rejoin.set n.val (.out (s.now + rejoinWait)) } }).carry 0x01
      ChState.quiet.code 1 0 (bitOf n)
  else
    let s := s.carry 0x01 ChState.quiet.code 1 0 (bitOf n)
    let s := if s.flx.injOn && s.flx.injCh = n then s.injEnd else s
    let s := { s with swp := { s.swp with
      rejoin := s.swp.rejoin.set n.val (.fadeOut (s.now + 68)),
      rejoinPlay := setMask s.swp.rejoinPlay n k.st.playing } }
    let s := s.modCh n fun k => { k with diag := { k.diag with weight := 0, pilotOn := false } }
    if k.st.playing then s.decide 0x13 true n .quiet 0 else s

/-- A move to QUIET that the follow half asks for: its own after a ramp, else the first step of a rejoin (R251, R261)
(assumption 51). -/
def State.quietAsked (s : State) (n : Chan) : State :=
  let twin := (s.ch n).twin.partnerState.toNat
  if twin = ChState.rampUp.code then s.carry 0x01 ChState.quiet.code 0 0 (bitOf n)
  else if twin = ChState.off.code && ((s.ch n).st.playing || (s.ch n).st = .quiet) && s.swp.rejoin[n] = .none then
    s.rejoinStart n
  else s

/-- A request that reaches the lead half: judged, then carried. -/
def State.carriedRequest (s : State) (e : CmdEntry) (n : Chan) : State :=
  match e.kind.toNat with
  | 1 => if e.code.toNat = ChState.quiet.code then s.quietAsked n else s
  | 2 => match ChCmd.ofBit e.code.toNat with
    | some k => s.judgeHost .m3 n [1#8 <<< k.bit] k
    | none => s
  | 3 => s.bankAsked n (e.code != 0)
  | 6 => s.carry 0x06 0 0 0 (bitOf n)
  | 7 => s.identStart .m3 n
  | _ => s

/-- A carried mute applies on the twinned channels (R213, R214, R251). `rx`: MUTE_N of the twin. -/
def State.carriedMute (s : State) (rx on : Bool) : State :=
  let p := fun n => s.twinned n
  let fades := allChans.any fun n => p n && (s.ch n).loop.fading = .mute
  if rx then
    if on then
      ({ s with dev := { s.dev with twinMute := true, twinReleasing := false } }).muteOn p 3
    else if fades then { s with dev := { s.dev with twinReleasing := true } }
    else s.twinRelease 3
  else if on then ({ s with dev := { s.dev with muteApplied := true } }).muteOn p s.dev.muteBy.toNat
  else
    let t := { s with dev := { s.dev with muteApplied := false } }
    if s.muted || s.dev.twinMute then t else (t.muteOff p s.dev.muteBy.toNat).afterMute

/-- An entry applies at its tick. `rx`: it came from the twin (assumption 48). -/
def State.applyEntry (s : State) (rx : Bool) (e : CmdEntry) : State :=
  let src := if rx then 3 else 0x10
  let each (f : State → Chan → State) : State := s.overChans (fun s n => inMask e.mask n && s.twinned n) f
  if e.origin != 0 then
    (if e.kind = 6 && rx then s.jotWrite .m3 0x01 0x10 (leBytes 8 e.mask.toNat) 0 else s).overChans
      (fun s n => inMask e.mask n && s.twinned n) fun s n =>
        if ! s.follows n then s.carriedRequest e n
        else if rx && e.kind = 0x01 && e.code.toNat = ChState.quiet.code then s.rejoinTold n
        else s
  else
    match e.kind.toNat with
    | 1 => each fun s n => s.carriedState src rx n (ChState.ofCode e.code.toNat) e.cause.toNat
    | 3 => each fun s n =>
      let t := s.bankRequest src n (e.code = 0) (e.code != 0)
      if rx then t else { s with chans := t.chans }
    | 4 => s.syncReset (if rx then 3 else 0x16) e.cause.toNat
    | 5 => s.carriedMute rx (e.code = 1)
    | 6 =>
      let s := if rx then s.jotWrite .m3 0x01 0x10 (leBytes 8 e.mask.toNat) 0 else s
      s.overChans (fun s n => inMask e.mask n && s.twinned n) State.chResetStart
    | 7 => each fun s n =>
      if (s.ch n).ident.running then s
      else s.startSweep n (if rx then some 3 else none)
    | _ => s

/-- The first entry whose tick has come. -/
def dueEntry (tick : Nat) : List (Bool × CmdEntry) → Option ((Bool × CmdEntry) × List (Bool × CmdEntry))
  | [] => none
  | e :: t =>
    if e.2.origin != 0 || decide ((e.2.apply - BitVec.ofNat 32 tick).toInt ≤ 0) then some (e, t)
    else (dueEntry tick t).map fun r => (r.1, e :: r.2)

/-- Model choice: assumption 48. -/
def execCarriedCommandApply (s : State) : Out :=
  match dueEntry s.dev.tick s.swp.applyQ with
  | none => .next s
  | some (e, rest) => .next (({ s with swp := { s.swp with applyQ := rest } }).applyEntry e.1 e.2)

/-! ## Takeover (R253, R257, R258) -/

/-- The half plays the channel solo: it takes the lead if it follows (R253, R258). -/
def State.soloTake (s : State) (n : Chan) : State :=
  let s := if inMask s.swp.lead n then s.modCh n fun k => { k with twin := { k.twin with roleNew := true } }
    else s.takeLead n
  let s := { s with swp := { s.swp with solo := setMask s.swp.solo n true } }
  let q := s.jrn.nextSeq
  (s.jotTwin 0x13 0 n.val).raise Ev.twinSolo n.val 0 q

/-- The partner half turned high-impedance while the own half plays or is in QUIET (R253). -/
def execSoloTakeover (n : Chan) (s : State) : Out :=
  let k := s.ch n
  if s.swp.joined && s.twinned n && k.twin.partnerHiz && (k.st.playing || k.st = .quiet) && ! inMask s.swp.solo n then
    .next (s.soloTake n)
  else .next s

/-- A half whose ramp is complete while the partner stays high-impedance returns alone after 1,920 ticks, and R253
governs the channel from then on (R319). -/
def execUvSoloReturn (n : Chan) (s : State) : Out :=
  let k := s.ch n
  if k.st = .rampUp && k.loop.uvResume && k.twin.uvRampDone && 1920 ≤ k.twin.uvWait then
    let s := s.modCh n fun k => { k with twin := { k.twin with uvRampDone := false, uvWait := 0 } }
    .next ((s.soloTake n).resumeChan n)
  else .next s

/-- A half whose frame showed it high-impedance, while the partner half plays or is in QUIET, gives the lead to the
half that takes the channel solo, at the same boundary (R246, R253); one that a shutdown holds is out from then on
(R319). A lead that it gives up is journalled (R346). -/
def State.leadGone (s : State) (n : Chan) : State :=
  let twin := ChState.ofCode (s.ch n).twin.partnerState.toNat
  let hiz := s.swp.tx.length = 1016 && (byteAt s.swp.tx (208 + n.val)).getLsbD 7
  if s.swp.joined && s.twinned n && hiz && (s.ch n).stage.bridge = 0 && ! (s.ch n).twin.partnerHiz &&
      (twin.playing || twin = .quiet) then
    let t := s.setLead n false
    let t := if inMask s.swp.lead n then t.jotTwin 0x13 0 n.val else t
    t.modCh n fun k => { k with twin := { k.twin with
      outHeld := k.twin.outHeld || (k.st = .rampUp && k.loop.uvResume) } }
  else s

/-- The share clamp has acted for 19,200 consecutive ticks, once for each time that it begins to act (R248, R424). -/
def execShareFault (n : Chan) (s : State) : Out :=
  if 19200 ≤ (s.ch n).twin.satRun && ! (s.ch n).twin.shareFaulted then
    let s := s.modCh n fun k => { k with twin := { k.twin with shareFaulted := true } }
    let q := s.jrn.nextSeq
    .next ((s.jotTwin 0x10 0 n.val).raise Ev.shareFault n.val 0 q)
  else .next s

/-- The boundary of silence: the lane is down, if it was not already, and a burst of M3 is cut (R242, R255). What the
burst was is not known: its target, its beats, up to 16, and its address are free (assumption 50). -/
def execTwinSilent (s : State) : Out :=
  if (s.swp.laneUp || s.swp.joined) && s.swp.silentAt.isNone && 4 ≤ s.swp.missRun then
    let (d, s) := s.draw
    let s := { s with swp := { s.swp with goodRun := 0, silentAt := some s.dev.tick, lossLow := none } }
    let s := s.laneDown
    .next (s.cutBurst .m3 (Config.freeBits 3 d).toNat ((Config.freeBits 5 d).toNat % 17) (Config.freeBits 32 d).toNat)
  else .next s

/-- Follow halves take the lead, and the pair is no longer joined; entries that wait to be sent apply here. -/
def State.partnerGone (s : State) : State :=
  let s := s.overChans (fun s n => s.twinned n && ! inMask s.swp.lead n) fun s n => s.takeLead n
  let mine := s.swp.outQ.map fun e => (false, { e with apply := BitVec.ofNat 32 s.dev.tick })
  ({ s with swp := { s.swp with
    joined := false, silentAt := none, lossLow := none, farewell := none, heldMsg := none, outQ := [],
    applyQ := s.swp.applyQ ++ mine } }).soloAll

/-- The decision of R257 on the line's sample in the first whole twin slot at or after the boundary of silence
(assumption 50). -/
def State.lossDecision (s : State) (lineLow : Bool) : State :=
    let s := { s with swp := { s.swp with
      lastLoss := if lineLow then 0b10 else 0b01, losses := satInc s.swp.losses } }
    let s1 := if lineLow && s.tbFollower then
        { s.enterHalt 0x13 .lane with swp := { s.swp with joined := false, silentAt := none, lossLow := none, heldMsg := none } }
      else s.partnerGone
    let s1 := s1.setJoin
    let q := s1.jrn.nextSeq
    (s1.jotTwin 0x13 0).raise Ev.twinLost 0xFF (if lineLow then 2 else 1) q

/-- The decision, on the sample that the slot gave (assumption 15). -/
def execTwinLossDecision (lineLow : Bool) (s : State) : Out :=
  if s.swp.joined && s.swp.lossLow = some lineLow then .next (s.lossDecision lineLow) else .next s

/-! ## Farewell and rejoin (R260, R261) -/

/-- A farewell is refused: nothing joined, one in progress, a rejoin or held patch pending, or a channel
that this device plays without its partner half. -/
def State.farewellBad (s : State) : Bool :=
  ! s.swp.joined || s.swp.farewell.isSome || s.ldr.heldPatch.isSome ||
    allChans.any fun n => s.swp.rejoin[n] != .none ||
      (s.twinned n && (s.ch n).twin.partnerHiz && ((s.ch n).st.playing || (s.ch n).st = .quiet))

/-- A write of FAREWELL (assumption 51). -/
def State.farewellWrite (s : State) (m : Master) : State :=
  if s.farewellBad then
    let q := s.jrn.nextSeq
    (s.jotTwin m.num 1).raise Ev.farewellRefused 0xFF 0 q
  else
    let h := s.dev.tick + 16
    let s := s.jotWrite m 0x06 0x04 [0x01] 0
    let s := { s with swp := { s.swp with
      farewellSent := true, farewell := some { leaving := true, handover := h, done := false },
      slowQ := s.swp.slowQ ++ [(0x04, leBytes 4 h)] } }
    s.jotTwin 0x13 0

def execFarewell (m : Master) (s : State) : Out :=
  .next (s.byMaster m 0x06 0x04 (s.farewellWrite m))

/-- The handover tick has come, in 32-bit tick counts. -/
def tickReached (tick : Nat) (h : Nat) : Bool := decide (0 ≤ (BitVec.ofNat 32 tick - BitVec.ofNat 32 h).toInt)

/-- The handover: the twin takes every lead, the departing halves follow (R260). -/
def execFarewellHandover (s : State) : Out :=
  match s.swp.farewell with
  | some f =>
    if ! f.done && tickReached s.dev.tick f.handover then
      let s := { s with swp := { s.swp with farewell := some { f with done := true } } }
      let s := if f.leaving then s.overChans (fun s n => s.twinned n) fun s n => s.setLead n false
        else s.overChans (fun s n => s.twinned n && ! inMask s.swp.lead n) fun s n => s.takeLead n
      .next (s.jotTwin 0x13 0)
    else .next s
  | none => .next s

/-- Sixteen ticks later the departing device halts, and the twin plays alone (R260). -/
def execFarewellHalt (s : State) : Out :=
  match s.swp.farewell with
  | some f =>
    if f.done && tickReached s.dev.tick (f.handover + 16) then
      if f.leaving then
        let s := (s.enterHalt 0x13 .farewell).jotTwin 0x13 0
        .next ({ s with swp := { s.swp with joined := false, farewell := none } }).setJoin
      else
        let s := { s with swp := { s.swp with lastLoss := 0b11 } }
        .next (s.partnerGone.setJoin.jotTwin 0x13 0)
    else .next s
  | none => .next s

/-- One half plays solo or is in QUIET, the other is in OFF (R261). -/
def State.rejoinOk (s : State) (n : Chan) : Bool :=
  let own := (s.ch n).st
  let twin := ChState.ofCode (s.ch n).twin.partnerState.toNat
  let up (x : ChState) : Bool := x.playing || x = .quiet
  s.joinedTwin n && ((up own && twin = .off) || (own = .off && up twin)) && ! s.mutedAt n

/-- A write of REJOIN (assumption 51). -/
def State.rejoinWrite (s : State) (m : Master) : State :=
  if ! s.swp.joined then s.overChans (fun s n => inMask s.swp.rejoinMask n) fun s n => s.raise Ev.rejoinRefused n.val 0
  else
    let mask := s.swp.rejoinMask
    let s := s.jotWrite m 0x06 0x04 [0x02] 0
    s.overChans (fun _ n => inMask mask n) fun s n =>
      if s.rejoinOk n && s.swp.rejoin[n] = .none then s.rejoinStart n else s.raise Ev.rejoinRefused n.val 0

def execRejoin (m : Master) (s : State) : Out :=
  .next (s.byMaster m 0x06 0x04 (s.rejoinWrite m))

/-- A write of SWP_CTL, its bits in order. -/
def State.swpCtlWrite (s : State) (m : Master) (v : Byte) : State :=
  let s := if v.getLsbD 0 then s.farewellWrite m else s
  if v.getLsbD 1 then s.rejoinWrite m else s

/-- A rejoin that is pending may go on: the pair is joined, the solo half has not left its playing states and QUIET,
and the out half has not left its way from OFF to QUIET (R261). -/
def State.rejoinLives (s : State) (n : Chan) : Bool :=
  let own := (s.ch n).st
  let twin := ChState.ofCode (s.ch n).twin.partnerState.toNat
  let solo (x : ChState) : Bool := x.playing || x = .quiet
  let out (x : ChState) : Bool := x = .off || x = .rampUp || x = .quiet
  s.joinedTwin n && (match s.swp.rejoin[n] with
    | .none => true
    | .fadeOut t => solo own && out twin && (own = .quiet || Decidable.decide (s.now < t))
    | .enable t => own = .quiet && out twin && (twin != .off || Decidable.decide (s.now < t))
    | .out t => out own && solo twin && (own != .off || Decidable.decide (s.now < t)))

/-- One tick of a rejoin at the solo half (R261): ENABLE for the out half once the solo half is in QUIET. What a STOP, a
trip or a PLAY cuts short is no longer pending (assumption 51). -/
def State.rejoinTick (s : State) (n : Chan) : State :=
  let k := s.ch n
  let twin := ChState.ofCode k.twin.partnerState.toNat
  if ! s.rejoinLives n then s.rejoinCut n
  else
    match s.swp.rejoin[n] with
    | .fadeOut t =>
      if t ≤ s.now && k.loop.fading = .none && k.st = .quiet && twin = .off then
        (({ s with swp := { s.swp with rejoin := s.swp.rejoin.set n.val (.enable (s.now + 192)) } }).jotTwin
          0x13 0 n.val).carry 0x01 ChState.rampUp.code 0 0 (bitOf n)
      else s
    | _ => s

/-! ## The life line (R256) -/

/-- This device pulls TWIN_PRES_N low in a tick; without VIO it releases the line (R256, R313). -/
def State.pullsLine (s : State) : Bool :=
  s.plan.isSome && s.dev.held = .running && s.pwr.vioOk && s.dev.haltCause != .farewell &&
    s.dev.tick % 4 = (if s.tbFollower then 2 else 0)

/-- The sample in the middle of a tick: the twin's slot gives TWIN_LIVE. Without VIO the line is ignored (R313)
(assumption 52). -/
def State.sampleLine (s : State) (high : Bool) : State :=
  if s.plan.isNone || ! s.pwr.vioOk then s
  else
    let slot := s.dev.tick % 4 = (if s.tbFollower then 0 else 2)
    { s with swp := { s.swp with
      live := if slot then ! high else s.swp.live,
      lossLow := match s.swp.silentAt, s.swp.lossLow with
        | some t, none => if slot && Decidable.decide (t ≤ s.dev.tick) then some (! high) else none
        | _, l => l,
      lastLow := if ! high && ! s.swp.pull then some s.now else s.swp.lastLow } }

end Sys2Proof.Machine
end

