-- ==== Sys2Proof/Machine/LinkOps.lean ====
section
/-! DEFINITION. Chapter The Lenex Link, the lane and the choice of the active port: bring-up, losses,
resets, first activation, switches, TAKE, loss of input (R264, R265, R276 to R281, R290). -/

namespace Sys2Proof.Machine

/-- No port where a KIND 0x09 entry names one. -/
def noPort : Byte := 0xFF

def portByte (p : Port) : Byte := BitVec.ofNat 8 p.num

/-- A KIND 0x09 entry: cause, old port, new port, first FRAME (Table 13-5). -/
def linkData (cause : Nat) (old new : Byte) (first : BitVec 32) : List Byte :=
  [BitVec.ofNat 8 cause, old, new, 0] ++ leBytes 4 first.toNat

/-- INPUT_LOST clears once a port is active and READY again (R281); a pending switch lapses as the active port
becomes READY (R278). -/
def State.inputBack (s : State) : State :=
  match s.link.active with
  | some p =>
    if (s.port p).isReady then { s with link := { s.link with inputLost := false, pendSwitch := none } } else s
  | none => s

/-! ## The lane (R264, R265) -/

/-- The port's lane falls to a state; what a loss of lock ends, ends (R265, R289). -/
def LinkPort.fall (l : LinkPort) (lane : Lane) : LinkPort :=
  { l.emptyQueues with lane := lane, crcRun := 0, accRun := 0 }

/-- A port with carrier whose lane is DOWN is LOCKING; one that a reset put DOWN is so from the next boundary on (R265)
(assumption 53). `on`: carrier appears or is present in the tick. -/
def LinkPort.carrierTick (l : LinkPort) (on : Bool) : LinkPort :=
  let has := l.carrier || on
  { l with carrier := has, lane := if has && l.lane = .down then .locking else l.lane }

/-- The carriers of a tick; a port that a failure removed sees none (Table 1-8). -/
def State.carriers (s : State) (c : BitVec 2) : State :=
  let on (s : State) (p : Port) : Bool := c.getLsbD p.num && ! s.dev.gone.contains (.link p)
  let s := s.modPort .a fun l => l.carrierTick (on s .a)
  s.modPort .b fun l => l.carrierTick (on s .b)

/-- Clock recovery locks: LOCKING, and the loop-timed transmitter starts (R264). -/
def execClockRecoveryLock (p : Port) (s : State) : Out :=
  if s.dev.held = .running && (s.port p).lane != .locked && ! s.dev.gone.contains (.link p) then
    .next (s.modPort p fun l => { l with lane := .locking, carrier := true, txOn := true, crcRun := 0 })
  else .next s

def execCarrierLoss (p : Port) (s : State) : Out :=
  if (s.port p).carrier then
    let s := s.modPort p fun l => { l.fall .down with carrier := false, txOn := false }
    .next ((s.raise (Ev.ofPort p Ev.carrierLost) 0xFF 0).switchTrigger p 0b001).reReference
  else .next s

def execLockLoss (p : Port) (s : State) : Out :=
  match (s.port p).lane with
  | .locked =>
    let s := s.modPort p fun l => l.fall .locking
    .next ((s.raise (Ev.ofPort p Ev.lockLost) 0xFF 0).switchTrigger p 0b010).reReference
  | .locking => .next (s.modPort p fun l => { l with crcRun := 0 })
  | .down => .next s

/-- 64 consecutive frames have passed their CRC. -/
def execLaneLocked (p : Port) (s : State) : Out :=
  if (s.port p).lane = .locking && 64 ≤ (s.port p).crcRun then
    .next (s.modPort p fun l => { l with lane := .locked }).reReference.inputBack
  else .next s

/-! ## Reset of a port (R265, R290) -/

/-- What a port reset clears: lane state, session, UNTRUSTED, LNK_REJ_WIN, the mailbox's last request with its SEQ,
the exchange (R290). -/
def LinkPort.resetPort (l : LinkPort) : LinkPort :=
  { l.fall .down with
    txOn := false, pendSess := none, counter := 0, untrusted := false, rejWin := [], mbValid := false,
    mbSeq := 0, resp := .reset, ex := .reset }

def State.lnkReset (s : State) (p : Port) : State :=
  let s := s.endSession p 2
  let s := s.modPort p LinkPort.resetPort
  ((s.switchTrigger p 0b110).portLost p).reReference

/-- A reset of a port by a master: a burst of the port's own master may be cut, but for the burst that writes the
reset itself, which the matrix cuts where it stands (R38) (assumption 25). -/
def State.lnkResetBy (s : State) (m : Master) (p : Port) : State :=
  if m = p.master then s.lnkReset p else (s.lnkReset p).cutMaybe p.master

/-! ## TAKE (R280) -/

/-- An accepted TAKE waits for the boundary; on the active port it changes nothing (assumption 53). -/
def State.takeGo (s : State) (p : Port) : State :=
  if s.link.active = some p then s else { s with link := { s.link with pendTake := some p } }

/-- Model choice: assumption 53. -/
def State.takeRefused (s : State) (m : Master) (p : Port) : State :=
  s.jotRaise m.num 0x09 1 0b101 p.num
    (linkData 0b101 (match s.link.active with
      | some q => portByte q
      | none => noPort) (portByte p) 0) (Ev.ofPort p Ev.portTakeRefused) 0xFF 0

/-- A write of LNK_CTL: AUTO, then TAKE or RESET; both at once are refused as a whole (R423) (assumption 53). -/
def State.lnkCtlWrite (s : State) (m : Master) (p : Port) (v : Byte) : State :=
  let w := 4 + p.num
  let take := v.getLsbD 0
  let rst := v.getLsbD 1
  if take && rst then s.jotWrite m w 0x04 [v] 1
  else
    let s := s.modPort p fun l => { l with auto := v.getLsbD 2 }
    if take && ! (s.port p).isReady then s.takeRefused m p
    else
      let s := s.jotWrite m w 0x04 [v] 0
      if take then s.takeGo p else if rst then s.lnkResetBy m p else s

/-- LNK_CTL with AUTO as it stands. -/
def State.lnkAuto (s : State) (p : Port) : Nat := if (s.port p).auto then 4 else 0

def execTake (m : Master) (p : Port) (s : State) : Out :=
  .next (s.byMaster m (4 + p.num) 0x04 (s.lnkCtlWrite m p (BitVec.ofNat 8 (1 + s.lnkAuto p))))

def execLnkReset (m : Master) (p : Port) (s : State) : Out :=
  .next (s.byMaster m (4 + p.num) 0x04 (s.lnkCtlWrite m p (BitVec.ofNat 8 (2 + s.lnkAuto p))))

/-! ## Writing samples (R269, R272, R279) -/

/-- A position of the stream buffers is written: some claimed slot holds a sample for it. -/
def State.positionWritten (s : State) (pos : BitVec 32) : Bool :=
  s.mapped.any fun e => if h : e.1 < 96 then (s.stm.slots[e.1]).raw.any (fun r => r.1 = pos) else false

/-- A position that the window has not read (R275). -/
def Streams.unread (t : Streams) (pos : BitVec 32) : Bool :=
  ! t.placed || Decidable.decide (0 < (pos - t.windowEnd).toInt)

/-- Write the samples of a position through the stream map; a slot beyond STREAMS gets none. The newest position
written moves forward alone (R279). -/
def State.writePosition (s : State) (pos : BitVec 32) (samples : List Int) : State :=
  let st := s.mapped.foldl (fun (t : Streams) e =>
    match samples[e.2]? with
    | some v =>
      if h : e.1 < 96 then
        let b := t.slots[e.1]
        { t with slots := t.slots.set e.1 { b with raw := (pos, v) :: b.raw.filter fun r => r.1 != pos } }
      else t
    | none => t) s.stm
  { s with stm := { st with
      newest := if st.placed && ! Decidable.decide (0 < (pos - st.newest).toInt) then st.newest else pos } }

/-- Mask of the slots that a stream count leaves without samples (R272). -/
def State.missingSlots (s : State) (streams : Nat) : List Nat :=
  (s.mapped.filter fun e => Decidable.decide (streams ≤ e.2)).map (·.1)

def slotMask (l : List Nat) : BitVec 96 := l.foldl (fun m i => m ||| (1#96 <<< i)) 0

/-! ## First activation and switches (R277 to R279) -/

/-- Shadow frames of a port, oldest first, whose positions are neither written nor read. -/
def State.shadowDue (s : State) (q : Port) : List (BitVec 32 × List Int) :=
  (s.port q).shadow.reverse.filter fun f => s.stm.unread f.1 && ! s.positionWritten f.1

/-- The running average of the difference of arrival, port B after port A, 1/1,024 tick (R80) (assumption 69). -/
def Link.arrMean (l : Link) : Rat := if l.arrCount = 0 then 0 else (l.arrSum : Rat) / (l.arrCount : Rat)

/-- What the phase detector has removed after a switch to a port (R80): that port's frames arrive later by the
average difference, or earlier. -/
def Link.removed (l : Link) (new : Port) : Rat :=
  match new with
  | .b => l.arrOffset + l.arrMean
  | .a => l.arrOffset - l.arrMean

/-- The newest position written: by a frame, or by the concealment of a position that the window has read (R273, R279,
Table 10-12). -/
def Streams.lastWritten (t : Streams) : BitVec 32 :=
  if t.placed && Decidable.decide (0 < (t.windowEnd - t.newest).toInt) then t.windowEnd else t.newest

/-- A port becomes active in place of another (R279) (assumption 53). -/
def State.switchTo (s : State) (old new : Port) (cause : BitVec 3) : State :=
  let first := s.stm.lastWritten + 1
  let s := { s with link := { s.link with
    active := some new, pendSwitch := none, dueSwitch := none, pendTake := none, silent := 0,
    arrOffset := s.link.removed new } }
  let s := s.modPort old fun l => { l with lastCause := cause, missing := 0 }
  let s := s.modPort new fun l => { l with switchCount := satInc l.switchCount }
  let s : State := (s.shadowDue new).foldl (fun s f => s.writePosition f.1 f.2) s
  let s := s.portLost old
  let q := s.jrn.nextSeq
  let s := s.jot 0x12 0x09 0 cause.toNat new.num (linkData cause.toNat (portByte old) (portByte new) first)
  let s := s.raise Ev.portSwitch new.num cause.toNat q
  let s := s.inputBack.reReference
  if (s.port new).rate = s.mtb.rate then s else s.syncTrigger 0x16 3

/-- A port becomes active when none was; no switch (R277) (assumption 53). -/
def execPortFirstActivation (p : Port) (s : State) : Out :=
  if s.link.active.isNone && (s.port p).isReady && (p = .a || ! (s.port .a).isReady) then
    let s := { s with link := { s.link with
      active := some p, pendSwitch := none, dueSwitch := none, pendTake := none, silent := 0 } }
    let s := s.jot 0x12 0x09 0 0 p.num (linkData 0 noPort (portByte p) ((s.port p).frame + 1))
    .next (s.inputBack.reReference.syncTrigger 0x16 4)
  else .next s

/-- A boundary with a TAKE or a pending switch (R278, R280) (assumption 15). -/
def execPortSwitch (s : State) : Out :=
  match s.link.active, s.link.pendTake, s.link.dueSwitch with
  | some o, some p, _ =>
    if p = o then .next { s with link := { s.link with pendTake := none } } else .next (s.switchTo o p 0b101)
  | some o, none, some c =>
    if (s.port o.other).isReady then .next (s.switchTo o o.other c)
    else .next { s with link := { s.link with dueSwitch := none, pendSwitch := some c } }
  | some o, none, none =>
    match s.link.pendSwitch with
    | some c =>
      if (s.port o).isReady then .next { s with link := { s.link with pendSwitch := none } }
      else if (s.port o.other).isReady then .next (s.switchTo o o.other c)
      else .next s
    | none => .next s
  | none, _, _ => .next s

/-! ## Loss of input (R281) -/

/-- No accepted frame on the active port for 192,000 ticks: the port's entry, and a QUIET whose source Table 13-4 puts with
the channel engine (R281, R344) (assumption 53). -/
def execInputLost (s : State) : Out :=
  match s.link.active with
  | some p =>
    if 192000 ≤ s.link.silent && ! s.link.inputLost then
      let s := { s with link := { s.link with inputLost := true } }
      let s := s.jotRaise 0x12 0x09 0 0 p.num (linkData 0 (portByte p) noPort 0) Ev.inputLost 0xFF 0
      .next (s.overChans (fun s n => (s.ch n).st.playing) fun s n => s.command (.block 0x10) .quiet n)
    else .next s
  | none => .next s

end Sys2Proof.Machine
end

