-- ==== Sys2Proof/Machine/Security.lean ====
section
/-! DEFINITION. Chapter Security and Trust: keeper boot, enrollment, sessions, attestation, DBG_LOCK, test
mode (R291 to R311), and the boot-cause entry of R334. -/

namespace Sys2Proof.Machine

/-! ## Boot (R291, R292, R334, R343) -/

/-- The journal starts once step 3 of the boot is done or the boot has stopped before it (R343). -/
def State.startJournal (s : State) (drbg : Bool) : State :=
  if s.jrn.started then s
  else if s.jrn.continued then { s with jrn := { s.jrn with started := true } }
  else
    let (d, s) := s.draw
    let n : BitVec 256 := if drbg then Config.drbg d else 0
    { s with jrn := { s.jrn with started := true, noNonce := ! drbg, nonce := n, chain := journalSeed n } }

/-- The KIND 0x0F entry of a boot (assumption 59). -/
def State.jotBoot (s : State) (out fail : Nat) : State :=
  s.jot 0 0x0F out fail 0xFF [BitVec.ofNat 8 fail, s.fuse.life.setWidth 8] (some (first16 Config.fwDigest))

/-- The boot is complete: UNBUILT, keeper-ready entry and event, then the boot-cause entry. -/
def State.bootOk (s : State) : State :=
  let s := s.startJournal true
  let s := { s with
    keeper := { s.keeper with
      ok := true, step := 7, signPub := Config.publicKey (idScalar "FL64 ID SIGN"),
      agreePub := Config.publicKey (idScalar "FL64 ID AGREE") },
    ram := Mem.writes s.ram 0 Config.firmware, mx := { s.mx with remap := true }, dev := { s.dev with state := .unbuilt } }
  let q := s.jrn.nextSeq
  let s := s.jotBoot 0 0
  let s := s.jot 0x14 0x0B 0 0 0xFF (s.supplyData 0)
  (s.jotDev 0 .boot .unbuilt 0).raise Ev.keeperReady 0xFF 0 q

/-- The boot stops: HALT with cause BOOT (R292). `step`: the last step completed; the firmware has been copied once
step 4 is under way. -/
def State.bootFails (s : State) (step fail : Nat) : State :=
  let s := s.startJournal (3 ≤ step)
  let s := { s with
    keeper := { s.keeper with step := BitVec.ofNat 3 step, fail := BitVec.ofNat 8 fail },
    ram := if 3 ≤ step then Mem.writes s.ram 0 Config.firmware else s.ram, mx := { s.mx with remap := 5 ≤ step } }
  let q := s.jrn.nextSeq
  let s := (s.jotBoot 1 fail).raise Ev.bootFailed 0xFF fail q
  s.enterHalt 0 .boot

/-- Model choice: assumption 10. -/
def execBootComplete (r : BootResult) (s : State) : Out :=
  if s.dev.held = .running && s.dev.state = .boot then
    match r with
    | .ok => .next s.bootOk
    | .fuse => .next (s.bootFails 1 1)
    | .selftest => .next (s.bootFails 2 2)
    | .firmware => .next (s.bootFails 3 3)
    | .identity => .next (s.bootFails 5 4)
  else .next s

/-- The keeper misses its watchdog or faults after the boot (R293) (assumption 59). -/
def execKeeperFailed (s : State) : Out :=
  if s.keeper.ok then
    let s := { s with keeper := { s.keeper with ok := false, failed := true } }
    .next (s.jotRaise 0x14 0x0A 0 secKeeper 0xFF (secData 0 0 s.rbCounter) Ev.keeperFailed 0xFF 0 (some 0))
  else .next s

/-- The DRBG fails its health tests after the boot (Table 11-13) (assumption 59). -/
def execDrbgHealthFailure (s : State) : Out :=
  if s.keeper.ok && ! s.keeper.rngFail then
    let s := { s with keeper := { s.keeper with rngFail := true } }
    .next (s.jotRaise 0 0x0A 0 secRng 0xFF (secData 0 0 s.rbCounter) Ev.rngFailed 0xFF 0 (some 0))
  else .next s

/-! ## Enrollment (R298, R299) -/

/-- The code with which ENROLL_ARM is refused (assumption 57). -/
def State.enrollBad (s : State) : Option Nat :=
  if s.keeper.failed then some secKeeper
  else if s.fuse.life != 0b01 || s.dev.state != .unbuilt || ! s.vauxRange || s.win.enrollOpen.isSome ||
      s.win.enrollCheck.isSome || ! s.keeper.ok then some secState
  else if s.keeper.rngFail then some secRng
  else none

/-- A write of ENROLL_ARM (assumption 57). -/
def State.enrollArm (s : State) (m : Master) : State :=
  match s.enrollBad with
  | some c => ({ s with win := { s.win with enrollOpen := none } }).secRefuse m.num c true
  | none =>
    let (d, s) := s.draw
    let s := { s with win := { s.win with
      enrollOpen := some m, enrollBuf := [], overflow := false, nonce := Config.drbg d } }
    s.jotWrite m 0x07 0x04 [0x01] 0

/-- A write of SEC_ENROLL_DATA (assumption 57). -/
def State.enrollData (s : State) (d : BitVec 32) : State :=
  if 196 < s.win.enrollBuf.length + 4 then { s with win := { s.win with overflow := true } }
  else { s with win := { s.win with enrollBuf := s.win.enrollBuf ++ leBytes 4 d.toNat } }

def execEnrollDataWrite (m : Master) (d : BitVec 32) (s : State) : Out :=
  if mayWrite m then .next (s.enrollData d) else .next (s.deny m 3 0x30000728 true)

/-- A write of ENROLL_GO (assumption 57). -/
def State.enrollGo (s : State) (m : Master) : State :=
  if s.keeper.failed then ({ s with win := { s.win with enrollOpen := none } }).secRefuse m.num secKeeper true
  else if s.win.enrollOpen != some m then s.secRefuse m.num secSequence true
  else
    let s := { s with win := { s.win with enrollOpen := none } }
    if s.win.overflow || s.win.enrollBuf.length < 196 then s.secRefuse m.num secFormat true
    else
      let s := { s with win := { s.win with enrollCheck := some (m, s.win.enrollBuf, s.win.nonce) } }
      s.jotWrite m 0x07 0x04 [0x02] 0

/-- The owner slots after programming and read-back: OWNER[0] where VAUX lay within its range as its write began, OWNER[1]
after it where VAUX does (R294, R298). -/
def Fuses.enroll (f : Fuses) (h : BitVec 384) (ok0 ok1 first second : Bool) : Fuses :=
  let f := if first then { f with owner0 := { used := true, valid := ok0, hash := h } } else f
  if ok0 || ! second then f else { f with owner1 := { used := true, valid := ok1, hash := h } }

/-- The check and the programming end. A keeper that has failed refuses (R293). Fuses are programmed only while VAUX lies
within its range; a write that VAUX interrupts leaves its slot used and not valid (R294) (assumption 57). -/
def execEnrollComplete (slot0Ok slot1Ok : Bool) (s : State) : Out :=
  match s.win.enrollCheck with
  | none => .next s
  | some (m, buf, nonce) =>
    let cut := s.keeper.vauxCut
    let s := { s with win := { s.win with enrollCheck := none }, keeper := { s.keeper with vauxCut := false } }
    if s.keeper.failed then .next (s.secRefuse m.num secKeeper true) else
    match enrollVerdict buf nonce with
    | .error c => .next (s.secRefuse m.num c true)
    | .ok h =>
      let ok0 := slot0Ok && s.vauxRange && ! cut
      let ok1 := slot1Ok && s.vauxRange
      let s := { s with fuse := s.fuse.enroll h ok0 ok1 (s.vauxRange || cut) s.vauxRange }
      if ok0 || ok1 then
        let s := (s.secLast m.num secOk).endSessions 5
        .next (s.jotRaise 0 0x0A 0 0 0xFF (secData 0 0 s.rbCounter) Ev.enrolled 0xFF 0 (some (first16 h)))
      else .next (s.secRefuse m.num secFuse true)

def execEnrollArm (m : Master) (s : State) : Out :=
  .next (s.byMaster m 0x07 0x04 (s.enrollArm m))

def execEnrollGo (m : Master) (s : State) : Out :=
  .next (s.byMaster m 0x07 0x04 (s.enrollGo m))

/-- Model choice: assumption 16. -/
def execEnrollWindowExpiry (s : State) : Out := .next { s with win := { s.win with enrollOpen := none } }

/-! ## DBG_LOCK (R308, R309) -/

/-- The port of a link mailbox master. -/
def mailboxPort : Master → Option Port
  | .m1 => some .a
  | .m2 => some .b
  | _ => none

/-- The conditions of R309 hold for a master (assumption 57). -/
def State.lockOk (s : State) (m : Master) : Bool :=
  (match mailboxPort m with
    | some p => (s.port p).session.isSome
    | none => false) &&
  s.vauxRange && s.ldr.phase = .idle && ! s.keeper.fuseBusy && ! s.keeper.lockBusy && s.win.enrollCheck.isNone

/-- A write of LOCK_ARM. -/
def State.lockArm (s : State) (m : Master) : State :=
  if s.keeper.failed then s.secRefuse m.num secKeeper true
  else if ! s.lockOk m then s.secRefuse m.num secState true
  else ({ s with win := { s.win with lockOpen := some m } }).jotWrite m 0x07 0x04 [0x04] 0

/-- A write of LOCK_GO: the paths close at once, then the keeper programs the bits. -/
def State.lockGo (s : State) (m : Master) : State :=
  if s.keeper.failed then s.secRefuse m.num secKeeper true
  else if ! s.lockOk m then s.secRefuse m.num secState true
  else if s.win.lockOpen != some m then s.secRefuse m.num secSequence true
  else
    let s := { s with
      win := { s.win with lockOpen := none }, keeper := { s.keeper with lockNow := true, lockBusy := true, lockBy := m },
      trc := s.trc.pinEnd }
    let s := s.jotWrite m 0x07 0x04 [0x08] 0
    s.jotRaise m.num 0x0A 0 0 0xFF (secData 0 0 s.rbCounter) Ev.debugLocked 0xFF 0 (some 0)

def execLockArm (m : Master) (s : State) : Out :=
  .next (s.byMaster m 0x07 0x04 (s.lockArm m))

def execLockGo (m : Master) (s : State) : Out :=
  .next (s.byMaster m 0x07 0x04 (s.lockGo m))

/-- Model choice: assumption 16. -/
def execLockWindowExpiry (s : State) : Out := .next { s with win := { s.win with lockOpen := none } }

/-- The three bits have been programmed, which they are only while VAUX lies within its range; `blown` of them read
blown, beside those that were (R294, R309). -/
def execDbgLockFuseComplete (blown : Fin 4) (s : State) : Out :=
  if s.keeper.lockBusy then
    let bits : BitVec 3 := if s.vauxRange || s.keeper.vauxCut then BitVec.ofNat 3 (2 ^ blown.val - 1) else 0
    let s := { s with
      fuse := { s.fuse with dbg := s.fuse.dbg ||| bits }, keeper := { s.keeper with lockBusy := false, vauxCut := false } }
    .next (s.secLast s.keeper.lockBy.num (if s.fuse.dbg = 7 then secOk else secFuse))
  else .next s

/-- A write of SEC_CTL; two triggers at once are refused as a whole (R423). -/
def State.secCtlWrite (s : State) (m : Master) (v : Byte) : State :=
  match v.toNat % 16 with
  | 0 => s.jotWrite m 0x07 0x04 [v] 0
  | 1 => s.enrollArm m
  | 2 => s.enrollGo m
  | 4 => s.lockArm m
  | 8 => s.lockGo m
  | _ => s.jotWrite m 0x07 0x04 [v] 1

/-! ## Test mode (R310) -/

/-- The test-access port takes its inputs and drives TST_TDO: DBG_LOCK is not in force (R308, R405) (assumption 87). -/
def State.tapOpen (s : State) : Bool := ! s.dbgLock

/-- The controller's next state by TST_TMS (IEEE 1149.1) (assumption 87). -/
def TapState.next : TapState → Bool → TapState
  | .testLogicReset, tms => if tms then .testLogicReset else .runTestIdle
  | .runTestIdle, tms => if tms then .selectDr else .runTestIdle
  | .selectDr, tms => if tms then .selectIr else .captureDr
  | .captureDr, tms => if tms then .exit1Dr else .shiftDr
  | .shiftDr, tms => if tms then .exit1Dr else .shiftDr
  | .exit1Dr, tms => if tms then .updateDr else .pauseDr
  | .pauseDr, tms => if tms then .exit2Dr else .pauseDr
  | .exit2Dr, tms => if tms then .updateDr else .shiftDr
  | .updateDr, tms => if tms then .selectDr else .runTestIdle
  | .selectIr, tms => if tms then .testLogicReset else .captureIr
  | .captureIr, tms => if tms then .exit1Ir else .shiftIr
  | .shiftIr, tms => if tms then .exit1Ir else .shiftIr
  | .exit1Ir, tms => if tms then .updateIr else .pauseIr
  | .pauseIr, tms => if tms then .exit2Ir else .pauseIr
  | .exit2Ir, tms => if tms then .updateIr else .shiftIr
  | .updateIr, tms => if tms then .selectDr else .runTestIdle

/-- What a rising edge of TST_TCK does in a state: capture and shift; the data register of BYPASS, whose bits are all 1, is one
bit that captures 0 (IEEE 1149.1) (assumption 87). -/
def Tap.onRise (t : Tap) (tdi : Bool) : Tap :=
  match t.state with
  | .captureIr => { t with reg := Config.tapIr }
  | .captureDr =>
    let inst := t.inst.getD Config.tapReset
    { t with reg := if inst.all id then [false] else Config.tapDr inst t.captures, captures := t.captures + 1 }
  | .shiftIr => { t with reg := t.reg.drop 1 ++ [tdi] }
  | .shiftDr => { t with reg := t.reg.drop 1 ++ [tdi] }
  | _ => t

/-- What a falling edge does: TST_TDO carries the bit that leaves the register in the two shift states and is at high impedance
in the others; Update-IR and Test-Logic-Reset select an instruction (R405) (assumption 87). -/
def Tap.onFall (t : Tap) : Tap :=
  match t.state with
  | .shiftIr => { t with tdo := t.reg.head? }
  | .shiftDr => { t with tdo := t.reg.head? }
  | .updateIr => { t with tdo := none, inst := some t.reg }
  | .testLogicReset => { t with tdo := none, inst := none }
  | _ => { t with tdo := none }

/-- An edge of TST_TCK. -/
def Tap.edge (t : Tap) : TapEdge → Tap
  | .rise tms tdi => { t.onRise tdi with state := t.state.next tms }
  | .fall => t.onFall

/-- The edges of a tick reach the port while the core die is powered and DBG_LOCK is not in force (R308, R405). -/
def State.tapTick (s : State) (l : List TapEdge) : State :=
  if s.tapOpen && (s.dev.held = .running || s.dev.held = .pin) then { s with tap := l.foldl Tap.edge s.tap } else s

/-- The level of TST_TDO, none at high impedance (R308, R405). -/
def State.tstTdo (s : State) : Option Bool := if s.tapOpen then s.tap.tdo else none

/-- An owned device enters test mode; with DBG_LOCK in force the test-access port is closed (R308). BOOT and HALT have
no row in Table 12-4: the device stays in them (R310, R322, R324) (assumption 57). -/
def execTestModeEntry (s : State) : Out :=
  if ! s.tapOpen || s.fuse.life != 0b10 || s.dev.held != .running then .next s
  else
    let s := { s with keeper := { s.keeper with testSeen := true } }
    let s := ((s.endSessions 6).cutLoad 6 codeAborted).cutPatch 6 codeAborted
    let stays := s.dev.state = .boot || s.dev.state = .halt || s.dev.state = .unbuilt
    let s := if stays then s.overChans (fun s n => s.used n && (s.ch n).st = .tripped &&
        (s.ch n).keep.tripCause.toNat != causeEngine) fun s n => s.moveTo 0x10 true n .off 0 else s
    let t := s.trcEnd.injEnd.dropBuild
    let t := if stays then t
      else ({ t with dev := { t.dev with state := .unbuilt, disarming := false } }).jotDev 0 s.dev.state .unbuilt 0
        (movedChans s t)
    .next (t.jotRaise 0 0x0A 0 0 0xFF (secData 0 0 t.rbCounter) Ev.testMode 0xFF 0 (some 0))

/-! ## Frame tags (R305) -/

/-- The 12-byte nonce. -/
def tagNonce (sigma : BitVec 16) (dir : Nat) (wrap counter : BitVec 32) : List Byte :=
  leBytes 2 sigma.toNat ++ [BitVec.ofNat 8 dir, 0] ++ leBytes 4 wrap.toNat ++ leBytes 4 counter.toNat

/-- GMAC truncated to its first 8 bytes. -/
def frameTag (x : Session) (dir : Nat) (wrap counter : BitVec 32) (aad : List Byte) : List Byte :=
  (beBytes 16 (Config.gmac x.key (tagNonce x.num dir wrap counter) aad).toNat).take 8

/-! ## Sessions (R302 to R304, R306) -/

/-- Bytes of Q_D. -/
def Exchange.qD (x : Exchange) : List Byte := beBytes 97 (Config.publicKey x.dD).toNat

/-- The START response (Table 11-8). -/
def startResponse (p : Port) (x : Exchange) : List Byte :=
  let nd := beBytes 32 x.nD.toNat
  let h := Config.sha384 (ascii "FL64 SESSION D" ++ serialBytes ++ [portCode p] ++ nd ++ x.qD)
  nd ++ x.qD ++ beBytes 96 (Config.ecdsaSign (idScalar "FL64 ID SIGN") h).toNat

/-- The bytes of an OFFER from its fragments, each stored at its index × 52 (assumption 56). -/
def Exchange.offer (x : Exchange) : List Byte :=
  x.frags.foldl (fun l f => overlay (l ++ List.replicate (52 * f.1 + f.2.length - l.length) 0) (52 * f.1) f.2) []

/-- What a verified OFFER gives: leaf key, RB_MAX of its certificate. -/
structure Leaf where
  key : List Byte
  rbMax : Option (BitVec 64)
  deriving DecidableEq, Repr

/-- H of R303. -/
def offerHash (p : Port) (x : Exchange) (b leaf : List Byte) : List Byte :=
  beBytes 48 (Config.sha384 (ascii "FL64 SESSION" ++ serialBytes ++ [portCode p] ++ beBytes 32 x.nD.toNat ++
    x.qD ++ slice b 4 32 ++ slice b 36 97 ++ leaf)).toNat

/-- Steps 3 and 4 of R303 without and with CHAIN. -/
def offerLeaf (f : Fuses) (rb : BitVec 64) (b : List Byte) (chain : Bool) : Except Nat Leaf :=
  let own := slice b 133 97
  let cert := slice b 230 368
  match f.owner with
  | none => .error secState
  | some h =>
    if Config.sha384 own != h then .error secChain
    else if ! chain then .ok { key := own, rbMax := none }
    else if slice cert 220 48 != beBytes 48 h.toNat || byteAt cert 5 != 0x02 ||
        (field cert 204 8 != 0 && field cert 204 8 != Config.serial.toNat) then .error secChain
    else if ! Config.ecdsaVerify own (Config.sha384 (slice cert 0 268)) (slice cert 268 96) then .error secSignature
    else
      let m := BitVec.ofNat 64 (field cert 212 8)
      if m < rb then .error secRevoked else .ok { key := slice cert 8 97, rbMax := some m }

/-- The reserved bytes of an OFFER and of the certificate in it are 0 (Tables 11-5, 11-9) (assumption 56). -/
def offerReserved (b : List Byte) (chain : Bool) : Bool :=
  let cert := slice b 230 368
  (slice b 1 3).all (· = 0) &&
    (! chain || (slice cert 6 2 ++ slice cert 202 2 ++ slice cert 364 4).all (· = 0))

/-- The checks of R303 in order (assumption 56). -/
def checkOffer (f : Fuses) (rb : BitVec 64) (p : Port) (x : Exchange) : Except Nat Leaf :=
  let b := x.offer
  let flags := byteAt b 0
  let chain := flags.getLsbD 0
  let bench := flags.getLsbD 1
  let len := if bench then 133 else if chain then 694 else 326
  let whole := x.frags.length = x.cnt && (x.frags.all fun g => g.1 + 1 = x.cnt || g.2.length = 52)
  if ! whole || b.length != len || (bench && chain) || 4 ≤ flags.toNat || ! offerReserved b chain then
    .error secFormat
  else if ! Config.pointValid (slice b 36 97) then .error secPoint
  else if bench = f.owner.isSome then .error secState
  else if bench then .ok { key := [], rbMax := none }
  else
    match offerLeaf f rb b chain with
    | .error e => .error e
    | .ok l =>
      let sig := slice b (if chain then 598 else 230) 96
      if Config.ecdsaVerify l.key (BitVec.ofNat 384 (beNat (offerHash p x b l.key))) sig then .ok l
      else .error secSignature

/-- The session number after a counter: the next value, 0 skipped. -/
def nextSigma (c : BitVec 16) : BitVec 16 := if c = 0xFFFF then 1 else c + 1

/-- The session that a verified OFFER gives (R303). -/
def newSession (p : Port) (x : Exchange) (l : Leaf) (sigma : BitVec 16) : Session :=
  let b := x.offer
  let h := offerHash p x b l.key
  let z := beBytes 48 (Config.ecdhX x.dD (slice b 36 97)).toNat
  let k := Config.hkdf32 z (beBytes 32 x.nD.toNat ++ slice b 4 32) (h ++ leBytes 2 sigma.toNat)
  { num := sigma, key := k, rbMax := l.rbMax,
    leaf16 := if l.key.isEmpty then 0 else first16 (Config.sha384 l.key),
    confirm := Config.gmac k (tagNonce sigma 0x02 0 0) h, wrapDown := 0, wrapUp := 0, newest := none, frames := 0 }

/-- Change the exchange of a port. -/
def State.modEx (s : State) (p : Port) (f : Exchange → Exchange) : State :=
  s.modPort p fun l => { l with ex := f l.ex }

/-- The keeper has formed the START response. -/
def execSessionStartReady (p : Port) (s : State) : Out :=
  let x := (s.port p).ex
  if x.phase = .startPending && s.keeper.ok then
    .next (s.modEx p fun x => { x with phase := .startReady, response := startResponse p x, code := 0 })
  else .next s

/-- The keeper has checked the OFFER: a pending session, in force at once on a port without one, or a
refusal that keeps any session in force. -/
def execSessionVerifyComplete (p : Port) (s : State) : Out :=
  let x := (s.port p).ex
  if x.phase = .verifying && s.keeper.ok then
    match checkOffer s.fuse s.rbCounter p x with
    | .error c =>
      let s := s.modEx p fun x => { x with phase := .done, code := BitVec.ofNat 8 c, dD := 0 }
      .next (s.secRefuse p.master.num c true (portCode p) (s.port p).sigma)
    | .ok l =>
      let sigma := nextSigma (s.port p).counter
      let y := newSession p x l sigma
      let s := s.modEx p fun x => { x with phase := .done, code := 0, dD := 0, num := y.num, confirm := y.confirm }
      let s := (s.modPort p fun l => { l with counter := sigma, pendSess := some y }).secLast p.master.num secOk
      .next (if (s.port p).session.isNone then s.establish p y else s)
  else .next s

/-- 10 s without a cutover (R304) (assumption 16). -/
def execSessionLapse (p : Port) (s : State) : Out := .next (s.modPort p fun l => { l with pendSess := none })

/-- 2³² frames accepted under the session (R306). -/
def execSessionFrameLimit (p : Port) (s : State) : Out :=
  match (s.port p).session with
  | some x => if 4294967296 ≤ x.frames then .next ((s.endSession p 7).promote p) else .next s
  | none => .next s

/-- What a session message answers: result word and DATA. -/
structure SessAns where
  code : Nat
  count : Nat := 0
  num : BitVec 16 := 0
  data : List Byte := []
  deriving DecidableEq, Repr

/-- Response ARG (R302). -/
def SessAns.arg (a : SessAns) : BitVec 32 := BitVec.ofNat 32 (a.code + 256 * a.count + 65536 * a.num.toNat)

/-- A message out of order. -/
def State.sessBad (s : State) (p : Port) (code : Nat) : State × SessAns :=
  (s.secRefuse p.master.num code false, { code := code })

/-- START. -/
def State.sessStart (s : State) (p : Port) : State × SessAns :=
  if s.keeper.rngFail then
    (s.secRefuse p.master.num secRng true (portCode p) (s.port p).sigma, { code := secRng })
  else
    let (d, s) := s.draw
    let (e, s) := s.draw
    let x : Exchange := { Exchange.reset with
      phase := .startPending, nD := Config.drbg d, dD := Config.drbgScalar e, code := BitVec.ofNat 8 secPending }
    (s.modPort p fun l => { l with ex := x, pendSess := none }, { code := secPending })

/-- OFFER: one fragment; the last one starts the verification (assumption 56). -/
def State.sessOffer (s : State) (p : Port) (idx cnt : Nat) (data : List Byte) : State × SessAns :=
  let x := (s.port p).ex
  if x.phase != .startReady then s.sessBad p secSequence
  else if cnt ≤ idx || 1024 < 52 * idx + data.length || (x.cnt != 0 && x.cnt != cnt) then s.sessBad p secFormat
  else
    let last := idx + 1 = cnt
    let s := s.modEx p fun x => { x with
      cnt := cnt, frags := (x.frags.filter fun g => g.1 != idx) ++ [(idx, data)],
      phase := if last then .verifying else x.phase, code := if last then BitVec.ofNat 8 secPending else x.code }
    (s, { code := if last then secPending else secOk })

/-- READ: fragment of the START response (assumption 56). -/
def State.sessRead (s : State) (p : Port) (idx : Nat) : State × SessAns :=
  let x := (s.port p).ex
  if x.response.isEmpty then s.sessBad p secSequence
  else if 5 ≤ idx then s.sessBad p secFormat
  else (s, { code := secOk, count := 5, data := (x.response.drop (52 * idx)).take 52 })

/-- STATUS: the result of the exchange, whatever has become of its session since. -/
def State.sessStatus (s : State) (p : Port) : State × SessAns :=
  let x := (s.port p).ex
  match x.phase with
  | .none => s.sessBad p secSequence
  | .startReady => (s, { code := secOk, count := 5 })
  | .done =>
    if x.code = 0 then (s, { code := secOk, num := x.num, data := beBytes 16 x.confirm.toNat })
    else (s, { code := x.code.toNat })
  | _ => (s, { code := secPending })

/-- END: the session in force and any pending one. -/
def State.sessEnd (s : State) (p : Port) : State × SessAns :=
  ((s.endSession p 1).modPort p fun l => { l with pendSess := none, ex := .reset }, { code := secOk })

/-- A session message of a mailbox request (R302): STATE before the boot has completed or in HALT with cause
BOOT, KEEPER after a keeper failure (assumption 56). -/
def State.session (s : State) (p : Port) (arg : BitVec 32) (data : List Byte) : State × SessAns :=
  let idx := arg.toNat / 256 % 256
  let cnt := arg.toNat / 65536 % 256
  if s.keeper.failed then
    (s.secRefuse p.master.num secKeeper true (portCode p) (s.port p).sigma, { code := secKeeper })
  else if ! s.keeper.ok then (s, { code := secState })
  else
    match arg.toNat % 256 with
    | 1 => s.sessStart p
    | 2 => s.sessOffer p idx cnt data
    | 3 => s.sessRead p idx
    | 4 => s.sessStatus p
    | 5 => s.sessEnd p
    | _ => s.sessBad p secFormat

/-! ## Attestation (R307) -/

/-- An ATTEST request: the result code, which SEC_LAST takes. The request is never journalled, a refused one neither
(R293, R307, R311, R346) (assumption 57). -/
def State.attestReq (s : State) (p : Port) (data : List Byte) : State × Nat :=
  let m := p.master.num
  if ! s.keeper.ok then (s.secRefuse m secKeeper false, secKeeper)
  else if s.jrn.failed then (s.secLast m secJournal, secJournal)
  else if (s.port p).attest.isSome || ! (s.port p).attestQ.isEmpty then (s.secLast m secBusy, secBusy)
  else
    ((s.secLast m secOk).modPort p fun l => { l with attest := some (BitVec.ofNat 256 (beNat (slice data 0 32))) }, secOk)

/-- All 48 rollback slots are used (R301). -/
def Fuses.rbFull (f : Fuses) : Bool := f.rb.all (·.used)

/-- BUILD_ID, BUILD_DIGEST and ROLLBACK of the build in force; zero with none. -/
def State.buildId (s : State) : BitVec 128 := match s.bld.build with
  | some b => b.id
  | none => 0

def State.buildDigest (s : State) : BitVec 384 := match s.bld.build with
  | some b => b.digest
  | none => 0

def State.buildRb (s : State) : BitVec 64 := match s.bld.build with
  | some b => b.rollback
  | none => 0

/-- The build in force is a bench build. -/
def State.benchBuild (s : State) : Bool := match s.bld.build with
  | some b => b.bench
  | none => false

/-- Bytes 0 to 351 of the report (Table 11-11). -/
def State.attestBody (s : State) (p : Port) (nonce : BitVec 256) : List Byte :=
  let flags := s.dbgLock.toNat + 2 * s.bld.build.isSome.toNat + 4 * s.benchBuild.toNat + 8 * s.fuse.rbFull.toNat +
    16 * s.keeper.testSeen.toNat
  let head := match s.jrn.ents with
    | e :: _ => slice e.2 0 64
    | [] => List.replicate 64 0
  [0x46, 0x4C, 0x41, 0x54, 0x01, s.fuse.life.setWidth 8, BitVec.ofNat 8 flags, portCode p] ++ serialBytes ++
    beBytes 32 nonce.toNat ++ leBytes 4 (s.port p).frame.toNat ++ leBytes 4 s.bld.patchSeq.toNat ++
    leBytes 8 s.rbCounter.toNat ++ leBytes 8 s.buildRb.toNat ++ List.replicate 8 0 ++ beBytes 16 s.buildId.toNat ++
    beBytes 48 s.buildDigest.toNat ++ beBytes 48 Config.fwDigest.toNat ++ beBytes 48 Config.certDigest.toNat ++
    beBytes 48 (s.fuse.owner.getD 0).toNat ++ head

/-- The signed report is complete; a keeper that has failed since the request refuses it (R293) (assumption 57). -/
def execAttestReportReady (p : Port) (s : State) : Out :=
  match (s.port p).attest with
  | some n =>
    if s.keeper.failed then
      .next ((s.modPort p fun l => { l with attest := none }).secRefuse p.master.num secKeeper false) else
    let b := s.attestBody p n
    let r := b ++ beBytes 96 (Config.ecdsaSign (idScalar "FL64 ID SIGN") (Config.sha384 b)).toNat
    .next (s.modPort p fun l => { l with attest := none, attestQ := [r] })
  | none => .next s

end Sys2Proof.Machine
end

