-- ==== Sys2Proof/Machine/TraceOps.lean ====
section
/-! DEFINITION. Chapter Tuning with Hollyhock Trace: runs, triggers, readouts, the pin stream, injection and
capture (R367 to R378). -/

namespace Sys2Proof.Machine

/-! ## Buffers -/

/-- EN of a slot register (Table 15-3). -/
def slotOn (w : BitVec 16) : Bool := w.getLsbD 6

/-- Channel and probe of a slot register. -/
def slotChan (w : BitVec 16) : Chan := ⟨w.toNat % 64, Nat.mod_lt _ (by decide)⟩

def slotProbe (w : BitVec 16) : Nat := w.toNat / 256 % 32

/-- Sample of a slot at an index, index 0 the oldest (R371). -/
def TrcBuf.sample (b : TrcBuf) (slot idx : Nat) : BitVec 32 :=
  if b.count ≤ idx then 0 else (b.data.getD (b.count - 1 - idx) []).getD slot 0

/-- The slots that a buffer's run recorded. -/
def TrcBuf.slotsOn (b : TrcBuf) : List Nat := (List.range 16).filter fun i => slotOn (b.slots.getD i 0)

/-- Affected words of a buffer once its oldest samples have gone (R370). -/
def shiftBad (gone : Nat) (l : List (Nat × Nat)) : List (Nat × Nat) :=
  l.filterMap fun w => if w.2 < gone then none else some (w.1, w.2 - gone)

/-- The buffer that an ARM chooses (R367). -/
def State.nextTarget (s : State) : Bool :=
  match s.ram6.lastDone with
  | some b => ! b
  | none => false

/-- A buffer is being read out, by a link port or on the pins. -/
def State.readingOut (s : State) (b : Bool) : Bool :=
  (match s.portA.trcRead with
    | some r => r.buf = b
    | none => false) ||
  (match s.portB.trcRead with
    | some r => r.buf = b
    | none => false) ||
  (s.trc.pinBusy && s.trc.pinFrom = b)

/-! ## TRC_CTL (R367, R369 to R371, R373) -/

def State.cfgRefuse (s : State) : State := { s with trc := { s.trc with cfgRefused := true } }

/-- A write of ARM; refused too once a failure has removed the trace (R39, R367) (assumption 61). -/
def State.trcArm (s : State) (m : Master) : State :=
  if s.dev.gone.contains .trace || s.trc.state != .idle || ! (s.trc.slots.toList.any slotOn) || s.readingOut s.nextTarget then s.cfgRefuse
  else ({ s with trc := { s.trc with armPending := true } }).jotWrite m 0x0A 0x04 [0x01] 0

/-- The boundary after an accepted ARM. -/
def execTraceRunStart (s : State) : Out :=
  if s.trc.armPending && s.trc.state = .idle then
    let b := s.nextTarget
    let run := s.ram6.lastRun + 1
    let buf : TrcBuf := { TrcBuf.reset with
      run := run, decim := s.trc.decim, mean := s.trc.mean, slots := s.trc.slots.toList }
    .next { s with
      ram6 := { s.ram6.setBuf b buf with lastRun := run },
      trc := { s.trc with
        state := .armed, target := b, armPending := false, manualTrig := false, evtHit := false, frameHit := false,
        thrHit := false, trigLate := false, thrLast := none, accSums := [], accCount := 0, left := 0 } }
  else .next s

def State.trcTrig (s : State) (m : Master) : State :=
  let s := if s.trc.state = .armed then { s with trc := { s.trc with manualTrig := true } } else s
  s.jotWrite m 0x0A 0x04 [0x02] 0

/-- TRIG_SRC of the lowest condition that holds, 0 for none (R369) (assumption 61). -/
def Trc.trigger (t : Trc) : Nat :=
  if t.manualTrig then 1 else if t.evtEn && t.evtHit then 2 else if t.thrEn && t.thrHit then 3
  else if t.frameEn && t.frameHit then 4 else 0

/-- An enabled trigger condition holds in ARMED (assumption 61). -/
def execTraceTrigger (s : State) : Out :=
  let src := s.trc.trigger
  if s.trc.state = .armed && src != 0 then
    let pre := s.trc.pre.toNat
    let b := s.ram6.buf s.trc.target
    let own := if s.trc.trigLate then 1 else 0
    let pos := min pre (b.count - own)
    let keep := pos + own
    let b := { b with
      trigPos := BitVec.ofNat 32 pos, count := keep, data := b.data.take keep,
      badWords := shiftBad (b.count - keep) b.badWords,
      tick0 := b.tick0 + BitVec.ofNat 32 ((b.count - keep) * 2 ^ b.decim.toNat), trigFrame := s.activeFrame,
      trigSrc := BitVec.ofNat 3 src }
    let s := { s with
      ram6 := s.ram6.setBuf s.trc.target b,
      trc := { s.trc with state := .triggered, left := 65536 - pre - own, manualTrig := false, trigLate := false } }
    .next (s.raise Ev.traceTrigger 0xFF 0)
  else .next s

/-- The last post-trigger sample has been recorded (assumption 15). -/
def execTraceComplete (s : State) : Out :=
  if s.trc.state = .triggered && s.trc.left = 0 then
    let b := { s.ram6.buf s.trc.target with complete := true }
    let s := { s with
      ram6 := { s.ram6.setBuf s.trc.target b with lastDone := some s.trc.target }, trc := { s.trc with state := .idle } }
    .next (s.raise Ev.traceComplete 0xFF 0)
  else .next s

def State.trcStop (s : State) (m : Master) : State := s.trcEnd.jotWrite m 0x0A 0x04 [0x04] 0

/-! ## Blocks (R372, R373, Table 15-2) -/

/-- A trace block of n samples from an index. -/
def traceBlock (b : TrcBuf) (second : Bool) (slot first n stop : Nat) : List Byte :=
  let bad := b.badWords.any fun w => w.1 = slot && first ≤ w.2 && w.2 < first + n
  let flags := bad.toNat + 2 * (Decidable.decide (stop ≤ first + n)).toNat
  [if second then 1 else 0, BitVec.ofNat 8 slot] ++ leBytes 2 n ++ leBytes 4 first ++ leBytes 4 b.run.toNat ++
    [BitVec.ofNat 8 flags, 0, 0, 0] ++ (List.range n).flatMap fun i => leBytes 4 (b.sample slot (first + i)).toNat

/-- A TRACE request: blocks that follow and code (R372). -/
def State.traceReq (s : State) (p : Port) (data : List Byte) : State × BitVec 32 :=
  let ans (code : Nat) : BitVec 32 := BitVec.ofNat 32 (65536 * code)
  let which := byteAt data 0
  let mask := field data 2 2
  let first := field data 4 4
  let want := field data 8 4
  if 1 < which.toNat then (s, ans 3)
  else
    let second := which = 1
    let b := s.ram6.buf second
    let slots := b.slotsOn.filter fun i => mask.testBit i
    if b.run = 0 then (s, ans 1)
    else if s.trc.state != .idle && s.trc.target = second then (s, ans 2)
    else if slots.isEmpty || b.count ≤ first then (s, ans 3)
    else
      let stop := if want = 0 then b.count else min b.count (first + want)
      let r : TraceRead := { buf := second, slots := slots, first := first, next := first, stop := stop }
      (s.modPort p fun l => { l with trcRead := some r },
        BitVec.ofNat 32 (slots.length * ((stop - first + 251) / 252) % 65536))

/-- The next block of a readout, and the readout after it. -/
def nextBlock (m : TrcRam) (r : TraceRead) : Option (List Byte × Option TraceRead) :=
  match r.slots with
  | [] => none
  | i :: rest =>
    let n := min 252 (r.stop - r.next)
    let blk := traceBlock (m.buf r.buf) r.buf i r.next n r.stop
    let r' := if r.stop ≤ r.next + n then { r with slots := rest, next := r.first } else { r with next := r.next + n }
    some (blk, if r'.slots.isEmpty then none else some r')

/-- Nibbles of bytes, the low one first (assumption 67). -/
def nibbles (l : List Byte) : List (BitVec 4) := l.flatMap fun (b : Byte) => [b.setWidth 4, (b >>> 4).setWidth 4]

/-- What the pins carry of a block: its two leading bytes, the block and its CRC (R373) (assumption 67). -/
def pinNibbles (blk : List Byte) : List (BitVec 4) := nibbles ([0x5A, 0xA5] ++ blk ++ leBytes 4 (crc32 blk).toNat)

/-- The blocks that PIN_GO streams of a buffer: every enabled slot, in the block order of R372. -/
def TrcBuf.pinRead (b : TrcBuf) (second : Bool) : Option TraceRead :=
  if b.slotsOn.isEmpty || b.count = 0 then none
  else some { buf := second, slots := b.slotsOn, first := 0, next := 0, stop := b.count }

/-- A write of PIN_GO (R39, R373) (assumption 61). -/
def State.pinGo (s : State) (m : Master) : State :=
  let b := s.trc.pinBuf
  if s.dev.gone.contains .trace || s.dbgLock || (s.trc.state != .idle && s.trc.target = b) || s.trc.pinBusy then s.cfgRefuse
  else
    let (d, s) := s.draw
    ({ s with trc := { s.trc with
      pinBusy := true, pinFrom := b, pinRead := (s.ram6.buf b).pinRead b, pinWait := 0,
      pinGap := 1 + (Config.freeBits 4 d).toNat, pinSent := 0, pinData := [] } }).jotWrite m 0x0A 0x04 [0x08] 0

def State.pinStop (s : State) (m : Master) : State :=
  ({ s with trc := s.trc.pinEnd }).jotWrite m 0x0A 0x04 [0x10] 0

/-- The low nibble of FLAGS among the nibbles of a block on the pins: up to it the block shows the errors of the trace RAM
that come while it is sent (R370). -/
def flagsNibble : Nat := 28

/-- The next nibble on the pins: 0x0 between blocks, else that of the block being sent, and the end after the last block (R373)
(assumption 67). -/
def Trc.pinStep (t : Trc) (m : TrcRam) : Trc :=
  match t.pinWait, t.pinRead.bind (nextBlock m) with
  | w + 1, _ => { t with pinWait := w, pinOut := 0 }
  | 0, none => t.pinEnd
  | 0, some (blk, rest) =>
    match if t.pinSent ≤ flagsNibble then (pinNibbles blk).drop t.pinSent else t.pinData with
    | [] => t.pinEnd
    | [n] => { t with pinOut := n, pinRead := rest, pinWait := if rest.isSome then t.pinGap else 0, pinSent := 0, pinData := [] }
    | n :: l => { t with pinOut := n, pinSent := t.pinSent + 1, pinData := l }

/-- A rising edge of TRC_CLK; without VIO the pin is ignored (R313). -/
def execTrcClkEdge (s : State) : Out :=
  if s.trc.pinBusy && ! s.dbgLock && s.pwr.vioOk then .next { s with trc := s.trc.pinStep s.ram6 } else .next s

/-- A write of TRC_CTL; more than one bit is refused as a whole (R371). -/
def State.trcCtlWrite (s : State) (m : Master) (v : Byte) : State :=
  match v.toNat % 32 with
  | 0 => s.jotWrite m 0x0A 0x04 [v] 0
  | 1 => s.trcArm m
  | 2 => s.trcTrig m
  | 4 => s.trcStop m
  | 8 => s.pinGo m
  | 16 => s.pinStop m
  | _ => s.cfgRefuse

def execTrcArm (m : Master) (s : State) : Out :=
  .next (s.byMaster m 0x0A 0x04 (s.trcArm m))

def execTrcTrig (m : Master) (s : State) : Out :=
  .next (s.byMaster m 0x0A 0x04 (s.trcTrig m))

def execTrcStop (m : Master) (s : State) : Out :=
  .next (s.byMaster m 0x0A 0x04 (s.trcStop m))

def execPinGo (m : Master) (s : State) : Out :=
  .next (s.byMaster m 0x0A 0x04 (s.pinGo m))

def execPinStop (m : Master) (s : State) : Out :=
  .next (s.byMaster m 0x0A 0x04 (s.pinStop m))

/-! ## Injection (R374 to R376) -/

/-- The channel that FLX_CFG names. -/
def Flx.chan (f : Flx) : Chan := ⟨f.ch.toNat, f.ch.isLt⟩

/-- REASON of a refused INJ_GO, 0 when it is accepted. -/
def State.injBad (s : State) : Nat :=
  let n := s.flx.chan
  let st := (s.ch n).st
  if s.dbgLock then 3
  else if ! s.used n then 6
  else if s.flx.injOn then 5
  else if (s.dev.state != .armed && s.dev.state != .run) || ! (st = .quiet || st.playing) || s.muted ||
      (s.ch n).ident.running || s.flx.signal = 3 then 1
  else if s.swp.joined && s.twinned n && ! inMask s.swp.solo n then 2
  else if s.flx.point = 3 && s.flx.level.toNat < 40 then 4
  else 0

/-- The four noise generators at the start of an injection. -/
def noiseStart (d : Nat) : List (BitVec 31) := (List.range 4).map fun i => Config.noiseSeed i d

/-- Model choice: assumption 62. -/
def State.injGo (s : State) (m : Master) : State :=
  let r := s.injBad
  if r != 0 then
    let s := { s with flx := { s.flx with refused := true, reason := BitVec.ofNat 4 r } }
    let q := s.jrn.nextSeq
    let s := s.jot m.num 0x01 1 r s.flx.chan.val [0x0B, 0x04, 1, 0x01] (some (regDigest 0x0B 0x04 [0x01]))
    if r = 3 then s.raise Ev.injectionLocked 0xFF 0 q else s
  else
    let (d, s) := s.draw
    let f := s.flx
    let order := f.mlsOrder.toNat
    let f := { f with
      injOn := true, injCh := f.chan, injPoint := f.point, injSignal := f.signal, injOrder := order,
      injLevel := f.level.toNat, injFreq := f32 f.freq, injT := 0, injFade := none,
      mls := BitVec.ofNat 16 (2 ^ order - 1), noise := noiseStart d }
    ({ s with flx := f }).jotWrite m 0x0B 0x04 [0x01] 0

def execInjGo (m : Master) (s : State) : Out :=
  .next (s.byMaster m 0x0B 0x04 (s.injGo m))

def execInjStop (m : Master) (s : State) : Out :=
  .next (s.byMaster m 0x0B 0x04 s.injFadeOut)

/-! ## Capture (R377) -/

def State.capGo (s : State) : State :=
  if s.flx.capRun || s.flx.capWait then { s with flx := { s.flx with refused := true, reason := 5 } }
  else { s with flx := { s.flx with capWait := true, capCh := s.flx.chan } }

def execCapGo (m : Master) (s : State) : Out :=
  .next (s.byMaster m 0x0B 0x04 s.capGo)

/-- A capture may start in the coming tick: at once, or when the MLS sequence restarts. -/
def Flx.capDue (f : Flx) : Bool :=
  ! (f.capSync && f.injOn && f.injSignal = 2) || f.injT % (2 ^ f.injOrder - 1) = 0

def execCaptureStart (s : State) : Out :=
  if s.flx.capWait && s.flx.capDue then
    .next { s with
      flx := { s.flx with capWait := false, capRun := true, capCount := 0 },
      ram6 := { s.ram6 with capA := [], capB := [] } }
  else .next s

def execCaptureComplete (s : State) : Out :=
  if s.flx.capRun && 8192 ≤ s.flx.capCount then
    .next (({ s with flx := { s.flx with capRun := false, capDone := true } }).raise Ev.captureComplete 0xFF 0)
  else .next s

/-- The sample at FLX_CAP_IDX: 0 to 8,191 of CAP_A, then those of CAP_B. -/
def State.capSample (s : State) : BitVec 32 :=
  let i := s.flx.capIdx.toNat
  let l := if i < 8192 then s.ram6.capA else s.ram6.capB
  let j := i % 8192
  if l.length ≤ j then 0 else l.getD (l.length - 1 - j) 0

/-- A read of FLX_CAP_DATA advances the index. -/
def State.capAdvance (s : State) : State := { s with flx := { s.flx with capIdx := s.flx.capIdx + 1 } }

/-- Masters that Table 1-7 lets read the register space. -/
def mayRead (m : Master) : Bool := m != .m6

def execFlxCapDataRead (m : Master) (s : State) : Out :=
  if mayRead m then .next s.capAdvance else .next (s.deny m 3 0x30000B1C false)

/-- A write of FLX_CTL; two triggers at once are refused as a whole (R423). -/
def State.flxCtlWrite (s : State) (m : Master) (v : Byte) : State :=
  match v.toNat % 8 with
  | 0 => s
  | 1 => s.injGo m
  | 2 => s.injFadeOut
  | 4 => s.capGo
  | _ => s.jotWrite m 0x0B 0x04 [v] 1

end Sys2Proof.Machine
end

