-- ==== Sys2Proof/Machine/EventCmd.lean ====
section
/-! DEFINITION. Chapter Events, Alerts and the Journal, and the coefficient peek of chapter Register Map:
flag clears, masks, the writing of entries, the banked journal reads, COEF_SEL and the capture of a page
(R337, R339, R342 to R350, R362, R388 to R391). -/

namespace Sys2Proof.Machine

/-! ## Flags and masks -/

/-- Clear the flags of a mask; a flag raised in the running tick stays set (R337). -/
def State.clearFlags (s : State) (mask : BitVec 256) : State :=
  { s with evt := { s.evt with flags := s.evt.flags &&& ~~~ (mask &&& ~~~ s.evt.raised) } }

/-- Byte g of a 256-bit map. -/
def groupByte (m : BitVec 256) (g : Nat) : Byte := (m >>> (8 * g)).setWidth 8

/-- Replace byte g of a 256-bit map. -/
def setGroup (m : BitVec 256) (g : Nat) (v : Byte) : BitVec 256 :=
  (m &&& ~~~ (0xFF#256 <<< (8 * g))) ||| (v.setWidth 256 <<< (8 * g))

/-- A host write of one mask byte, journalled (R339, R346). -/
def State.maskWrite (s : State) (m : Master) (upstream : Bool) (g : Fin 32) (v : Byte) : State :=
  let s := if upstream then { s with evt := { s.evt with umask := setGroup s.evt.umask g.val v } }
    else s.loadAmask (setGroup s.evt.amask g.val v)
  s.jotWrite m 0x02 ((if upstream then 0x60 else 0x40) + g.val) [v] 0

def execClrAll (m : Master) (s : State) : Out :=
  if mayWrite m then .next (s.clearFlags (BitVec.allOnes 256)) else .next (s.denyReg m 0x02 0x0C)

def execEvtMaskWrite (m : Master) (upstream : Bool) (g : Fin 32) (v : Byte) (s : State) : Out :=
  if mayWrite m then .next (s.maskWrite m upstream g v)
  else .next (s.denyReg m 0x02 ((if upstream then 0x60 else 0x40) + g.val))

/-! ## Journal -/

/-- The journal logic writes one waiting entry. -/
def execJournalEntryWrite (s : State) : Out := .next s.jrnWriteOne

/-- SEQ of the oldest entry held; with none held, of the next entry. -/
def Journal.oldest (j : Journal) : BitVec 64 :=
  match j.ents.getLast? with
  | some e => e.1
  | none => j.next

/-- An entry held, by its SEQ. -/
def Journal.entry (j : Journal) (seq : BitVec 64) : Option (List Byte) :=
  (j.ents.find? fun e => e.1 = seq).map (·.2)

/-- What a write of JRN_RD_SEQ loads (R350): outcome and entry. -/
def Journal.lookup (j : Journal) (seq : BitVec 64) : BitVec 2 × List Byte :=
  if j.failed then (3, [])
  else
    match j.entry seq with
    | some e => (0, e)
    | none => (if seq < j.next then 1 else 2, [])

def State.rdSeqWrite (s : State) (m : Master) (seq : BitVec 64) : State :=
  let r := s.jrn.lookup seq
  s.setBank m { s.bank m with rdSeq := seq, rdStat := r.1, rdEntry := r.2 }

def execJrnRdSeqWrite (m : Master) (seq : BitVec 64) (s : State) : Out :=
  if mayWrite m then .next (s.rdSeqWrite m seq) else .next (s.denyReg m 0x03 0x20)

/-! ## Coefficient peek (R388 to R391) -/

/-- The fields of COEF_SEL that exist (Table 16-21). -/
def selMask : BitVec 32 := 0x0FFF0F7F

/-- Bytes of COEF_SEL change; the whole register loads the page at its last byte (R388, R389) (assumption 63). -/
def State.coefSel (s : State) (q : Fin 16) (v : BitVec 32) (whole : Bool) : State :=
  let c := s.coef[q]
  let c := { c with sel := v &&& selMask }
  let c := if whole then { c with asked := c.sel, state := .loading, code := 0, count := 0, words := [] } else c
  { s with coef := s.coef.set q.val c }

def execCoefSelWrite (m : Master) (q : Fin 16) (v : BitVec 32) (s : State) : Out :=
  if mayWrite m then .next (s.coefSel q v true) else .next (s.denyReg m (0x60 + q.val) 0x04)

/-- The page of a loading context is captured at a boundary (R389, R391). -/
def execCoefPageCapture (q : Fin 16) (s : State) : Out :=
  let c := s.coef[q]
  if c.state = .loading then
    let c := { c with tick := BitVec.ofNat 32 s.dev.tick }
    let c := match s.page c.asked with
      | .ok (n, w) => { c with state := .valid, code := 0, count := BitVec.ofNat 8 n, words := w }
      | .error e => { c with state := .error, code := e, count := 0, words := [] }
    .next { s with coef := s.coef.set q.val c }
  else .next s

end Sys2Proof.Machine
end

