-- ==== Sys2Proof/Machine/RegRead.lean ====
section
/-! DEFINITION. Reading: the register windows of chapter Register Map, field by field, and the other
targets of the bus matrix (R6, R8, R9, R32 to R37, R379 to R387, Tables 16-1 to 16-21). -/

namespace Sys2Proof.Machine

/-! ## Packing -/

/-- Fields of a register from bit 0 up: value and width. -/
def packBits : List (Nat × Nat) → Nat
  | [] => 0
  | (v, w) :: t => v % 2 ^ w + 2 ^ w * packBits t

/-- One-bit fields. -/
def flag (b : Bool) : Nat × Nat := (b.toNat, 1)

/-- A register: its offset, and its bytes from the lowest up. -/
abbrev RegVal := Nat × List Byte

/-- A register of n bytes with a value. -/
def regN (off n v : Nat) : RegVal := (off, leBytes n v)

/-- A binary32 register. -/
def regF (off : Nat) (q : Rat) : RegVal := regN off 4 (toF32 q).toNat

/-- The byte at an offset of a window; 0 where no register stands (R9). -/
def regByte : List RegVal → Nat → Byte
  | [], _ => 0
  | r :: t, off => if r.1 ≤ off && off < r.1 + r.2.length then r.2.getD (off - r.1) 0 else regByte t off

/-! ## System windows -/

def State.winSys (s : State) : List RegVal :=
  [ regN 0x04 4 0x0F644E47, regN 0x08 4 0x000001B0, regN 0x0C 4 s.dev.tick,
    regN 0x10 1 (packBits [flag s.mx.remap, (s.mx.park.toNat, 2)]),
    (0x12, s.pace.mxBytes),
    regN 0x14 4 (packBits [(s.pace.vcore.toNat, 8), (s.pace.margin.toNat, 7), (0, 1), (s.pace.engine.toNat, 8),
      (s.pace.faults.toNat, 8)]),
    regN 0x18 1 s.mx.downTrim.toNat,
    regN 0x20 1 (packBits [flag s.dev.mutePin, flag s.dev.muteResume]),
    regN 0x24 4 (packBits [(s.dev.state.code, 3), flag s.dev.disarming, (s.dev.haltCause.code, 4),
      (s.dev.refuse.toNat, 4)]) ]

def State.winPwr (s : State) : List RegVal :=
  [ regN 0x04 2 (packBits [flag s.pwr.vauxOk, flag s.pwr.vddinOk, flag s.pwr.vioOk, flag s.pwr.pvddOk,
      flag s.pwr.warn, flag s.pwr.uv, flag s.pwr.ov, flag s.pwr.vioMute]),
    regN 0x06 1 s.pwr.warnLevel.toNat,
    regN 0x08 2 (packBits [flag s.snow.por, flag s.snow.borVaux, flag s.snow.borVddin, flag s.snow.pin,
      flag s.snow.wake, (0, 3), (s.snow.borCount.toNat, 8)]),
    regN 0x18 2 s.pwr.pvddMin.toNat,
    regN 0x1C 4 (packBits [(s.pwr.uvs.toNat, 8), (s.pwr.ovs.toNat, 8), (s.pwr.warns.toNat, 8),
      (s.pwr.vioLosses.toNat, 8)]) ]

/-- The message payload of Table 13-2. -/
def EvMsg.bytes (e : EvMsg) : List Byte :=
  [e.source, e.index] ++ leBytes 2 e.count.toNat ++ leBytes 4 e.frame.toNat ++ leBytes 4 e.arg.toNat ++
    leBytes 4 e.jseq.toNat

/-- Bit g: a bit of group g is set. -/
def groupSummary (m : BitVec 256) : Nat :=
  packBits ((List.range 32).map fun g => flag (groupByte m g != 0))

def State.winEvt (s : State) (m : Master) : List RegVal :=
  let b := s.bank m
  [ regN 0x04 4 (groupSummary s.evt.flags), regN 0x08 4 (groupSummary s.alerting),
    regN 0x10 4 s.evt.total.toNat,
    regN 0x80 1 b.age.toNat, regN 0x84 1 s.evt.history.length,
    (0x90, match s.evt.history[b.age.toNat]? with
      | some e => e.bytes
      | none => List.replicate 16 0) ] ++
  ((List.range 32).map fun g => regN (0x20 + g) 1 (groupByte s.evt.flags g).toNat) ++
  ((List.range 32).map fun g => regN (0x40 + g) 1 (groupByte s.evt.amask g).toNat) ++
  (List.range 32).map fun g => regN (0x60 + g) 1 (groupByte s.evt.umask g).toNat

/-- Model choice: assumption 29. -/
def State.winJrn (s : State) (m : Master) : List RegVal :=
  let b := s.bank m
  [ regN 0x08 8 s.jrn.head.toNat, regN 0x10 8 s.jrn.oldest.toNat,
    regN 0x18 4 (packBits [flag s.jrn.failed, flag s.jrn.continued, flag s.jrn.noNonce, (0, 13),
      (s.jrn.dropped.toNat, 16)]),
    regN 0x20 8 b.rdSeq.toNat, regN 0x28 1 b.rdStat.toNat,
    (0x30, beBytes 32 s.jrn.nonce.toNat), (0x80, slice b.rdEntry 0 64) ]

def Lane.code : Lane → Nat
  | .down => 0
  | .locking => 1
  | .locked => 2

/-- A slot is concealed or in recovery (R273). -/
def State.concealing (s : State) : Bool :=
  s.mapped.any fun e =>
    if h : e.1 < 96 then
      let b := s.stm.slots[e.1]
      b.m != 0 || b.recov != 0
    else false

/-- Model choice: assumption 29. -/
def State.winLnk (s : State) (p : Port) : List RegVal :=
  let l := s.port p
  let active := Decidable.decide (s.link.active = some p)
  [ regN 0x04 1 (packBits [(0, 2), flag l.auto]),
    regN 0x08 4 (packBits [(l.lane.code, 2), flag l.session.isSome, flag l.untrusted, flag l.isReady,
      flag active, flag (active && s.concealing), flag s.link.inputLost, (l.rate.toNat, 3), (l.streams, 7)]),
    regN 0x0C 4 l.frame.toNat,
    regN 0x10 4 (packBits [(l.errCrc.toNat, 16), (l.errFormat.toNat, 16)]),
    regN 0x14 4 (packBits [(l.errAuth.toNat, 16), (l.errStale.toNat, 16)]),
    regN 0x18 4 (min 31 (l.rejWin.filter id).length),
    regN 0x1C 4 l.conceal.toNat, regN 0x20 12 l.missing.toNat,
    regN 0x30 4 (packBits [(l.switchCount.toNat, 16), (l.lastCause.toNat, 3)]),
    regN 0x34 4 (packBits [(l.evtDrop.toNat, 16), (l.rptDrop.toNat, 16)]),
    regN 0x38 4 (packBits [(l.resp.seq.toNat, 8), (l.resp.status.toNat, 8), (l.resp.op.toNat, 8)]),
    regN 0x3C 4 l.bulkIgnored.toNat ]

/-- Window 0x06; reset values without a twin plan (R262). -/
def State.winSwp (s : State) : List RegVal :=
    let on := s.plan.isSome
    let w := if on then s.swp else Twin.reset
    [ regN 0x08 4 (packBits [flag w.laneUp, flag w.tbLock, flag w.joined, flag w.live, flag w.soloAll,
        flag (on && s.ldr.heldPatch.isSome), flag w.farewellSent, flag w.farewellRx, (w.joinCode.toNat, 4),
        (w.lastLoss.toNat, 2)]),
      regN 0x10 8 w.lead.toNat, regN 0x18 8 w.solo.toNat, regN 0x20 8 w.mismatch.toNat,
      regN 0x28 8 w.rejoinMask.toNat,
      regN 0x30 4 (packBits [(w.crcErrs.toNat, 16), (w.missed.toNat, 16)]),
      regN 0x34 4 w.losses.toNat, regN 0x38 8 w.twinHead.toNat, regN 0x40 4 w.tbErr.toNat ]

/-- OWNER_SLOT (Table 11-15) (assumption 29). -/
def Fuses.ownerSlot (f : Fuses) : Nat :=
  if f.owner0.used && f.owner0.valid then 1
  else if f.owner1.used && f.owner1.valid then 2
  else if f.owner0.used && f.owner1.used then 3 else 0

def State.rbUsed (s : State) : Nat := (s.fuse.rb.filter (·.used)).length

def State.winSec (s : State) : List RegVal :=
  [ regN 0x08 4 (packBits [(s.fuse.life.toNat, 2), flag s.dbgLock, flag s.fuse.rbFull, flag s.keeper.ok,
      flag s.keeper.rngFail, flag s.win.enrollOpen.isSome, flag s.win.lockOpen.isSome, (s.fuse.ownerSlot, 2),
      (s.rbUsed, 6)]),
    regN 0x0C 2 (packBits [(s.keeper.step.toNat, 8), (s.keeper.fail.toNat, 8)]),
    regN 0x10 2 (packBits [(s.keeper.lastCode.toNat, 8), (s.keeper.lastSource.toNat, 8)]),
    regN 0x18 8 Config.serial.toNat, regN 0x20 8 s.rbCounter.toNat,
    regN 0x2C 2 (packBits [(s.win.enrollBuf.length, 8), flag s.win.overflow]),
    regN 0x30 4 (packBits [(s.portA.sigma.toNat, 16), (s.portB.sigma.toNat, 16)]),
    (0x40, beBytes 32 s.win.nonce.toNat), (0x80, beBytes 48 Config.fwDigest.toNat),
    (0xB0, beBytes 48 Config.certDigest.toNat) ]

/-- BLD_STATUS.PHASE (Table 2-19) (assumptions 30 and 76). -/
def Loader.phaseCode (l : Loader) : Nat :=
  match l.phase with
  | .receiving => 1
  | .checking => 2 + min l.stage 2
  | .idle => if l.patchCheck then 5 else 0

/-- BLD_USE (Table 2-20). -/
def Claim.use (c : Claim) : Nat :=
  packBits [(c.streams, 8), (c.fir, 4), (c.models, 8), (c.ptables, 8), (c.ripple, 8), (c.sections, 11)]

def State.winBld (s : State) : List RegVal :=
  [ regN 0x08 4 (packBits [(s.bld.len.toNat, 23), (0, 1), flag s.bld.port]),
    regN 0x0C 4 (packBits [(s.ldr.phaseCode, 3), flag s.bld.build.isSome, flag s.benchBuild,
      flag s.bld.lastKind, (0, 2), (s.bld.lastCode.toNat, 8)]),
    regN 0x10 4 s.bld.received.toNat, regN 0x14 4 s.bld.refuseAt.toNat,
    regN 0x1C 4 (4 * s.ldr.patchWords.length) ] ++
  match s.bld.build with
  | none =>
    [ regN 0x20 4 0, regN 0x28 8 0, regN 0x30 8 0, (0x40, List.replicate 16 0), (0x50, List.replicate 48 0), regN 0x80 8 0 ]
  | some b =>
    [ regN 0x20 4 s.bld.patchSeq.toNat, regN 0x28 8 b.claim.use, regN 0x30 8 b.claim.chMask.toNat,
      (0x40, beBytes 16 b.id.toNat), (0x50, beBytes 48 b.digest.toNat), regN 0x80 8 b.rollback.toNat ]

def State.winTwp (s : State) : List RegVal :=
  [ regN 0x04 1 s.twp.araEn.toNat, regN 0x06 2 (packBits [(s.twp.addr.toNat, 3), flag s.twp.answered]),
    regN 0x08 4 (packBits [(s.twp.caps.toNat, 8), (s.twp.sdaReleases.toNat, 8), (s.twp.unfinished.toNat, 8)]),
    regN 0x0C 2 s.snow.wakeStretch.toNat, regN 0x10 4 s.twp.trans.toNat ]

def TrcState.code : TrcState → Nat
  | .idle => 0
  | .armed => 1
  | .triggered => 2

/-- The descriptor of a buffer; its fields read as 0 until the first ARM (R378, Table 15-3) (assumption 29). -/
def TrcBuf.descr (b : TrcBuf) : List Byte :=
  leBytes 4 b.run.toNat ++ leBytes 4 b.count ++ leBytes 4 (if b.run = 0 then 0 else b.trigPos.toNat) ++ leBytes 4 b.tick0.toNat ++
    leBytes 4 b.trigFrame.toNat ++
    leBytes 4 (packBits [flag b.complete, flag b.invalid, (b.trigSrc.toNat, 3), (b.decim.toNat, 4), flag b.mean]) ++
    List.replicate 8 0 ++ (List.range 16).flatMap fun i => leBytes 2 (b.slots.getD i 0).toNat

def State.winTrc (s : State) : List RegVal :=
  let t := s.trc
  [ regN 0x08 4 (packBits [(t.decim.toNat, 4), flag t.mean, flag t.pinBuf, (0, 10), (t.pre.toNat, 16)]),
    regN 0x0C 4 (packBits [flag t.evtEn, flag t.thrEn, flag t.frameEn, (0, 5), (t.evtSrc.toNat, 8),
      (t.evtIndex.toNat, 8), (t.thrSlot.toNat, 4), (t.thrMode.toNat, 2)]),
    regN 0x10 4 t.thrLevel.toNat, regN 0x14 4 t.trcFrame.toNat ] ++
  ((List.finRange 16).map fun i => regN (0x20 + 2 * i.val) 2 t.slots[i].toNat) ++
  [ regN 0x40 1 (packBits [(t.state.code, 2), flag t.target, flag t.cfgRefused, flag t.pinBusy]),
    (0x60, s.ram6.buf0.descr), (0xA0, s.ram6.buf1.descr) ]

def State.winFlx (s : State) : List RegVal :=
  let f := s.flx
  [ regN 0x08 4 (packBits [(f.ch.toNat, 6), (f.point.toNat, 2), (f.signal.toNat, 2), (f.mlsOrder.toNat, 4),
      flag f.capSync, (0, 1), (f.level.toNat, 8)]),
    regN 0x0C 4 f.freq.toNat,
    regN 0x10 2 (packBits [(f.capSelA.toNat, 5), (0, 3), (f.capSelB.toNat, 5)]),
    regN 0x14 1 (packBits [flag f.injOn, flag f.capRun, flag f.capDone, flag f.refused, (f.reason.toNat, 4)]),
    regN 0x18 2 f.capIdx.toNat, regN 0x1C 4 s.capSample.toNat ]

def mainsCode : MainsSrc → Nat
  | .none => 0
  | .mainsRef => 1
  | .ripple => 2

/-- LAG_NOW, unsigned Q5.3: frames between the newest frame and the window's end, which moves with the fraction of p
(Table 3-5; R74 defines the lag with the whole part of p) (assumption 82). -/
def Streams.lagNow (t : Streams) : Nat :=
  if t.placed then (clampI 0 255 (((t.newest.setWidth 64 <<< 32) - (t.p + (16#64 <<< 32))).toInt / 2 ^ 29)).toNat else 0

/-- r in unsigned Q2.30 (Table 3-6). -/
def ratioCode (r : Rat) : Nat := (clampI 0 (2 ^ 32 - 1) (roundEven (r * 1073741824))).toNat

/-- Model choice: assumption 29. -/
def State.winMtb (s : State) : List RegVal :=
  let t := s.stm
  let b := s.mtb
  let xtal := match s.bld.build with
    | some b => b.claim.xtal
    | none => false
  [ regN 0x04 2 (packBits [(b.refSrc.toNat, 2), flag b.refLocked, flag xtal, (0, 4), (b.refChanges.toNat, 8)]),
    regN 0x20 1 (packBits [(0, 1), (b.lag.toNat, 5)]),
    regN 0x24 4 (packBits [(b.rate.toNat, 3), flag t.locked, flag t.holdover, flag t.clamped, flag t.wide, (0, 1),
      (t.lagNow, 8), (b.slips.toNat, 16)]),
    regN 0x28 4 (if t.placed then ratioCode t.ratio else 0), regN 0x2C 2 t.ppm.toNat,
    regN 0x30 4 (packBits [(b.clipCount.toNat, 16), (b.clipSlot.toNat, 7)]) ] ++
  if s.bld.build.isSome then
    [ regN 0x40 2 (packBits [(mainsCode b.mainsSrc, 2), (b.mainsChanges.toNat, 14)]), regN 0x44 4 b.mainsPeriod.toNat ]
  else [ regN 0x40 2 0, regN 0x44 4 0 ]

/-- 0.125 °C, two's complement, 16 bits. -/
def temp16 (t : Rat) : Nat := (BitVec.ofInt 16 (clampI (-32768) 32767 (roundEven (8 * t)))).toNat

/-- THM_DIE_k (Table 7-7). -/
def DieState.thm (d : DieState) : Nat :=
  packBits [((attCode (minR d.attS d.attUse)).toNat, 8), flag d.shutdown, flag (Decidable.decide (d.attUse < d.attS)), (0, 6),
    (temp16 d.tModel, 16)]

def State.winThm (s : State) : List RegVal :=
  [ regN 0x04 4 (packBits [(s.mtb.tjMax.toNat, 16), (s.mtb.tjDie.toNat, 3)]),
    regN 0x08 2 (packBits ((allDies.map fun k => flag (s.die k).folding) ++ allDies.map fun k => flag (s.die k).shutdown)),
    regN 0x30 2 s.mtb.coreTemp.toNat ] ++
  allDies.map fun k => regN (0x10 + 4 * k.val) 4 (s.die k).thm

/-! ## Channel and stage-die windows -/

/-- CH_CONF (R387, Table 16-20). -/
def confWord (c : ChanCfg) (twinned : Bool) : Nat :=
  let fir (e : Option (Fin 8)) : Nat := match e with
    | some j => j.val
    | none => 15
  packBits [(1, 1), (c.dfn.law, 2), (c.model.kind, 2), flag c.dfn.fadeEn, flag c.dfn.firFade, flag c.table.isSome,
    (fir c.dfn.fir, 4), (fir c.dfn.firShadow, 4), (c.dfn.phase, 4), flag twinned, (c.dfn.inputs.length - 1, 2), (0, 1),
    (c.dfn.sectMax, 8)]

/-- An attenuation register value of a gain (R218). -/
def gainAtt (g : Rat) : Nat :=
  if g = 1 then 0 else if g ≤ 0 then 0xFF else (attCode (20 * Config.log10R g)).toNat

/-- CH_DROPS.IN_WINDOW: fault drops within the last 60 s (R122). -/
def ChLoop.inWindow (l : ChLoop) (now : Nat) : Nat := (l.dropTimes.filter fun t => now ≤ t + 11520000).length

/-- RMS of the learner's table. -/
def ChLearn.rms (l : ChLearn) : Rat :=
  let q := (l.table.foldl (fun a x => a + x * x) 0) / 1024
  if q = 0 then 0 else Config.sqrtR q

/-- Law and loop registers of a channel (Tables 4-10 to 4-14). FADING counts the fade of a mute as one (R126, R213; DESIGN
CHOICE, assumption 89). -/
def Channel.regsLoop (k : Channel) (conf now : Nat) : List RegVal :=
  let l := k.loop
  [ regN 0x06 2 (packBits [(k.st.code, 4), flag l.uvHold, flag (l.fading != .none), flag (l.tLeft != 0 && l.tC != 0),
      (0, 1), (k.keep.tripCause.toNat, 4), (l.openCause.toNat, 3)]),
    regN 0x08 2 (packBits [flag l.intSat, flag l.demandClamp, flag l.ovl, flag l.invalid, flag l.frozen,
      flag l.bfOvf, flag l.paceMiss]),
    regN 0x0A 1 (packBits [flag k.keep.holdOpen, flag k.keep.playOnRecover]),
    regN 0x0C 4 k.keep.feTicks.toNat, regN 0x10 4 k.keep.feLim.toNat, regN 0x14 4 (min l.feCount 0x3FFFF),
    regN 0x18 4 l.fePeak.toNat, regN 0x1C 4 (packBits [(l.inWindow now, 3), (0, 5), (l.dropTotal, 16)]),
    regF 0x20 l.integ,
    regN 0x24 2 (packBits [flag l.coilDm, flag l.pilotDm, flag l.rippleDm, flag l.identDm, flag l.coilFallback, (0, 3),
      (min l.coilMissRun 255, 8)]),
    regN 0x28 4 conf ]

/-- Filter-graph registers of a channel (Table 3-8). -/
def Channel.regsGraph (k : Channel) : List RegVal :=
  let ph := k.fg.phase
  [ regN 0x42 2 k.fgk.fadeLen.toNat, regN 0x44 2 k.fgk.settle.toNat,
    regN 0x46 2 (packBits [flag k.fgk.active, flag (ph = .preroll), flag (ph = .fade), flag k.fgk.latched.isSome,
      flag (k.fgk.latched = some true), flag (ph = .settle), flag (ph = .fadeIn)]),
    regN 0x48 2 (if ph = .idle then 0 else k.fg.pos % 16384), regN 0x4C 4 k.fgk.sat.toNat ]

/-- Model, identification and learner registers of a channel (Table 5-4). -/
def Channel.regsModel (k : Channel) : List RegVal :=
  let m := k.model
  [ regN 0x50 2 (packBits [flag m.fwd, flag m.tableEdge, flag m.xClamp, flag m.reClamp, (m.reSrc.toNat, 2)]),
    regF 0x54 m.x, regF 0x58 m.v, regF 0x5C m.reT,
    regN 0x62 2 (packBits [flag k.ident.running, flag k.ident.fitPending, (0, 2), (k.keep.result.toNat, 4),
      (k.keep.fits.toNat, 8)]),
    regN 0x64 4 k.keep.fit.re.toNat, regN 0x68 4 k.keep.fit.le.toNat, regN 0x6C 4 k.keep.fit.bl.toNat,
    regN 0x70 4 k.keep.fit.kms.toNat, regN 0x74 4 k.keep.fit.rms.toNat, regN 0x78 4 k.keep.fit.resid.toNat,
    regN 0x7C 1 k.keep.freeze.toNat,
    regN 0x7E 2 (packBits [flag k.learn.clamped, flag k.learn.lastDiscarded, (min k.learn.updates 0x3FFF, 14)]),
    regF 0x80 k.learn.rms ]

/-- Protection registers of a channel (Table 7-6). -/
def Channel.regsProt (k : Channel) : List RegVal :=
  let p := k.prot
  [ regN 0x90 4 (packBits [(gainAtt p.gX, 8), (gainAtt p.gC, 8), (gainAtt p.gV, 8), (gainAtt p.gL, 8)]),
    regN 0x94 2 (packBits [flag (Decidable.decide (p.gX < 1)), flag p.guardFlag, flag p.coilLimit, flag p.coilOver,
      flag p.vCeil, flag p.dip, flag p.laPending, flag p.coilCap, flag p.muted, flag k.keep.shortLatch,
      (k.keep.retries.toNat, 2), flag p.openWarn]),
    regF 0x98 p.tc, regF 0x9C p.tm, regN 0xA0 4 p.peakX.toNat, regN 0xA4 2 k.keep.shorts.toNat ]

/-- Diagnostic registers of a channel (Table 8-4); PILOT_ON is live (R221), the rest stands as the last
report left it (assumption 29). -/
def Channel.regsDiag (k : Channel) : List RegVal :=
  let d := k.diag
  [ regN 0xB0 1 (packBits [(0, 1), flag k.keep.pilotOff]),
    regN 0xB2 2 (packBits [(d.cls.toNat, 4), (d.raw.toNat, 4), flag d.pilotOn, (d.regFlags.toNat / 2, 4),
      flag k.keep.cal, flag k.keep.fsRefSet]),
    regN 0xB4 4 k.keep.seq.toNat ] ++
  ((List.range 6).map fun i => regN (0xB8 + 4 * i) 4 (d.regs.getD i 0).toNat) ++
  [ regF 0xD0 k.keep.fsRef, regF 0xD4 k.keep.zcalRe, regF 0xD8 k.keep.zcalIm, regF 0xDC k.keep.reCal ]

/-- Twin registers of a channel (Table 9-11); reset values without a plan, and for a channel that no build uses (R129, R262,
R263). -/
def State.regsTwin (s : State) (n : Chan) : List RegVal :=
  if ! s.twinned n || ! s.used n then [ regF 0xE0 0, regN 0xE4 2 0 ]
  else
    let t := (s.ch n).twin
    [ regF 0xE0 (t.shareP + t.shareI),
      regN 0xE4 2 (packBits [flag (inMask s.swp.lead n), flag (inMask s.swp.solo n), flag t.shareSat,
        flag (inMask s.swp.mismatch n), (t.partnerState.toNat, 4), flag t.partnerHiz]) ]

/-- Window 0x10+n; reset values for a channel that no build in force uses (R129, R163, R218, R236, R418) (assumption 28). -/
def State.winCh (s : State) (n : Chan) : List RegVal :=
  let conf := match s.cfg n with
    | some c => confWord c (s.twinned n)
    | none => 0
  let k := if s.used n then s.ch n else Channel.reset
  k.regsLoop conf s.now ++ k.regsGraph ++ k.regsModel ++ k.regsProt ++ k.regsDiag ++ s.regsTwin n

/-- The block of one position, with the status that the lane last delivered (Table 6-7, R190). -/
def State.regsPos (s : State) (k : Die) (j : Fin 8) : List RegVal :=
  let n := dieChan k j
  let c := if s.used n then s.ch n else Channel.reset
  let o := 0x20 + 0x10 * j.val
  let g := c.stage.stat
  [ regN o 2 (packBits [(g.bridge.toNat, 2), flag g.modRun, flag g.locked, flag g.limiting, flag c.keep.fbFault, (0, 2),
      (c.phaseNow.toNat, 4)]),
    regN (o + 2) 1 c.ilim.toNat, regN (o + 4) 2 g.freq.toNat, regN (o + 6) 1 g.depth.toNat, regN (o + 8) 4 c.stage.acts.toNat ]

def State.winSd (s : State) (k : Die) : List RegVal :=
  let d := s.die k
  [ regN 0x04 2 (packBits [flag d.lost, flag d.laneErr, flag d.hizLocal]), regN 0x06 1 d.injEn.toNat,
    regN 0x08 1 d.rampMs.toNat, regN 0x0A 2 d.laneErrs.toNat, regN 0x0C 2 d.pvdd.toNat, regN 0x0E 2 d.tj.toNat,
    regN 0x10 2 (packBits [flag d.dieDm, flag d.dieFallback, (0, 6), (d.dieMissRun.toNat, 8)]) ] ++
  (List.finRange 8).flatMap fun j => s.regsPos k j

def PageState.code : PageState → Nat
  | .empty => 0
  | .loading => 1
  | .valid => 2
  | .stale => 3
  | .error => 4

def State.winCoef (s : State) (q : Fin 16) : List RegVal :=
  let c := s.coef[q]
  [ regN 0x04 4 c.sel.toNat,
    regN 0x08 4 (packBits [(c.state.code, 3), (0, 5), (c.code.toNat, 8), (c.count.toNat, 8)]),
    regN 0x0C 4 c.tick.toNat ] ++
  (List.range 60).map fun i => regN (0x10 + 4 * i) 4 (c.words.getD i 0).toNat

/-! ## The register space -/

/-- The windows of Table 0-3 (R380). -/
def windowPresent (w : Nat) : Bool :=
  w ≤ 0x0D || (0x10 ≤ w && w < 0x58) || (0x60 ≤ w && w < 0x70)

/-- The registers of a window, as a master sees them. -/
def State.winRegs (s : State) (m : Master) (w : Nat) : List RegVal :=
  if h : 0x10 ≤ w ∧ w < 0x50 then s.winCh ⟨w - 0x10, by omega⟩
  else if h : 0x50 ≤ w ∧ w < 0x58 then s.winSd ⟨w - 0x50, by omega⟩
  else if h : 0x60 ≤ w ∧ w < 0x70 then s.winCoef ⟨w - 0x60, by omega⟩
  else
    match w with
    | 0 => s.winSys
    | 1 => s.winPwr
    | 2 => s.winEvt m
    | 3 => s.winJrn m
    | 4 => s.winLnk .a
    | 5 => s.winLnk .b
    | 6 => s.winSwp
    | 7 => s.winSec
    | 8 => s.winBld
    | 9 => s.winTwp
    | 0xA => s.winTrc
    | 0xB => s.winFlx
    | 0xC => s.winMtb
    | 0xD => s.winThm
    | _ => []

/-- A byte of the register space. Offset 0x00 gives the window's number, or the two-wire port's current
window to M4 (R33, R357); an absent window reads 0 (R380). -/
def State.readReg (s : State) (m : Master) (w off : Nat) : Byte :=
  if ! windowPresent w then 0
  else if off = 0 then (if m = .m4 then s.twp.window else BitVec.ofNat 8 w)
  else regByte (s.winRegs m w) off

/-! ## Targets (R32, R37, Tables 1-7 and 1-8a) -/

/-- Target of an address, 7 for none. -/
def targetOf (a : Nat) : Nat :=
  if a < 0x20000 then 0
  else if 0x10000000 ≤ a && a < 0x10400000 then 1
  else if 0x20000000 ≤ a && a < 0x20200000 then 2
  else if 0x30000000 ≤ a && a < 0x30010000 then 3
  else if 0x40000000 ≤ a && a < 0x40100000 then 4
  else if 0x50000000 ≤ a && a < 0x50001000 then 5
  else if 0x60000000 ≤ a && a < 0x60800000 then 6
  else 7

/-- Read access of Table 1-7. -/
def canRead (m : Master) (t : Nat) : Bool :=
  match m with
  | .m0 => t < 7
  | .m1 => 1 ≤ t && t < 7
  | .m2 => 1 ≤ t && t < 7
  | .m3 => t = 2 || t = 3 || t = 4
  | .m4 => 2 ≤ t && t < 6
  | .m5 => t = 2 || t = 3 || t = 6
  | .m6 => false

/-- Write access of Table 1-7. -/
def canWrite (m : Master) (t : Nat) : Bool :=
  match m with
  | .m0 => t < 4
  | .m1 => t = 3
  | .m2 => t = 3
  | .m3 => t = 3
  | .m4 => t = 3
  | .m5 => false
  | .m6 => t = 1

/-- The fuse shadow (Table 11-3). -/
def State.fuseShadow (s : State) : List RegVal :=
  [ regN 0x000 8 Config.serial.toNat, (0x008, beBytes 48 Config.certDigest.toNat),
    (0x038, beBytes 48 (s.fuse.owner.getD 0).toNat), regN 0x068 1 s.fuse.life.toNat, regN 0x070 8 s.rbCounter.toNat,
    regN 0x078 1 s.rbUsed, regN 0x079 1 s.dbgLock.toNat, (0x080, beBytes 97 s.keeper.signPub.toNat),
    (0x0E8, beBytes 97 s.keeper.agreePub.toNat), (0x150, beBytes 48 Config.fwDigest.toNat) ]

/-- A byte of the journal RAM: the entry SEQ stands at SEQ mod 16,384 (R342, assumption 13). -/
def State.journalByte (s : State) (o : Nat) : Byte :=
  match s.jrn.ents.find? fun e => e.1.toNat % 16384 = o / 64 with
  | some e => byteAt e.2 (o % 64)
  | none => 0

/-- A byte of the trace RAM: two buffers of 16 slots of 65,536 words (assumption 13). -/
def State.traceByte (s : State) (o : Nat) : Byte :=
  let b := s.ram6.buf (Decidable.decide (0x400000 ≤ o))
  let q := o % 0x400000
  byteAt (leBytes 4 (b.sample (q / 0x40000) (q % 0x40000 / 4)).toNat) (o % 4)

/-- A byte of T0: boot ROM and the keeper's working RAM, in the order that REMAP gives (R37). -/
def State.lowByte (s : State) (a : Nat) : Byte :=
  if (a < 0x10000) = (s.mx.remap = false) then Config.romByte (a % 0x10000) else Mem.read s.ram (a % 0x10000)

/-- A byte at an address that a master may read. -/
def State.readByte (s : State) (m : Master) (a : Nat) : Byte :=
  match targetOf a with
  | 0 => s.lowByte a
  | 1 => Mem.read s.bld.store (a - 0x10000000)
  | 2 => Config.coefBankByte s.fresh (a - 0x20000000)
  | 3 => s.readReg m ((a - 0x30000000) / 256) (a % 256)
  | 4 => s.journalByte (a - 0x40000000)
  | 5 => regByte s.fuseShadow (a - 0x50000000)
  | 6 => s.traceByte (a - 0x60000000)
  | _ => 0

/-- A list of bytes with the address of each. -/
def withAddr (a : Nat) (bs : List Byte) : List (Nat × Byte) :=
  (List.range bs.length).map fun i => (a + i, bs.getD i 0)

/-- A byte of FLX_CAP_DATA is among the addresses read. -/
def touchesCap (a n : Nat) : Bool := a < 0x30000B20 && 0x30000B1C < a + n

/-- One read burst: the bytes, whether the matrix denied any of them, and the state after it. The bytes
of a denied region read 0 (R32); a read of FLX_CAP_DATA advances its index (R377); the coefficient
banks' bytes are free values. -/
def State.busRead (s : State) (m : Master) (a n : Nat) : State × List Byte × Bool :=
  let addrs := (List.range n).map (a + ·)
  let ok := fun x => canRead m (targetOf x)
  let data := addrs.map fun x => if ok x then s.readByte m x else 0
  let bad := addrs.filter fun x => ! ok x
  let s := match bad with
    | [] => s
    | x :: _ => s.deny m (targetOf x) x false
  let s := if touchesCap a n && canRead m 3 then s.capAdvance else s
  let s := if addrs.any (fun x => targetOf x = 2) then { s with fresh := s.fresh + 1 } else s
  (s, data, ! bad.isEmpty)

end Sys2Proof.Machine
end

