-- ==== Sys2Proof/WellFormed.lean ====
section
/-! DEFINITION. Which commands are well formed: those whose lists have the lengths that the rules
give. -/

namespace Sys2Proof

/-- Both ADCs give 32 samples in a tick (R183). -/
def ChanIn.wf (x : ChanIn) : Bool := x.vs.length == 32 && x.is.length == 32

/-- A stage die has one sensor for each of its eight channels (R186). -/
def DieIn.wf (x : DieIn) : Bool := x.tjs.length == 8

/-- Rising and falling edges take turns. -/
def edgesTakeTurns : List TapEdge → Bool
  | .rise _ _ :: .rise _ _ :: _ => false
  | .fall :: .fall :: _ => false
  | _ :: l => edgesTakeTurns l
  | [] => true

/-- TST_TCK runs at up to 20 MHz: at most 209 edges in a tick of 128 MTB cycles (R405, R19). -/
def tckWf (l : List TapEdge) : Bool := edgesTakeTurns l && l.length ≤ 209

/-- 64 channels and eight stage dies (R15, Table 1-1), and what TST_TCK can show in a tick. -/
def TickIn.wf (t : TickIn) : Bool :=
  t.chans.length == 64 && t.dies.length == 8 && t.chans.all ChanIn.wf && t.dies.all DieIn.wf && tckWf t.tck

/-- A register write is one burst: 1 to 16 beats of 32 bits (Bus matrix). -/
def burstWf (addr : Nat) (len : Nat) : Bool :=
  1 ≤ len && (addr % 4 + len + 3) / 4 ≤ 16

/-- The command is well formed (assumption 2). -/
def Instr.wf : Instr → Bool
  | .tickBoundary t => t.wf
  | .registerWrite _ addr data => burstWf addr.toNat data.length
  | _ => true

end Sys2Proof
end

