-- ==== Sys2Proof/Machine/RegWrite.lean ====
section
/-! DEFINITION. Writing: every register of chapter Register Map under its access code, the rights of the
masters, registers wider than a beat, and bursts over the bus matrix (R7 to R9, R32 to R34, R37, R71, R103,
R114, R129, R163, R190, R218, R236, R262, R290, R311, R335, R365, R378, R388, R418, R423). -/

namespace Sys2Proof.Machine

/-- The strobed bytes of one beat: offset in the window and byte. -/
abbrev Beat := List (Nat × Byte)

def Beat.byte (b : Beat) (off : Nat) : Option Byte := (b.find? fun e => e.1 = off).map (·.2)

/-- A beat strobes a byte of a register. -/
def Beat.touches (b : Beat) (off n : Nat) : Bool := b.any fun e => off ≤ e.1 && e.1 < off + n

/-- The value that a beat gives a register whose unstrobed bytes hold `base` (assumption 27). -/
def Beat.merge (b : Beat) (off n : Nat) (base : Nat → Byte) : Nat :=
  leNat ((List.range n).map fun i => (b.byte (off + i)).getD (base (off + i)))

/-! ## Handlers -/

/-- What a write of one register does: offset, width in bytes, whether unstrobed bytes keep their values
(otherwise they count as 0), and the effect of the value. -/
structure RegWr where
  off : Nat
  n : Nat
  keep : Bool
  act : State → Nat → State

def byteV (v : Nat) : Byte := BitVec.ofNat 8 v

/-- A command of SYS_CTL; more than one bit is refused as a whole (R322). -/
def State.sysCtlWrite (s : State) (m : Master) (v : Nat) : State :=
  match v % 256 with
  | 0 => s.jotWrite m 0x00 0x28 [0] 0
  | 1 => s.arm m
  | 2 => s.run m
  | 4 => s.hold m
  | 8 => s.disarm m
  | 16 => s.discard m
  | 32 => s.haltCmd m
  | 64 => s.haltClear m
  | 128 => s.standby m
  | _ => s.refuseDev m [byteV v] refMultiple

def State.wrSys (m : Master) : List RegWr :=
  [ ⟨0x10, 1, false, fun s v => s.matrixWrite m (byteV v)⟩,
    ⟨0x18, 1, false, fun s v => { s with mx := { s.mx with downTrim := v.testBit 0 } }⟩,
    ⟨0x1C, 1, false, fun s v => if v.testBit 0 then s.startAll m else s.jotWrite m 0x00 0x1C [byteV v] 0⟩,
    ⟨0x20, 1, false, fun s v =>
      ({ s with dev := { s.dev with muteResume := v.testBit 1 } }).jotWrite m 0x00 0x20 [byteV v] 0⟩,
    ⟨0x28, 1, false, fun s v => s.sysCtlWrite m v⟩ ]

/-- W1C flags of PWR_CAUSE. -/
def Snow.clear (w : Snow) (v : Nat) : Snow :=
  { w with
    por := w.por && ! v.testBit 0, borVaux := w.borVaux && ! v.testBit 1, borVddin := w.borVddin && ! v.testBit 2,
    pin := w.pin && ! v.testBit 3, wake := w.wake && ! v.testBit 4 }

def State.wrPwr (m : Master) : List RegWr :=
  [ ⟨0x06, 1, false, fun s v => s.pvddWarnWrite m (byteV v)⟩,
    ⟨0x08, 2, false, fun s v => { s with snow := s.snow.clear v }⟩,
    ⟨0x0C, 1, false, fun s v => if v.testBit 0 then s.soft m else s.jotWrite m 0x01 0x0C [byteV v] 0⟩,
    ⟨0x18, 2, true, fun s v => { s with pwr := { s.pwr with pvddMin := BitVec.ofNat 16 v } }⟩ ]

def State.wrEvt (m : Master) : List RegWr :=
  [ ⟨0x0C, 1, false, fun s v => if v.testBit 0 then s.clearFlags (BitVec.allOnes 256) else s⟩,
    ⟨0x80, 1, false, fun s v => s.setBank m { s.bank m with age := BitVec.ofNat 6 v }⟩ ] ++
  (List.finRange 32).map (fun g =>
    ⟨0x20 + g.val, 1, false, fun s v => s.clearFlags (BitVec.ofNat 256 (v % 256) <<< (8 * g.val))⟩) ++
  (List.finRange 32).map (fun g => ⟨0x40 + g.val, 1, false, fun s v => s.maskWrite m false g (byteV v)⟩) ++
  (List.finRange 32).map (fun g => ⟨0x60 + g.val, 1, false, fun s v => s.maskWrite m true g (byteV v)⟩)

def State.wrLnk (m : Master) (p : Port) : List RegWr :=
  [⟨0x04, 1, false, fun s v => s.lnkCtlWrite m p (byteV v)⟩]

/-- SWP_CTL; two triggers at once are refused as a whole (R423). -/
def State.wrSwp (m : Master) : List RegWr :=
  [⟨0x04, 1, false, fun s v =>
    if v % 4 = 3 then s.jotWrite m 0x06 0x04 [byteV v] 1
    else if v % 4 = 0 then s.jotWrite m 0x06 0x04 [byteV v] 0
    else s.swpCtlWrite m (byteV v)⟩]

def State.wrSec (m : Master) : List RegWr :=
  [ ⟨0x04, 1, false, fun s v => s.secCtlWrite m (byteV v)⟩,
    ⟨0x28, 4, false, fun s v => s.enrollData (BitVec.ofNat 32 v)⟩ ]

/-- BLD_CTL; two triggers at once are refused as a whole (R423). -/
def State.wrBld (m : Master) : List RegWr :=
  [ ⟨0x04, 1, false, fun s v =>
      match v % 16 with
      | 0 => s.jotWrite m 0x08 0x04 [byteV v] 0
      | 1 => s.bldCtlWrite m 1
      | 2 => s.bldCtlWrite m 2
      | 4 => s.bldCtlWrite m 4
      | 8 => s.bldCtlWrite m 8
      | _ => s.jotWrite m 0x08 0x04 [byteV v] 1⟩,
    ⟨0x08, 4, true, fun s v =>
      { s with bld := { s.bld with len := BitVec.ofNat 23 v, port := v.testBit 24 } }⟩,
    ⟨0x18, 4, false, fun s v => s.patchData m (BitVec.ofNat 32 v)⟩ ]

def State.wrTwp (m : Master) : List RegWr :=
  [⟨0x04, 1, false, fun s v =>
    ({ s with twp := { s.twp with araEn := v.testBit 0 } }).jotWrite m 0x09 0x04 [byteV v] 0⟩]

/-- A write of a trace setting: ignored, with CFG_REFUSED, while the state is not IDLE (R367). -/
def State.trcSet (s : State) (f : Trc → Trc) : State :=
  if s.trc.state = .idle then { s with trc := f s.trc } else s.cfgRefuse

def State.wrTrc (m : Master) : List RegWr :=
  [ ⟨0x04, 1, false, fun s v => s.trcCtlWrite m (byteV v)⟩,
    ⟨0x08, 4, true, fun s v => s.trcSet fun t =>
      { t with
        decim := if v % 16 ≤ 8 then BitVec.ofNat 4 v else t.decim
        mean := v.testBit 4, pinBuf := v.testBit 5, pre := BitVec.ofNat 16 (v / 65536) }⟩,
    ⟨0x0C, 4, true, fun s v => s.trcSet fun t =>
      { t with
        evtEn := v.testBit 0, thrEn := v.testBit 1, frameEn := v.testBit 2, evtSrc := byteV (v / 256),
        evtIndex := byteV (v / 65536), thrSlot := BitVec.ofNat 4 (v / 16777216),
        thrMode := BitVec.ofNat 2 (v / 268435456) }⟩,
    ⟨0x10, 4, true, fun s v => s.trcSet fun t => { t with thrLevel := BitVec.ofNat 32 v }⟩,
    ⟨0x14, 4, true, fun s v => s.trcSet fun t => { t with trcFrame := BitVec.ofNat 32 v }⟩,
    ⟨0x40, 1, false, fun s v => if v.testBit 3 then { s with trc := { s.trc with cfgRefused := false } } else s⟩ ] ++
  (List.finRange 16).map (fun i => ⟨0x20 + 2 * i.val, 2, true, fun s v => s.trcSet fun t =>
    { t with slots := t.slots.set i.val (BitVec.ofNat 16 v &&& 0x1F7F) }⟩)

def State.wrFlx (m : Master) : List RegWr :=
  [ ⟨0x04, 1, false, fun s v => s.flxCtlWrite m (byteV v)⟩,
    ⟨0x08, 4, true, fun s v =>
      let o := v / 1024 % 16
      let l := v / 65536 % 256
      { s with flx := { s.flx with
        ch := BitVec.ofNat 6 v, point := BitVec.ofNat 2 (v / 64), signal := BitVec.ofNat 2 (v / 256)
        mlsOrder := if 10 ≤ o then BitVec.ofNat 4 o else s.flx.mlsOrder, capSync := v.testBit 14
        level := if 20 ≤ l && l ≤ 120 then BitVec.ofNat 8 l else s.flx.level } }⟩,
    ⟨0x0C, 4, true, fun s v => { s with flx := { s.flx with freq := BitVec.ofNat 32 v } }⟩,
    ⟨0x10, 2, true, fun s v =>
      { s with flx := { s.flx with capSelA := BitVec.ofNat 5 v, capSelB := BitVec.ofNat 5 (v / 256) } }⟩,
    ⟨0x14, 1, false, fun s v =>
      { s with flx := { s.flx with
        capDone := s.flx.capDone && ! v.testBit 2, refused := s.flx.refused && ! v.testBit 3 } }⟩,
    ⟨0x18, 2, true, fun s v => { s with flx := { s.flx with capIdx := BitVec.ofNat 14 v } }⟩ ]

/-- A write of MTB_TRK_CTL: LAG, then SYNC_RESET, which puts that LAG in force; one entry (R102, R103) (assumption 86). -/
def State.trkCtlWrite (s : State) (m : Master) (v : Nat) : State :=
  let lag : BitVec 5 := BitVec.ofNat 5 (v / 2)
  if v.testBit 0 then
    let s := if lag = 0 || 16 < lag.toNat then s.raise Ev.lagRefused 0xFF 0
      else { s with mtb := { s.mtb with lag := lag } }
    s.syncWrite m [byteV v]
  else s.lagWrite m lag [byteV v]

def State.wrMtb (m : Master) : List RegWr :=
  [ ⟨0x20, 1, false, fun s v => s.trkCtlWrite m v⟩,
    ⟨0x30, 4, true, fun s v => { s with mtb := { s.mtb with clipCount := BitVec.ofNat 16 v } }⟩ ]

/-- A write of CH_CMD; more than one bit is refused as a whole (R123), and so is any write for a channel that no build
in force uses (R129). The decisions of the tick come first (R127). -/
def State.chCmdWrite (s : State) (m : Master) (n : Chan) (v : Nat) : State :=
  match (List.range 7).filter (v.testBit ·) with
  | [b] => match ChCmd.ofBit b with
    | some k => s.judgeHost m n [byteV v] k
    | none => s
  | l =>
    let s := s.duePatch.settle n
    if l.isEmpty && s.used n then s.jotWrite m (0x10 + n.val) 0x04 [byteV v] 0
    else s.refuseCmd (.host m [byteV v]) n

/-- A write of CH_ID_CTL (R150, R152, R423). -/
def State.idCtlWrite (s : State) (m : Master) (n : Chan) (v : Nat) : State :=
  match v % 4 with
  | 0 => s.jotWrite m (0x10 + n.val) 0x60 [byteV v] 0
  | 1 => s.identStart m n
  | 2 => s.identAbort m n
  | _ => s.jotWrite m (0x10 + n.val) 0x60 [byteV v] 1

/-- W1C flags of CH_LOOP_STATUS. -/
def ChLoop.clear (l : ChLoop) (v : Nat) : ChLoop :=
  { l with
    ovl := l.ovl && ! v.testBit 2, invalid := l.invalid && ! v.testBit 3, frozen := l.frozen && ! v.testBit 4,
    bfOvf := l.bfOvf && ! v.testBit 5, paceMiss := l.paceMiss && ! v.testBit 6 }

/-- W1C flags of CH_CLS_STATUS. -/
def ChLoop.clearDm (l : ChLoop) (v : Nat) : ChLoop :=
  { l with
    coilDm := l.coilDm && ! v.testBit 0, pilotDm := l.pilotDm && ! v.testBit 1,
    rippleDm := l.rippleDm && ! v.testBit 2, identDm := l.identDm && ! v.testBit 3 }

/-- Model choice: assumption 28. -/
def State.wrCh (m : Master) (n : Chan) : List RegWr :=
  let w := 0x10 + n.val
  [ ⟨0x04, 1, false, fun s v => s.chCmdWrite m n v⟩,
    ⟨0x08, 2, false, fun s v => s.modCh n fun k => { k with loop := k.loop.clear v }⟩,
    ⟨0x0A, 1, false, fun s v =>
      (s.modCh n fun k => { k with keep := { k.keep with
        holdOpen := v.testBit 0, playOnRecover := v.testBit 1 } }).jotWrite m w 0x0A [byteV v] 0⟩,
    ⟨0x18, 4, true, fun s v => s.modCh n fun k => { k with loop := { k.loop with fePeak := BitVec.ofNat 32 v } }⟩,
    ⟨0x24, 2, false, fun s v => s.modCh n fun k => { k with loop := k.loop.clearDm v }⟩,
    ⟨0x40, 1, false, fun s v => if v % 4 = 0 then s else s.reqBank m n (v.testBit 0) (v.testBit 1)⟩,
    ⟨0x42, 2, true, fun s v => s.fadeLenWrite m n (BitVec.ofNat 16 v)⟩,
    ⟨0x44, 2, true, fun s v => s.settleWrite m n (BitVec.ofNat 16 v)⟩,
    ⟨0x4C, 4, true, fun s v => if s.used n then
      s.modCh n fun k => { k with fgk := { k.fgk with sat := BitVec.ofNat 32 v } } else s⟩,
    ⟨0x50, 2, false, fun s v => s.modCh n fun k => { k with model := { k.model with
      xClamp := k.model.xClamp && ! v.testBit 2 } }⟩,
    ⟨0x60, 1, false, fun s v => s.idCtlWrite m n v⟩,
    ⟨0x7C, 1, false, fun s v => s.rlCtlWrite m n (byteV v)⟩,
    ⟨0x7E, 2, false, fun s v => s.modCh n fun k => { k with learn := { k.learn with
      clamped := k.learn.clamped && ! v.testBit 0 } }⟩,
    ⟨0x94, 2, false, fun s v => s.modCh n fun k => { k with prot := { k.prot with
      guardFlag := k.prot.guardFlag && ! v.testBit 1, openWarn := k.prot.openWarn && ! v.testBit 12 } }⟩,
    ⟨0xA0, 4, true, fun s v => s.modCh n fun k => { k with prot := { k.prot with peakX := BitVec.ofNat 32 v } }⟩,
    ⟨0xB0, 1, false, fun s v => s.diagCtlWrite m n (byteV v)⟩ ]

def State.wrSd (m : Master) (k : Die) : List RegWr :=
  [ ⟨0x04, 2, false, fun s v => s.modDie k fun d => { d with laneErr := d.laneErr && ! v.testBit 1 }⟩,
    ⟨0x06, 1, false, fun s v => s.sdCtlWrite m k (byteV v)⟩,
    ⟨0x08, 1, false, fun s v => s.sdRampWrite m k (byteV v)⟩,
    ⟨0x10, 2, false, fun s v => s.modDie k fun d => { d with dieDm := d.dieDm && ! v.testBit 0 }⟩ ] ++
  (List.finRange 8).map (fun j => ⟨0x28 + 0x10 * j.val, 4, true, fun s v =>
    s.modCh (dieChan k j) fun c => { c with stage := { c.stage with acts := BitVec.ofNat 32 v } }⟩)

/-- The registers of a window that a write changes. COEF_SEL is handled with its strobes. -/
def winWrites (m : Master) (w : Nat) : List RegWr :=
  if h : 0x10 ≤ w ∧ w < 0x50 then State.wrCh m ⟨w - 0x10, by omega⟩
  else if h : 0x50 ≤ w ∧ w < 0x58 then State.wrSd m ⟨w - 0x50, by omega⟩
  else
    match w with
    | 0 => State.wrSys m
    | 1 => State.wrPwr m
    | 2 => State.wrEvt m
    | 4 => State.wrLnk m .a
    | 5 => State.wrLnk m .b
    | 6 => State.wrSwp m
    | 7 => State.wrSec m
    | 8 => State.wrBld m
    | 9 => State.wrTwp m
    | 0xA => State.wrTrc m
    | 0xB => State.wrFlx m
    | 0xC => State.wrMtb m
    | _ => []

/-! ## Registers wider than a beat (R34) -/

/-- Base of the wide register that a beat belongs to. -/
def wideBase (w wo : Nat) : Option Nat :=
  if w = 0x01 && (wo = 0x10 || wo = 0x14) then some 0x10
  else if w = 0x03 && (wo = 0x20 || wo = 0x24) then some 0x20
  else if w = 0x06 && (wo = 0x28 || wo = 0x2C) then some 0x28
  else none

/-- The whole register is written (assumption 27). -/
def State.wideWrite (s : State) (m : Master) (w v : Nat) : State :=
  match w with
  | 1 => s.chReset m (BitVec.ofNat 64 v)
  | 3 => s.rdSeqWrite m (BitVec.ofNat 64 v)
  | _ => ({ s with swp := { s.swp with rejoinMask := BitVec.ofNat 64 v } }).jotWrite m 0x06 0x28 (leBytes 8 v) 0

/-- A beat of a wide register: staged, and accepted with the staged beats when it is the last (assumption 27). -/
def State.wideBeat (s : State) (m : Master) (w base wo : Nat) (b : Beat) : State :=
  let a := 256 * w
  let mine := fun (e : Master × Nat × Byte) => e.1 = m && a + base ≤ e.2.1 && e.2.1 < a + base + 8
  let fresh := b.map fun e => (m, a + e.1, e.2)
  let keep := s.wide.filter fun e => ! (fresh.any fun f => f.1 = e.1 && f.2.1 = e.2.1)
  if wo = base then { s with wide := fresh ++ keep }
  else
    let all : Beat := ((fresh ++ keep).filter mine).map fun e => (e.2.1 - a, e.2.2)
    let old := fun o => if w = 0x01 then (0 : Byte) else regByte (s.winRegs m w) o
    let v := all.merge base 8 old
    ({ s with wide := s.wide.filter fun e => ! mine e }).wideWrite m w v

/-! ## One beat in the register space -/

/-- A register that a write changes stands at an offset of a window. -/
def writable (m : Master) (w off : Nat) : Bool :=
  (wideBase w (off / 4 * 4)).isSome || (0x60 ≤ w && w < 0x70 && 4 ≤ off && off < 8) ||
    (winWrites m w).any fun r => r.off ≤ off && off < r.off + r.n

/-- The beat writes a register that the owning chapter keeps from the master (R32) (assumption 24). -/
def rightless (m : Master) (w : Nat) (b : Beat) : Bool :=
  b.any fun e => writable m w e.1 && ! regRight m w e.1

/-- A register write of a beat that its owning rule denies (R32, R37, R65) (assumption 24). -/
def State.beatDenied (s : State) (m : Master) (w : Nat) (b : Beat) : Bool :=
  if rightless m w b then true
  else if w = 0x00 then
    match b.byte 0x10 with
    | some v => (m = .m4) || (m != .m0 && v.getLsbD 0 != s.mx.remap)
    | none => false
  else if w = 0x08 && b.touches 0x18 4 then
    m = .m0 || (s.ldr.owner.isSome && s.ldr.owner != some m)
  else false

/-- COEF_SEL under its strobes: whole with byte 0x07 (R388). -/
def State.coefBeat (s : State) (q : Fin 16) (b : Beat) : State :=
  if b.touches 0x04 4 then
    let old := leBytes 4 (s.coef[q]).sel.toNat
    s.coefSel q (BitVec.ofNat 32 (b.merge 0x04 4 fun o => byteAt old (o - 4))) (b.touches 0x07 1)
  else s

/-- Registers of a beat in ascending order (assumption 27). -/
def State.applyWrites (s : State) (m : Master) (w : Nat) (b : Beat) : List RegWr → State
  | [] => s
  | r :: t =>
    let s := if b.touches r.off r.n then
        let old := fun o => if r.keep then regByte (s.winRegs m w) o else 0
        r.act s (b.merge r.off r.n old)
      else s
    s.applyWrites m w b t

/-- One beat at an aligned offset of a window (R7 to R9, R33, R380). A register that the owning chapter keeps from
the master denies the beat; one that no write changes ignores it. -/
def State.regBeat (s : State) (m : Master) (w wo : Nat) (b : Beat) : State :=
  if ! windowPresent w then s
  else if rightless m w b then s.denyReg m w ((b.headD (wo, 0)).1)
  else if h : 0x60 ≤ w ∧ w < 0x70 then s.coefBeat ⟨w - 0x60, by omega⟩ b
  else
    match wideBase w wo with
    | some base => s.wideBeat m w base wo b
    | none => s.applyWrites m w b (winWrites m w)

/-! ## Bursts (R32, R34) -/

/-- A byte written outside the register space that the master may write (assumption 63). -/
def State.plainByte (s : State) (a : Nat) (v : Byte) : State :=
  match targetOf a with
  | 0 =>
    if (a < 0x10000) = (s.mx.remap = false) then s else { s with ram := Mem.write s.ram (a % 0x10000) v }
  | 1 => { s with bld := { s.bld with store := Mem.write s.bld.store (a - 0x10000000) v } }
  | _ => s

/-- The beats of a burst: aligned address and strobed bytes. -/
def beatsOf (bs : List (Nat × Byte)) : List (Nat × List (Nat × Byte)) :=
  bs.foldr (fun e acc =>
    let wa := e.1 / 4 * 4
    match acc with
    | (x, l) :: t => if x = wa then (x, e :: l) :: t else (wa, [e]) :: acc
    | [] => [(wa, [e])]) []

/-- One beat of a burst: state and whether it was denied. -/
def State.busBeat (s : State) (m : Master) (wa : Nat) (l : List (Nat × Byte)) : State × Bool :=
  if targetOf wa = 3 then
    let w := (wa - 0x30000000) / 256
    let b : Beat := l.map fun e => (e.1 % 256, e.2)
    let den := windowPresent w && s.beatDenied m w b
    (s.regBeat m w (wa % 256) b, den)
  else (l.foldl (fun s e => s.plainByte e.1 e.2) s, false)

/-- The beat is an accepted reset of the port whose mailbox writes it (R265, R423). -/
def resetsOwn (m : Master) (wa : Nat) (l : List (Nat × Byte)) : Bool :=
  let at_ (p : Port) : Bool := m = p.master && wa = 0x30000004 + 256 * (4 + p.num) &&
    l.any fun e => e.1 = wa && e.2.getLsbD 1 && ! e.2.getLsbD 0
  at_ .a || at_ .b

/-- Beats in order: the state, whether any was denied, and whether the burst was cut. A beat that resets the port
whose mailbox writes the burst is the last one accepted; the matrix drops those that remain (R38) (assumptions 24
and 25). -/
def State.busBeats (m : Master) : State → List (Nat × List (Nat × Byte)) → State × Bool × Bool
  | s, [] => (s, false, false)
  | s, (wa, l) :: t =>
    let r := s.busBeat m wa l
    match resetsOwn m wa l, t with
    | true, (x, _) :: _ => (r.1.cutBurst m (targetOf x) t.length x, r.2, true)
    | _, _ =>
      let q := State.busBeats m r.1 t
      (q.1, r.2 || q.2.1, q.2.2)

/-- One write burst: the bytes of regions that the master may not write change nothing and are denied
once; the rest are written beat by beat. Answers whether any byte was denied, and whether the burst was cut. -/
def State.busWrite (s : State) (m : Master) (a : Nat) (bs : List Byte) : State × Bool × Bool :=
  let all := withAddr a bs
  let bad := all.filter fun e => ! canWrite m (targetOf e.1)
  let s := match bad with
    | [] => s
    | e :: _ => s.deny m (targetOf e.1) e.1 true
  let r := State.busBeats m s (beatsOf (all.filter fun e => canWrite m (targetOf e.1)))
  (r.1, r.2.1 || ! bad.isEmpty, r.2.2)

/-- A register write by a master (R7); an ill-formed burst is no step of the hardware. -/
def execRegisterWrite (m : Master) (addr : BitVec 32) (data : List Byte) (s : State) : Out :=
  if burstWf addr.toNat data.length then .next (s.standbyAfter (s.busWrite m addr.toNat data).1) else .fault .illFormed

end Sys2Proof.Machine
end

