-- ==== Sys2Proof/Machine/Mailbox.lean ====
section
/-! DEFINITION. Chapter The Lenex Link, frames: the mailbox and its requests, the bulk region, the checks
of a downstream frame, distrust, and the upstream frame (R266 to R276, R282 to R289, R302, R305, R349). -/

namespace Sys2Proof.Machine

/-! ## The mailbox (R282 to R285) -/

/-- A request of the downstream control slice (Table 10-5). -/
structure Req where
  seq : Byte
  op : Byte
  len : Nat
  addr : BitVec 32
  arg : BitVec 32
  data : List Byte
  deriving DecidableEq, Repr

/-- What a request is answered with: status, result word where the operation has one, response DATA. -/
structure Answer where
  status : Nat
  arg : Option (BitVec 32) := none
  data : List Byte := []
  deriving DecidableEq, Repr

def stOk : Nat := 0
def stDenied : Nat := 1
def stBadOp : Nat := 2
def stBadLen : Nat := 3
def stNoSession : Nat := 4
def stBusy : Nat := 5
def stCut : Nat := 6

/-- LEN lies in the operation's range (Table 10-6). -/
def lenOk (op len : Nat) : Bool :=
  if op = 1 || op = 2 then 1 ≤ len && len ≤ 52
  else if op = 4 then len = 8
  else if op = 7 then len = 0
  else len ≤ 52

/-- A JOURNAL or TRACE readout runs on the port. -/
def LinkPort.readout (l : LinkPort) : Bool := l.jrnRead.isSome || l.trcRead.isSome

/-- A journal readout whose next entry was overwritten ends at once (R349). -/
def LinkPort.dropStale (l : LinkPort) (jrn : Journal) : LinkPort :=
  match l.jrnRead with
  | some (next, _) => if (jrn.entry (BitVec.ofNat 64 next)).isNone then { l with jrnRead := none } else l
  | none => l

/-- A JOURNAL request (R349): the first SEQ sent and the number of entries that follow (assumption 55). -/
def State.journalReq (s : State) (p : Port) (first : BitVec 64) (count : Nat) : State × Answer :=
  let start := max first.toNat s.jrn.oldest.toNat
  let n := if s.jrn.failed then 0 else min count (s.jrn.next.toNat - start)
  (s.modPort p fun l => { l with jrnRead := if n = 0 then none else some (start, start + n) },
    { status := stOk, arg := some (BitVec.ofNat 32 n), data := leBytes 8 start })

/-- The effect of a request that the port executes, judged in the order of R285 (assumption 55). -/
def State.mbExec (s : State) (p : Port) (r : Req) : State × Answer :=
  let m := p.master
  let op := r.op.toNat
  if (s.port p).session.isNone && op != 3 then (s, { status := stNoSession })
  else if op = 0 || 7 < op then (s, { status := stBadOp })
  else if ! lenOk op r.len then (s, { status := stBadLen })
  else
    match op with
    | 1 =>
      let q := s.busRead m r.addr.toNat r.len
      (q.1, { status := if q.2.2 then stDenied else stOk, data := q.2.1 })
    | 2 =>
      let q := s.busWrite m r.addr.toNat (slice r.data 0 r.len)
      (q.1, { status := if q.2.2 then stCut else if q.2.1 then stDenied else stOk })
    | 3 =>
      let q := s.session p r.arg (slice r.data 0 r.len)
      (q.1, { status := stOk, arg := some q.2.arg, data := q.2.data })
    | 4 =>
      if ((s.port p).dropStale s.jrn).readout then (s, { status := stBusy })
      else s.journalReq p (BitVec.ofNat 64 (field r.data 0 8)) r.arg.toNat
    | 5 =>
      if ((s.port p).dropStale s.jrn).readout then (s, { status := stBusy })
      else
        let q := (s.modPort p fun l => l.dropStale s.jrn).traceReq p (slice r.data 0 r.len)
        (q.1, { status := stOk, arg := some q.2 })
    | 6 =>
      let q := s.attestReq p (slice r.data 0 r.len)
      (q.1, { status := stOk, arg := some (BitVec.ofNat 32 q.2) })
    | _ => (s.modPort p fun l => { l with jrnRead := none, trcRead := none }, { status := stOk })

/-- The response of the upstream slice. Where the operation names no result word, ARG is free (assumption 55). -/
def Answer.response (a : Answer) (r : Req) (free : BitVec 32) : Response :=
  { seq := r.seq, op := r.op, len := a.data.length, status := BitVec.ofNat 8 a.status, addr := r.addr,
    arg := a.arg.getD free, data := a.data }

/-- A port whose lane is DOWN, as a removed one's is, brings no frame and so no request (R265, R283, Table 1-8). -/
def State.portServes (s : State) (p : Port) : Bool := (s.port p).lane != .down

/-- A request that a port serves is executed once: its operation is none but 0, and its SEQ is new (R283). -/
def State.mbNew (s : State) (p : Port) (r : Req) : Bool :=
  s.portServes p && r.op != 0 && ! ((s.port p).mbValid && (s.port p).mbSeq = r.seq)

/-- What a request does, and its update of LNK_MB (R283, R284); so does a write that resets its own port, after the reset
has cleared the mailbox (R290) (assumption 55). -/
def State.mbDone (s : State) (p : Port) (r : Req) : State :=
  let q := s.mbExec p r
  let (d, t) := q.1.draw
  let t := t.modPort p fun l => { l with
    mbValid := true, mbSeq := r.seq, resp := q.2.response r (Config.freeBits 32 d) }
  if q.2.status = stOk || q.2.status = stCut then t
  else t.raise (Ev.ofPort p Ev.mailboxError) 0xFF q.2.status

/-- The request in the slice of a frame. -/
def State.mbSlice (s : State) (p : Port) (r : Req) : State := if s.mbNew p r then s.mbDone p r else s

/-- A request by itself; an accepted STANDBY follows its end (R325). -/
def State.mbRun (s : State) (p : Port) (r : Req) : State := if s.mbNew p r then (s.mbDone p r).standbyEnd else s

def execMbRead (p : Port) (seq : Byte) (addr : BitVec 32) (len : Byte) (s : State) : Out :=
  .next (s.mbRun p { seq := seq, op := 1, len := len.toNat, addr := addr, arg := 0, data := [] })

def execMbWrite (p : Port) (seq : Byte) (addr : BitVec 32) (data : List Byte) (s : State) : Out :=
  .next (s.mbRun p { seq := seq, op := 2, len := data.length, addr := addr, arg := 0, data := data })

def execMbJournal (p : Port) (seq : Byte) (first : BitVec 64) (count : BitVec 32) (s : State) : Out :=
  .next (s.mbRun p { seq := seq, op := 4, len := 8, addr := 0, arg := count, data := leBytes 8 first.toNat })

def execMbTrace (p : Port) (seq : Byte) (data : List Byte) (s : State) : Out :=
  .next (s.mbRun p { seq := seq, op := 5, len := data.length, addr := 0, arg := 0, data := data })

def execMbAttest (p : Port) (seq : Byte) (data : List Byte) (s : State) : Out :=
  .next (s.mbRun p { seq := seq, op := 6, len := data.length, addr := 0, arg := 0, data := data })

def execMbCancel (p : Port) (seq : Byte) (s : State) : Out :=
  .next (s.mbRun p { seq := seq, op := 7, len := 0, addr := 0, arg := 0, data := [] })

/-- A session request: MSG, fragment index and count in ARG (R302). -/
def sessReq (seq : Byte) (msg idx cnt : Nat) (data : List Byte) : Req :=
  { seq := seq, op := 3, len := data.length, addr := 0, arg := BitVec.ofNat 32 (msg + 256 * idx + 65536 * cnt),
    data := data }

def execSessionStart (p : Port) (seq : Byte) (s : State) : Out := .next (s.mbRun p (sessReq seq 1 0 0 []))

def execSessionOffer (p : Port) (seq idx cnt : Byte) (data : List Byte) (s : State) : Out :=
  .next (s.mbRun p (sessReq seq 2 idx.toNat cnt.toNat data))

def execSessionRead (p : Port) (seq idx : Byte) (s : State) : Out :=
  .next (s.mbRun p (sessReq seq 3 idx.toNat 0 []))

def execSessionStatus (p : Port) (seq : Byte) (s : State) : Out := .next (s.mbRun p (sessReq seq 4 0 0 []))

def execSessionEnd (p : Port) (seq : Byte) (s : State) : Out := .next (s.mbRun p (sessReq seq 5 0 0 []))

/-! ## The bulk region (R286) -/

/-- The bulk region of an accepted frame. -/
def State.bulk (s : State) (p : Port) (b : List Byte) : State :=
  if b.isEmpty then s
  else
    let count := field b 2 2
    let ok := b.length = 8 + count && byteAt b 0 = 0x01 && count % 8 = 0 && 8 ≤ count && count ≤ 1792
    if ! ok then s.raise Ev.segmentError p.num 0
    else if s.ldr.phase != .receiving || s.bld.port != (p = Port.b) then
      s.modPort p fun l => { l with bulkIgnored := satInc l.bulkIgnored }
    else s.segment p (field b 4 4) (b.drop 8)

/-! ## The upstream frame (R287 to R289) -/

/-- L_MAX of a rate code (Table 10-3). -/
def lmax (rate : Nat) : Nat := 250000000 * 1000 / (rateHz rate * 1001) - 16

/-- A record: header and payload, padded to a multiple of 8 (R288). -/
def upRecord (kind seq : Nat) (payload : List Byte) : List Byte :=
  [BitVec.ofNat 8 kind, 0] ++ leBytes 2 payload.length ++ leBytes 4 seq ++ payload ++
    List.replicate ((8 - payload.length % 8) % 8) 0

/-- The next record of a port in KIND order, and the port after it is sent. A journal readout whose entry
has been overwritten ends (R349). -/
def LinkPort.nextRecord (l : LinkPort) (jrn : Journal) (ram : TrcRam) : Option (Nat × List Byte × LinkPort) :=
  match l.evtQ with
  | e :: t => some (1, e.bytes, { l with evtQ := t })
  | [] =>
    match l.rptQ with
    | r :: t => some (2, r, { l with rptQ := t })
    | [] =>
      let later : Option (Nat × List Byte × LinkPort) :=
        match l.trcRead.bind (nextBlock ram) with
        | some (b, r) => some (4, b, { l with trcRead := r })
        | none =>
          match l.attestQ with
          | r :: t => some (5, r, { l with attestQ := t })
          | [] => none
      match l.jrnRead with
      | none => later
      | some (next, stop) =>
        match jrn.entry (BitVec.ofNat 64 next) with
        | some e => some (3, e, { l with jrnRead := if next + 1 < stop then some (next + 1, stop) else none })
        | none => later.map fun r => (r.1, r.2.1, { r.2.2 with jrnRead := none })

/-- Fill the record region until the next record would not fit (R289). -/
def LinkPort.fill (jrn : Journal) (ram : TrcRam) : Nat → Nat → LinkPort → List Byte → LinkPort × List Byte
  | 0, _, l, acc => (l, acc)
  | k + 1, room, l, acc =>
    match l.nextRecord jrn ram with
    | none => (l, acc)
    | some (kind, payload, l') =>
      let r := upRecord kind (l.recSeq.getD (kind - 1) 0) payload
      if room < r.length then (l, acc)
      else
        let l' := { l' with recSeq := l.recSeq.set (kind - 1) ((l.recSeq.getD (kind - 1) 0 + 1) % 2 ^ 32) }
        LinkPort.fill jrn ram k (room - r.length) l' (acc ++ r)

/-- The upstream control slice (Table 10-5) (assumption 55). -/
def Response.bytes (r : Response) : List Byte :=
  [r.seq, r.op, BitVec.ofNat 8 r.len, r.status] ++ leBytes 4 r.addr.toNat ++ leBytes 4 r.arg.toNat ++ slice r.data 0 52

/-- The upstream frame that a port sends next (Table 10-9), and the port after it. -/
def State.upFrame (s : State) (p : Port) : LinkPort :=
  let l0 := (s.port p).dropStale s.jrn
  let room := lmax (if l0.rate = 7 then 1 else l0.rate.toNat) - 92
  let r := l0.fill s.jrn s.ram6 300 room []
  let l := r.1
  let flags := (Decidable.decide (s.link.active = some p)).toNat + 2 * l0.isReady.toNat + 4 * s.evt.alert.toNat +
    8 * s.link.inputLost.toNat
  let head := [0x01, l.rate.setWidth 8, BitVec.ofNat 8 flags, 0] ++ leBytes 4 l.frame.toNat ++
    leBytes 2 r.2.length ++ leBytes 2 l.sigma.toNat ++ leBytes 4 l.upSeq.toNat ++ l.resp.bytes ++ r.2
  let tag := match l.session with
    | some x => frameTag x 1 x.wrapUp l.upSeq head
    | none => List.replicate 8 0
  let body := head ++ tag
  let next := l.upSeq + 1
  { l with
    upSeq := next, tx := body ++ leBytes 4 (crc32 body).toNat,
    session := l.session.map fun x => if next = 0 then { x with wrapUp := x.wrapUp + 1 } else x }

/-- The K28.5 run that ends a downstream frame starts an upstream frame, once the transmitter runs. -/
def State.sendUp (s : State) (p : Port) : State := if (s.port p).txOn then s.setPort p (s.upFrame p) else s

/-! ## Checks of a downstream frame (R266 to R271) -/

/-- The fields of a downstream frame (Table 10-2). -/
structure Down where
  rate : Nat
  streams : Nat
  frame : BitVec 32
  bulkLen : Nat
  session : BitVec 16
  samples : List Int
  req : Req
  bulk : List Byte
  tag : List Byte
  /-- Bytes that the tag covers. -/
  aad : List Byte
  deriving DecidableEq, Repr

/-- F of a frame, from its header (R267). -/
def frameLen (b : List Byte) : Nat := 92 + 4 * (byteAt b 2).toNat + field b 8 2

/-- A slice's request (Table 10-5). -/
def sliceReq (b : List Byte) : Req :=
  { seq := byteAt b 0, op := byteAt b 1, len := (byteAt b 2).toNat, addr := BitVec.ofNat 32 (field b 4 4),
    arg := BitVec.ofNat 32 (field b 8 4), data := slice b 12 52 }

def parseDown (b : List Byte) : Down :=
  let n := (byteAt b 2).toNat
  let k := field b 8 2
  { rate := (byteAt b 1).toNat, streams := n, frame := BitVec.ofNat 32 (field b 4 4), bulkLen := k,
    session := BitVec.ofNat 16 (field b 10 2),
    samples := (List.range n).map fun i => (BitVec.ofNat 32 (field b (16 + 4 * i) 4)).toInt,
    req := sliceReq (slice b (16 + 4 * n) 64), bulk := slice b (80 + 4 * n) k, tag := slice b (80 + 4 * n + k) 8,
    aad := slice b 0 (80 + 4 * n + k) }

/-- The frame's CRC matches (R267). -/
def crcOk (b : List Byte) : Bool :=
  let f := frameLen b
  f ≤ b.length && (crc32 (b.take (f - 4))).toNat = field b (f - 4) 4

/-- A frame without a format error (R270). -/
def formatOk (f : RawFrame) (d : Down) : Bool :=
  byteAt f.bytes 0 = 0x01 && d.rate ≤ 5 && d.streams ≤ 96 && d.bulkLen % 8 = 0 && frameLen f.bytes ≤ lmax d.rate &&
    f.delimOk && f.bytes.length = frameLen f.bytes

/-- WRAP that the port tries for a frame (R305) (assumption 54). -/
def Session.wrapFor (x : Session) (frame : BitVec 32) : BitVec 32 :=
  match x.newest with
  | some n => if 0 < (frame - n).toInt && frame < n then x.wrapDown + 1 else x.wrapDown
  | none => x.wrapDown

/-- How the session and the tag of a frame come out. -/
inductive AuthOut where
  | admitted
  | current
  | cutover (x : Session)
  | fails
  deriving DecidableEq, Repr

/-- Step 3 of R269, and the cutover of R304. -/
def LinkPort.auth (l : LinkPort) (d : Down) : AuthOut :=
  match l.session with
  | none => .admitted
  | some x =>
    if d.session = x.num && d.tag = frameTag x 0 (x.wrapFor d.frame) d.frame d.aad then .current
    else
      match l.pendSess with
      | some y => if d.session = y.num && d.tag = frameTag y 0 0 d.frame d.aad then .cutover y else .fails
      | none => .fails

/-- The frame is stale or late (R271); an admitted frame counts as an accepted one (R269) (assumption 54). -/
def State.stale (s : State) (p : Port) (frame : BitVec 32) : Bool :=
  (match (s.port p).newest with
    | some n => Decidable.decide ((frame - n).toInt ≤ 0)
    | none => false) || (s.link.active = some p && ! s.stm.unread frame)

/-! ## Rejection and distrust (R276) -/

/-- The last 1,024 frames that passed their CRC (assumption 54). -/
def LinkPort.count (l : LinkPort) (rejected : Bool) : LinkPort := { l with rejWin := (rejected :: l.rejWin).take 1024 }

/-- The port is declared untrusted (assumption 54). -/
def State.distrust (s : State) (p : Port) : State :=
  let s := s.endSession p 3
  let s := s.modPort p fun l => { l with untrusted := true, rejWin := [] }
  let s := s.jotRaise 0x12 0x09 0 0b011 p.num (linkData 0b011 (portByte p) noPort 0) (Ev.ofPort p Ev.portUntrusted) 0xFF 0
  (s.switchTrigger p 0b011).promote p

/-- A rejected frame: counted, reported, and the 16th distrusts the port. -/
def State.rejectFrame (s : State) (p : Port) (ev : Nat) (f : LinkPort → LinkPort) : State :=
  let s := s.modPort p fun l => { (f l).count true with accRun := 0 }
  let s := s.raise (Ev.ofPort p ev) 0xFF 0
  if 16 ≤ ((s.port p).rejWin.filter id).length then s.distrust p else s

/-! ## Acceptance (R269, R272, R75, R79, R80, R82) -/

/-- A session counts an accepted frame; the session-age event at 2³¹ (R305, R306). -/
def Session.took (x : Session) (frame : BitVec 32) : Session :=
  { x with wrapDown := x.wrapFor frame, newest := some frame, frames := x.frames + 1 }

/-- What an accepted frame writes into its port. `time`: its arrival, 1/1,024 tick. -/
def LinkPort.accept (l : LinkPort) (d : Down) (time : Nat) : LinkPort :=
  { l.count false with
    stamps := ((d.frame, time) :: l.stamps).take 64,
    newest := some d.frame, frame := d.frame, rate := BitVec.ofNat 3 d.rate,
    streams := d.streams, accRun := l.accRun + 1, shadow := ((d.frame, d.samples) :: l.shadow).take 8,
    session := l.session.map fun x => x.took d.frame }

/-- An accepted frame on the active port: tracker, samples, missing streams, slips. `stamp`: its arrival in the running
tick, which the phase detector compares with the one that p predicts (R76). -/
def State.acceptActive (s : State) (p : Port) (d : Down) (stamp : Fin 1024) : State :=
  let s := { s with
    link := { s.link with silent := 0 }, stm := { s.stm with holdover := false },
    trc := { s.trc with frameHit := s.trc.frameHit || d.frame = s.trc.trcFrame } }
  let s := if BitVec.ofNat 3 d.rate = s.mtb.rate then s else s.syncTrigger 0x16 2
  let s := s.writePosition d.frame d.samples
  let miss := s.missingSlots d.streams
  let was := (s.port p).missing
  let s := s.modPort p fun l => { l with missing := slotMask miss }
  let s := match miss with
    | n :: _ => if was = 0 then s.raise Ev.missingStream n 0 else s
    | [] => s
  if ! s.stm.placed then { s with stm := s.stm.place d.frame s.mtb.lagNow }
  else
    let err := s.stm.phaseAt s.mtb.lagNow.toNat d.frame ((stamp.val : Rat) - s.link.arrOffset)
    let s := { s with stm := { s.stm with phase := err } }
    let lag := (d.frame - s.stm.windowEnd).toInt
    if lag < 0 || 31 < lag then
      let s := s.raise Ev.trackerSlip 0xFF 0
      ({ s with mtb := { s.mtb with slips := satInc s.mtb.slips } }).syncTrigger 0x16 1
    else s

/-- The running average of the ports' difference of arrival takes a frame counter that both have received (R80)
(assumption 69). -/
def State.arrival (s : State) (p : Port) (frame : BitVec 32) (time : Nat) : State :=
  match (s.port p.other).stamps.find? fun e => e.1 = frame with
  | some e =>
    let d : Int := match p with
      | .a => (e.2 : Int) - (time : Int)
      | .b => (time : Int) - (e.2 : Int)
    { s with link := { s.link with arrSum := s.link.arrSum + d, arrCount := s.link.arrCount + 1 } }
  | none => s

/-- Model choice: assumption 54. -/
def State.acceptFrame (s : State) (p : Port) (d : Down) (stamp : Fin 1024) : State :=
  let time := 1024 * s.now + stamp.val
  let s := (s.modPort p fun l => l.accept d time).arrival p d.frame time
  let s := match (s.port p).session with
    | some x => if x.frames = 2 ^ 31 then s.raise Ev.sessionAge p.num 0 else s
    | none => s
  let s := if s.link.active = some p then s.acceptActive p d stamp else s
  ((s.inputBack).mbSlice p d.req).bulk p d.bulk

/-- The frame's checks in order, and what each outcome does (R269). -/
def State.checkFrame (s : State) (p : Port) (f : RawFrame) : State :=
  if ! crcOk f.bytes then
    (s.modPort p fun l => { l with errCrc := satInc l.errCrc, accRun := 0, crcRun := 0 }).raise
      (Ev.ofPort p Ev.frameCrc) 0xFF 0
  else
    let s := s.modPort p fun l => { l with crcRun := l.crcRun + 1 }
    let d := parseDown f.bytes
    if ! formatOk f d then
      s.rejectFrame p Ev.frameFormat fun l => { l with errFormat := satInc l.errFormat }
    else
      let a := (s.port p).auth d
      if a = .fails then s.rejectFrame p Ev.frameAuth fun l => { l with errAuth := satInc l.errAuth }
      else
        let s := match a with
          | .cutover y => s.establish p y
          | _ => s
        if s.stale p d.frame then
          s.modPort p fun l => { l.count false with errStale := satInc l.errStale, accRun := 0 }
        else if a = .admitted then
          (s.modPort p fun l => { l.count false with newest := some d.frame, accRun := 0 }).mbSlice p d.req
        else s.acceptFrame p d f.stamp

/-- A downstream frame on a lane with carrier, and the upstream frame that its end starts, which carries the response. -/
def execLenexFrame (p : Port) (f : RawFrame) (s : State) : Out :=
  if s.dev.held = .running && (s.port p).lane != .down then .next (s.standbyAfter ((s.checkFrame p f).sendUp p))
  else .next s

end Sys2Proof.Machine
end

