-- ==== Sys2Proof/Machine/TwoWire.lean ====
section
/-! DEFINITION. Chapter The Two-Wire Management Port: addresses, the pointer, staging and commit, reads
through a snapshot, stretches, the wake, the stuck bus, alert responses (R351 to R364). -/

namespace Sys2Proof.Machine

/-- The port is clocked and working, and its pins have their supply (R313, R353, Table 1-8). -/
def State.twpRuns (s : State) : Bool :=
  s.dev.held = .running && s.pwr.vioOk && s.twp.clocked && ! s.dev.gone.contains .twoWire

/-- The port's own address (R351). -/
def Twp.own (t : Twp) : BitVec 7 := 0x58 + t.addr.setWidth 7

/-- The levels of ADDR2-ADDR0, which the board ties: those that the last START on the bus showed (R326) (assumption 65). -/
def Twp.levels (t : Twp) : BitVec 3 := t.pins.getD Config.addrPins

/-- Discard the staged bytes; each discard is counted (R356). -/
def Twp.discard (t : Twp) : Twp :=
  if t.staged.isEmpty then t else { t with staged := [], unfinished := satInc t.unfinished }

/-- Stage a byte: an offset keeps the place of its first staging and takes the last value (R355). -/
def stage (off v : Byte) : List (Byte × Byte) → List (Byte × Byte)
  | [] => [(off, v)]
  | (o, w) :: t => if o = off then (off, v) :: t else (o, w) :: stage off v t

/-- The windows that the port serves; in HALT with cause BOOT those of R292 alone (R353). -/
def State.twpServes (s : State) (w : Nat) : Bool :=
  windowPresent w &&
    (! (s.dev.state = .halt && s.dev.haltCause = .boot) || w ≤ 3 || w = 7)

/-- The port takes part in an alert response (R361). -/
def State.takesPart (s : State) : Bool :=
  s.twp.araEn && s.alerting != 0 && ! s.twp.answered

/-- An address byte after a START, or after a repeated START of the transaction. While a commit is in flight the port
stretches SCL before its acknowledge bit; after a cap before a data byte it leaves SDA released for the rest of the
transaction (R351, R354, R356, R358) (assumption 64). -/
def State.twpAddress (s : State) (a : BitVec 7) (read : Bool) (strap : BitVec 3) (repeated : Bool) : State :=
  let t := { s.twp with addr := strap, pins := some strap, readDue := none, snap := none }
  let mine := a = t.own
  let t := if repeated && mine && read then t else t.discard
  let t := if repeated then t else { t with txWindow := t.window, mute := false }
  let wait := t.flight.isSome
  let t :=
    if t.mute then { t with phase := .deaf, acked := false, ackDue := false }
    else if mine then { t with phase := if read then .read else .pointer, acked := ! wait, ackDue := wait }
    else { t with phase := .deaf, acked := a = 0x0C && read && s.takesPart, ackDue := false }
  { s with twp := t }

def execTwpAddress (a : BitVec 7) (read : Bool) (strap : BitVec 3) (repeated : Bool) (s : State) : Out :=
  if s.twpRuns then .next (s.twpAddress a read strap repeated) else .next s

/-- A data byte of a write phase (R354). -/
def execTwpWriteByte (b : Byte) (s : State) : Out :=
  if s.twpRuns then
    match s.twp.phase with
    | .pointer => .next { s with twp := { s.twp with pointer := b, phase := .write } }
    | .write =>
      .next { s with twp := { s.twp with
        staged := stage s.twp.pointer b s.twp.staged, pointer := s.twp.pointer + 1 } }
    | _ => .next s
  else .next s

/-- The register of a list that holds an offset: first offset and length. -/
def regAt (l : List RegVal) (off : Nat) : Option (Nat × Nat) :=
  (l.find? fun r => r.1 ≤ off && off < r.1 + r.2.length).map fun r => (r.1, r.2.length)

/-- A snapshot's byte at an offset. -/
def snapByte (snap : Option (Nat × List Byte)) (off : Nat) : Option Byte :=
  match snap with
  | some (o, l) => if o ≤ off then l[off - o]? else none
  | none => none

/-- The byte at the pointer, from the snapshot or from a new one; a window that the port does not serve reads as an absent
one (R353, R357) (assumption 64). -/
def State.twpFetch (s : State) : State × Byte :=
  let w := s.twp.window.toNat
  let off := s.twp.pointer.toNat
  if ! s.twpServes w then (s, if off = 0 then s.twp.window else 0) else
  match snapByte s.twp.snap off with
  | some b => (s, b)
  | none =>
    match if off = 0 then none else regAt (s.winRegs .m4 w) off with
    | none => (s, s.readReg .m4 w off)
    | some (o, n) =>
      let r := s.busRead .m4 (0x30000000 + 256 * w + o) n
      ({ r.1 with twp := { r.1.twp with snap := some (o, r.2.1) } }, r.2.1.getD (off - o) 0)

/-- The byte at the pointer is read through M4: the snapshot does not cover it (R357). -/
def State.twpNeedsBus (s : State) : Bool :=
  let w := s.twp.window.toNat
  let off := s.twp.pointer.toNat
  s.twpServes w && (snapByte s.twp.snap off).isNone && off != 0 && (regAt (s.winRegs .m4 w) off).isSome

/-- Put a byte of a read phase on SDA; the phase goes on after an acknowledge (R354, R363). -/
def State.twpServe (s : State) (ack : Bool) : State :=
  let r := s.twpFetch
  { r.1 with twp := { r.1.twp with
    out := r.2, pointer := r.1.twp.pointer + 1, phase := if ack then .read else .deaf, readDue := none } }

/-- A byte of a read phase. The port holds SCL low before it until it is fetched, while the matrix serves no burst of M4 or a
commit is in flight (R354, R358, R363) (assumption 64). -/
def execTwpReadByte (ack : Bool) (s : State) : Out :=
  if s.twpRuns then
    if s.twp.mute then .next { s with twp := { s.twp with out := 0xFF } }
    else if s.twp.phase = .read then
      if (s.twp.held || s.twp.flight.isSome) && s.twpNeedsBus then .next { s with twp := { s.twp with readDue := some ack } }
      else .next (s.twpServe ack)
    else .next s
  else .next s

/-- Runs of consecutive offsets, in the order of their first staging (R355). -/
def runsOf (l : List (Byte × Byte)) : List (Nat × List Byte) :=
  l.foldr (fun e acc =>
    match acc with
    | (o, bs) :: t => if o = e.1.toNat + 1 then (e.1.toNat, e.2 :: bs) :: t else (e.1.toNat, [e.2]) :: acc
    | [] => [(e.1.toNat, [e.2])]) []

/-- Write the staged bytes of a transaction through M4, the window-select register last, and count the transaction (R355,
R9); a window that the port does not serve takes none (R353) (assumption 64). -/
def State.twpWrite (s : State) (w : Byte) (staged : List (Byte × Byte)) : State :=
  let runs := if s.twpServes w.toNat then runsOf (staged.filter fun e => e.1 != 0) else []
  let t := runs.foldl (fun t r => (State.busWrite t .m4 (0x30000000 + 256 * w.toNat + r.1) r.2).1) s
  let win := match staged.find? fun e => e.1 = 0 with
    | some e => if t.twpServes e.2.toNat then e.2 else t.twp.window
    | none => t.twp.window
  { t with twp := { t.twp with window := win, trans := t.twp.trans + 1 } }

/-- The commit of a transaction at its STOP: at once, or in flight while the matrix serves no burst of M4 (R355, R358)
(assumption 64). -/
def State.twpCommit (s : State) : State :=
  if s.twp.staged.isEmpty then s
  else if s.twp.flight.isSome then { s with twp := s.twp.discard }
  else
    let t := { s with twp := { s.twp with staged := [] } }
    if s.twp.held then { t with twp := { t.twp with flight := some (s.twp.txWindow, s.twp.staged) } }
    else t.twpWrite s.twp.txWindow s.twp.staged

/-- A STOP ends the transaction; an accepted STANDBY follows it (R325, R355). -/
def execTwpStop (s : State) : Out :=
  if s.twpRuns then
    let t := s.twpCommit
    .next ({ t with twp := { t.twp with phase := .idle, readDue := none, snap := none } }).standbyEnd
  else .next s

/-- The commit in flight completes, and the port acknowledges the address that waits for it (R355, R358) (assumption 64). -/
def State.flightEnd (s : State) : State :=
  match s.twp.flight with
  | some (w, staged) =>
    let t := ({ s with twp := { s.twp with flight := none } }).twpWrite w staged
    let due := t.twp.ackDue
    ({ t with twp := { t.twp with
      acked := t.twp.acked || due, ackDue := false, txWindow := if due then t.twp.window else t.twp.txWindow } }).standbyEnd
  | none => s

/-- The byte of a read phase that waits is fetched (R358). -/
def State.readEnd (s : State) : State :=
  match s.twp.readDue with
  | some ack => if s.twpRuns && s.twp.phase = .read then s.twpServe ack else s
  | none => s

/-- The matrix serves M4 again: the commit in flight completes, and the byte that waits is fetched (R35, R358) (assumption
64). -/
def State.twpTick (s : State) (m4Held : Bool) : State :=
  let s := { s with twp := { s.twp with held := m4Held } }
  if m4Held then s else s.flightEnd.readEnd

/-- 30 ms with staged bytes and no SCL edge, which a port without VIO sees none of (R313, R356) (assumption 16). -/
def execTwpIdleTimeout (s : State) : Out :=
  if s.dev.held = .running && s.twp.clocked && ! s.dev.gone.contains .twoWire then
    .next { s with twp := s.twp.discard }
  else .next s

/-- The bursts of up to 16 beats in which a commit travels (R355). -/
def State.flightBursts (s : State) (w : Byte) (staged : List (Byte × Byte)) : List (List (Nat × List (Nat × Byte))) :=
  let runs := if s.twpServes w.toNat then runsOf (staged.filter fun e => e.1 != 0) else []
  runs.flatMap fun r =>
    let l := beatsOf (withAddr (0x30000000 + 256 * w.toNat + r.1) r.2)
    (List.range ((l.length + 15) / 16)).map fun i => (l.drop (16 * i)).take 16

/-- The beats that are left of the burst in which a number of accepted beats ends. -/
def burstRest {β : Type} : List (List β) → Nat → List β
  | [], _ => []
  | b :: t, k => if k < b.length then b.drop k else burstRest t (k - b.length)

/-- A port self-reset cuts the commit in flight: the beats that the target had accepted, whose number is free, stay
committed, the others of the burst are dropped, its later bursts never start, and the transaction does not count (R38, R355,
R358) (assumption 64). -/
def State.cutFlight (s : State) (w : Byte) (staged : List (Byte × Byte)) : State :=
  let bursts := s.flightBursts w staged
  let (d, s) := s.draw
  let k := (Config.freeBits 16 d).toNat % (bursts.flatten.length + 1)
  let s := (State.busBeats .m4 { s with twp := { s.twp with flight := none } } (bursts.flatten.take k)).1
  match burstRest bursts k with
  | b :: rest => s.cutBurst .m4 (targetOf b.1) (rest.length + 1) b.1
  | [] => s

/-- A port self-reset; with no commit in flight, whether it cut a burst that reads is free (R358, R38) (assumption 64). -/
def State.twpSelfReset (s : State) : State :=
  let t := { s with twp := { s.twp.discard with snap := none, phase := .deaf, ackDue := false, readDue := none } }
  match s.twp.flight with
  | some (w, staged) => t.cutFlight w staged
  | none => t.cutMaybe .m4

/-- A stretch of 1 ms; before an acknowledge bit the port leaves that bit high, before a data byte it
leaves SDA released for the rest of the transaction (R358). -/
def execStretchCap (beforeAck : Bool) (s : State) : Out :=
  if s.twpRuns then
    let s := s.twpSelfReset
    let s := { s with twp := { s.twp with
      caps := satInc s.twp.caps, mute := s.twp.mute || ! beforeAck, acked := s.twp.acked && ! beforeAck } }
    .next (s.raise Ev.stretchCap 0xFF 0).standbyEnd
  else .next s

/-- SDA held low for 30 ms without an SCL edge (R360). -/
def execSdaRelease (s : State) : Out :=
  if s.twpRuns then
    let s := s.twpSelfReset
    .next (({ s with twp := { s.twp with sdaReleases := satInc s.twp.sdaReleases } }).raise Ev.sdaRelease 0xFF 0).standbyEnd
  else .next s

/-- The wake stretch reaches 5 ms: SCL released, no acknowledge (R359). -/
def execWakeStretchCap (s : State) : Out :=
  if s.twp.wakeHeld then
    .next { s with snow := { s.snow with wakeStretch := 0x01F4 }, twp := { s.twp with wakeHeld := false, acked := false } }
  else .next s

/-- The port becomes clocked; after a wake it acknowledges the held address, whose START showed the ADDR levels, and raises
the wake event. The stretch's length is free (R313, R326, R353, R359) (assumption 65). -/
def execTwpPortClocked (heldRead : Bool) (s : State) : Out :=
  if s.dev.held = .running && ! s.twp.clocked then
    let woke := s.twp.wakeEvt
    let s : State :=
      if s.twp.wakeHeld && s.pwr.vioOk then
        { s with
          fresh := s.fresh + 1
          snow := { s.snow with wakeStretch := BitVec.ofNat 16 ((Config.freeBits 16 s.fresh).toNat % 0x1F4) }
          twp := { s.twp with
            clocked := true, wakeHeld := false, wakeEvt := false, acked := true, addr := s.twp.levels,
            phase := if heldRead then .read else .pointer, txWindow := s.twp.window } }
      else { s with twp := { s.twp with clocked := true, wakeHeld := false, wakeEvt := false } }
    .next (if woke then s.raise Ev.wake 0xFF 0 else s)
  else .next s

/-- The byte that the port puts on SDA in an alert response: its own address, and from the bit at which it loses on, SDA
released. It loses at a bit that it releases (R361). -/
def Twp.alertByte (t : Twp) (lostAt : Option (Fin 8)) : Byte :=
  let own : Byte := t.own.setWidth 8 <<< 1
  match lostAt with
  | none => own
  | some i => own ||| ((1#8 <<< (if own.getLsbD i.val then i.val else 7)) - 1)

/-- An alert response: the port that sends its whole byte has answered. One that reads 0 where it released 1 has lost, at a
bit that is free, and drives no more of the byte (R361) (assumption 64). -/
def execAlertResponse (wins : Bool) (s : State) : Out :=
  if s.twpRuns && s.takesPart then
    let (d, s) := s.draw
    let t := { s.twp.discard with
      phase := .deaf, snap := none, acked := true, ackDue := false, readDue := none, addr := s.twp.levels }
    let lost : Option (Fin 8) := if wins then none else some (Config.freeBits 3 d).toFin
    let t := { t with out := t.alertByte lost, answered := t.answered || wins }
    let s := { s with twp := t }
    .next (if wins then s.raise Ev.alertResponse 0xFF 0 else s)
  else .next s

end Sys2Proof.Machine
end

