-- ==== Sys2Proof/Machine/Tick.lean ====
section
/-! DEFINITION. The tick boundary (R21): class P work of the tick that ends is captured and its
setpoints are issued, the stage dies' reports arrive, and everything that counts ticks moves on. -/

namespace Sys2Proof.Machine

/-! ## What a channel reads (R23, R145 to R147, R240, R375) -/

/-- A channel's report where a list has none. -/
def idleIn : ChanIn :=
  { vs := List.replicate 32 0, is := List.replicate 32 0, vStable := true, iStable := true, done := true, cm := 0,
    freqs := [] }

def chanIn (l : List ChanIn) (n : Chan) : ChanIn := l.getD n.val idleIn

/-- A period in MTB cycles turns a count of cycles into a phase in [0, 1), none without a period. -/
def phaseOfCycles (cycles period : Nat) : Option Rat :=
  if period = 0 then none else some (((cycles % period : Nat) : Rat) / (period : Rat))

/-- The mains phase of the running tick: that of the old source while REP fades (R146, R147) (assumption 40). -/
def Mtb.phase (t : Mtb) : Option Rat :=
  if 0 < t.repFade then phaseOfCycles t.mainsCycles t.repPeriod
  else if t.mainsSrc = .none then none
  else phaseOfCycles t.mainsCycles t.mainsPeriod.toNat

/-- The factor on REP while it fades over 64 ticks. -/
def Mtb.repFactor (t : Mtb) : Rat := if 0 < t.repFade then (t.repFade : Rat) / 64 else 1

/-- Feedback taps of the MLS generators (R375) (assumption 60). -/
def mlsTaps (order : Nat) : List Nat :=
  match order with
  | 10 => [10, 7]
  | 11 => [11, 9]
  | 12 => [12, 6, 4, 1]
  | 13 => [13, 4, 3, 1]
  | 14 => [14, 5, 3, 1]
  | 15 => [15, 14]
  | _ => [16, 15, 13, 4]

/-- One step of the MLS register: shift, feed the taps back (assumption 60). -/
def mlsStep (order : Nat) (r : BitVec 16) : BitVec 16 :=
  let fb := (mlsTaps order).foldl (fun b t => b != r.getLsbD (t - 1)) false
  let x := (r <<< 1) ||| (if fb then 1 else 0)
  BitVec.ofNat 16 (x.toNat % 2 ^ order)

/-- One step of a noise register, x³¹ + x²⁸ + 1 (assumption 62). -/
def noiseStep (r : BitVec 31) : BitVec 31 := (r <<< 1) ||| (if r.getLsbD 30 != r.getLsbD 27 then 1 else 0)

/-- w(t) of the running injection, its fades included (assumptions 60 and 62). -/
def Flx.value (f : Flx) : Rat :=
  let amp := Config.pow10R (-(f.injLevel : Rat) / 40)
  let raw : Rat :=
    if f.injSignal = 0 then amp * Config.sinR (2 * Config.pi * f.injFreq * (f.injT : Rat) / fT)
    else if f.injSignal = 1 then
      amp * Config.sqrtR (3 / 2) *
        f.noise.foldl (fun (a : Rat) r => a + ((r.toNat : Rat) / 2147483648 - 1 / 2)) 0
    else amp / Config.sqrtR 2 * (if f.mls.getLsbD (f.injOrder - 1) then 1 else -1)
  let fin : Rat := (min f.injT 64 : Nat) / 64
  let fout : Rat := match f.injFade with
    | some j => (j : Rat) / 64
    | none => 1
  raw * fin * fout

/-- The injection at a channel: point and value. -/
def State.injAt (s : State) (n : Chan) : Option (Nat × Rat) :=
  if s.flx.injOn && s.flx.injCh = n then some (s.flx.injPoint.toNat, s.flx.value) else none

/-- The halves of a channel both drive it: the partner half counts in the current and the gain (R135, R249, R250). -/
def State.shared (s : State) (n : Chan) : Bool := s.joinedTwin n && ! (s.ch n).twin.partnerHiz

/-- The partner's current sample of the tick, none where it is missing or marked invalid (R249) (assumption 51). -/
def Twin.curOf (w : Twin) (n : Chan) : Option Rat :=
  match w.part with
  | some p =>
    if (p.half.getD n.val 0).getLsbD 4 then some (((p.cur.getD n.val 0).toInt : Rat) / 524288) else none
  | none => none

/-- The partner's gain of the tick, none where its frame was missed (R250) (assumption 51). -/
def Twin.gainOf (w : Twin) (n : Chan) : Option Rat :=
  match w.part with
  | some p => some ((p.gain.getD n.val 0 : Nat) / 32768)
  | none => none

/-- What class P work of a channel reads in the tick that ends (assumption 51). -/
def State.pEnv (s : State) (outs : List (Nat × Int)) (n : Chan) : PEnv :=
  let d := s.die n.die
  let sh := s.shared n
  { n := n, bench := s.benchBuild, tick := s.dev.tick, now := s.now, vp := d.vp, attS := d.attS,
    attM := d.attUse, dieFallback := d.fallbackUse, muted := s.mutedAt n, outs := outs, since := s.stm.since,
    phase := s.mtb.phase, repFactor := s.mtb.repFactor, joined := sh, carried := s.joinedTwin n,
    rejoining := s.swp.rejoin[n] != .none, follow := s.follows n,
    cur := if sh then s.swp.curOf n else none, gain := if sh then s.swp.gainOf n else none,
    term := s.sigmaL n, inj := s.injAt n }

/-! ## Capture and issue (R21 to R24) -/

/-- The events of a channel's class P work, raised as their conditions begin (R424), the saturations of
R90 in every tick (assumption 21). -/
def State.classPEvents (s : State) (n : Chan) (a b : Channel) : State :=
  let s := if b.fgk.satNow then s.raise Ev.filterOutputSaturation n.val 0 else s
  let s := s.raiseEdge a.loop.demandClamp b.loop.demandClamp Ev.demandClamp n.val 0
  let s := s.raiseEdge a.loop.bfActing b.loop.bfActing Ev.blockExponentOverflow n.val 0
  let s := s.raiseEdge a.model.tableEdge b.model.tableEdge Ev.tableEdge n.val 0
  let s := s.raiseEdge a.model.reClamp b.model.reClamp Ev.reClamp n.val 0
  let s := s.raiseEdge a.model.xClampActing b.model.xClampActing Ev.estimatorRange n.val 0
  s.raiseEdge a.prot.guardActing b.prot.guardActing Ev.excursionGuard n.val 0

/-- A pace miss; with VCORE at 0.90 V also a pace fault, which drops the channel: OPEN_CAUSE
names lost feedback where the sense is suspect in the same tick (R24, R122) (assumption 21). -/
def State.paceMiss (s : State) (n : Chan) : State :=
  let open_ := (s.ch n).st = .openLoop || s.follows n
  let s := s.modCh n fun k => { k with loop := { k.loop with paceMiss := true, lastPaceMiss := some s.now } }
  let s := s.raise Ev.paceMiss n.val 0
  if s.pace.vcore = 0x96 then
    let s := { s with pace := { s.pace with faults := satInc s.pace.faults } }
    s.raiseFor Ev.paceFault n.val 0 fun s =>
      let st := (s.ch n).st
      let s := s.modCh n fun k => { k with loop := { k.loop with
        paceFaultRun := if open_ then k.loop.paceFaultRun + 1 else 0 } }
      if st = .closedLoop && ! s.follows n then s.faultDrop n (if (s.ch n).loop.suspect then 3 else 4) s.now
      else s.jotCh 0x10 n st st 0 0
  else s.modCh n fun k => { k with loop := { k.loop with paceFaultRun := 0 } }

/-- The class P work of a channel is complete at the capture edge: its own engines are, and so is every resampler
and every FIR engine that feeds it (R21, R24). -/
def doneAt (t : TickIn) (n : Chan) (c : ChanCfg) : Bool :=
  (chanIn t.chans n).done && c.dfn.inputs.all (fun e => ! t.rsMiss.getLsbD e.1) &&
    (List.finRange 8).all fun e => ! (t.firMiss.getLsbD e.val && usesFir c e)

/-- Class P work of one channel is captured, and its setpoint is issued (R21, R23). -/
def State.captureChan (s : State) (outs : List (Nat × Int)) (t : TickIn) (n : Chan) : State :=
  match s.cfg n with
  | none => s
  | some c =>
    let k := s.ch n
    let done := doneAt t n c
    let k1 := classP c k (s.pEnv outs n) done
    let k2 := { k1 with loop := { k1.loop with
      setpoint := k1.loop.staged, paceFaultRun := if done then 0 else k1.loop.paceFaultRun } }
    let s := (s.modCh n fun _ => k2).classPEvents n k k2
    if done then s else s.paceMiss n

/-- All channels. -/
def State.captureAll (s : State) (outs : List (Nat × Int)) (t : TickIn) : State :=
  s.overChans (fun _ _ => true) fun s n => s.captureChan outs t n

/-- Some channel missed its capture edge. -/
def State.anyMiss (s : State) (t : TickIn) : Bool :=
  allChans.any fun n => match s.cfg n with
    | some c => ! doneAt t n c
    | none => false

/-! ## Reports of the stage dies (R16, R120, R183 to R187, R206) -/

/-- ADC input ranges of Table 6-3: ±60 V and ±14 A, as codes. -/
def voltRange : Int := 7864320

def ampRange : Int := 7340032

/-- The clipped mean of the 32 samples of an ADC, and whether any of them reached its input range (R183, R184). The mean is
rounded to nearest, ties to even (DESIGN CHOICE, assumption 90). -/
def adcMean (range : Int) (l : List Int) : BitVec 24 × Bool :=
  (BitVec.ofInt 24 (divEven ((l.map (clampI (-range) range)).foldl (· + ·) 0) 32), l.any fun x => decide (range ≤ x.natAbs))

/-- The sense samples of a channel for the coming tick. `was`: the setpoint in force while they were
taken. `held`: the upward transfer failed or the die is lost (R16, R120, R183, R184) (assumption 22). -/
def Channel.sense (k : Channel) (x : ChanIn) (was : BitVec 24) (held : Bool) : Channel :=
  let (mv, ov) := adcMean voltRange x.vs
  let (mi, oi) := adcMean ampRange x.is
  let v := if held then k.loop.lastV else mv
  let i := if held then k.loop.lastI else mi
  let same (old new : BitVec 24) (run : Nat) : Nat :=
    if was = 0 then 0 else if run = 0 then 1 else if new = old then min (run + 1) 256 else 1
  let sv := same k.loop.lastV v k.loop.sameV
  let si := same k.loop.lastI i k.loop.sameI
  let ovl := ! held && (ov || oi)
  let inv := held || ! x.vStable || ! x.iStable || k.keep.fbFault
  let frz := decide (256 ≤ sv) || decide (256 ≤ si)
  let sus := ovl || inv || frz
  { k with loop := { k.loop with
      lastV := v, lastI := i, sameV := sv, sameI := si, ovl := k.loop.ovl || ovl,
      invalid := k.loop.invalid || inv, frozen := k.loop.frozen || frz, suspect := sus,
      suspectMask := BitVec.ofNat 3 (ovl.toNat + 2 * inv.toNat + 4 * frz.toNat),
      okRun := if sus then 0 else min (k.loop.okRun + 1) 256, lfReported := k.loop.lfReported && sus,
      curValid := ! held && x.iStable, curOvl := ! held && oi } }

/-- No report of the die arrives in the tick: its upward transfer failed, or it is lost (assumptions 22 and 44). -/
def DieState.noReport (d : DieState) : Bool := d.upFail || d.lost

/-- The highest of a die's sensors, 0.125 °C (R186). -/
def hotSensor (x : DieIn) : BitVec 16 :=
  match x.tjs with
  | [] => 0
  | a :: l => l.foldl (fun m t => if m.toInt < t.toInt then t else m) a

/-- A die's status of the tick, held where its upward transfer failed or it is lost; its runs of good and failed
transfers; INJ_EN reaches it with a good downward transfer (R16, R173, R186, R187, R190, R206, R207). -/
def DieState.report (d : DieState) (x : DieIn) : DieState :=
  let bad := d.upFail || d.downFail
  let d1 := { d with
    failRun := if bad then d.failRun + 1 else 0, goodRun := if bad then 0 else d.goodRun + 1,
    downRun := if d.downFail then d.downRun + 1 else 0,
    upFail := false, downFail := false, injNow := if d.downFail || d.lost then d.injNow else d.injEn }
  if d.noReport then d1
  else
    let t : Rat := ((hotSensor x).toInt : Rat) / 8
    { d1 with pvdd := x.pvdd, tj := hotSensor x, attS := foldAtt t, shutdown := d.shutdown && decide (125 ≤ t) }

/-- Heat at the switches of one channel in a tick (R205) (assumption 23). -/
def switchHeat (i v : Rat) (runs : Bool) : Rat :=
  dieRB * i * i + dieKSW * v * absR i + (if runs then diePQ else 0)

/-- The die model's sums take a tick (R205) (assumption 23). -/
def DieState.heat (d : DieState) (k : Die) (chans : Vector Channel 64) (used : Chan → Bool) : DieState :=
  let add (j : Fin 8) (p : Rat) : Rat :=
    let n := dieChan k j
    if used n then p + switchHeat (codeAmp (chans[n]).loop.lastI) d.vp (chans[n]).stage.modRun else p
  { d with powSum := vmapIdx add d.powSum, attUse := d.attM, fallbackUse := d.dieFallback }

/-- THM_TJ_MAX over the dies that are not lost, the lowest k among equals (R386). -/
def hottest (l : Vector DieState 8) : Option (Die × BitVec 16) :=
  allDies.foldl (fun (m : Option (Die × BitVec 16)) k =>
    if (l[k]).lost then m
    else match m with
      | some q => if q.2.toInt < (l[k]).tj.toInt then some (k, (l[k]).tj) else m
      | none => some (k, (l[k]).tj)) none

/-- The reports of all dies and channels arrive. `was`: the setpoints of the tick that ended. -/
def State.takeReports (s : State) (t : TickIn) (was : Vector (BitVec 24) 64) : State :=
  let held (k : Die) : Bool := (s.die k).noReport
  let chans := vmapIdx (fun (n : Chan) (k : Channel) =>
    if s.used n then k.sense (chanIn t.chans n) was[n] (held n.die) else k) s.chans
  let used (n : Chan) : Bool := s.used n
  let dies := vmapIdx (fun (k : Die) (d : DieState) =>
    (d.report (t.dies.getD k.val { pvdd := 0, tjs := [] })).heat k chans used) s.dies
  let sd0 := s.die 0
  let low := if sd0.noReport then s.pwr.pvddMin
    else if (dies[0]).pvdd.toNat < s.pwr.pvddMin.toNat then (dies[0]).pvdd else s.pwr.pvddMin
  let hot := hottest dies
  let s := { s with
    chans := chans, dies := dies, pwr := { s.pwr with pvddMin := low },
    mtb := match hot with
      | some q => { s.mtb with tjMax := q.2, tjDie := BitVec.ofNat 3 q.1.val }
      | none => s.mtb }
  allDies.foldl State.foldCheck s

/-- THM_CORE: the mean of 192 samples (R386) (assumption 44). -/
def Mtb.coreTick (b : Mtb) (x : BitVec 16) : Mtb :=
  if b.coreCount + 1 < 192 then { b with coreSum := b.coreSum + x.toInt, coreCount := b.coreCount + 1 }
  else { b with coreSum := 0, coreCount := 0,
                coreTemp := BitVec.ofInt 16 (roundEven (((b.coreSum + x.toInt : Int) : Rat) / 192)) }

/-- V_low of a dip takes the lowest V_P while the warning stands, and the release line counts its ticks, on every
channel (R199, R200). -/
def Channel.dipTick (k : Channel) (vp : Rat) : Channel :=
  if k.prot.dip then
    match k.prot.dipRelease with
    | none => { k with prot := { k.prot with vLow := minR k.prot.vLow vp } }
    | some t => { k with prot := { k.prot with dipRelease := some (t + 1) } }
  else k

/-! ## Bridge commands and ramps (R175 to R178, R191, R315) -/

/-- The bridge command that the core die sends a channel for the coming tick (Table 6-2). While the die has its bridges
high-impedance on its own decision, it is sent HIZ (R187) (assumption 42). -/
def State.coreCmd (s : State) (n : Chan) : Nat :=
  let k := s.ch n
  if ! s.used n || (s.die n.die).lost || (s.die n.die).hizLocal || ! s.pwr.pvddOk || ! s.pwr.vauxOk || ! s.pwr.vddinOk then 0
  else match k.st with
    | .off => 0
    | .tripped => 0
    | .rampUp => if k.loop.uvHold then 0 else 1
    | .retry => if k.loop.ramped then 2 else 1
    | .quiet => 2
    | .openLoop => 2
    | .closedLoop => 2
    | .rampDown => if k.loop.fading = .none then 3 else 2

/-- The command that the die carries out: its own decisions come first, and a failed downward transfer leaves it with
the command in force (R16, R178, R187, R207) (assumption 42). -/
def State.bridgeCmd (s : State) (n : Chan) (kept : Bool) : Nat :=
  let d := s.die n.die
  if d.hizLocal || d.shutdown then 0 else if kept then (s.ch n).stage.bridge.toNat else s.coreCmd n

/-- HIZ_LOCAL of a die: it clears with the first good downward transfer once the die is restored, which commands HIZ
(R187). -/
def State.holdsHiz (s : State) (k : Die) (kept : Bool) : Bool :=
  let d := s.die k
  d.hizLocal && (d.lost || kept)

/-- A ramp's first tick or its next one, from the present target towards `goal` at the rate. RAMP_UP moves up or down
to V_P/2, RAMP_DOWN down to 0 (R176). -/
def rampNext (cm goal rate : Rat) : Rat × Bool :=
  if cm ≤ goal then (if goal ≤ cm + rate then (goal, true) else (cm + rate, false))
  else if cm - rate ≤ goal then (goal, true) else (cm - rate, false)

/-- Start or continue a ramp towards `goal`: the common mode, the rate, and whether the ramp ends. A ramp
that has ended has rate 0 and stays at its goal (R176, R177) (assumption 42). -/
def ChStage.ramp (g : ChStage) (cmd : Nat) (sensed vp goal : Rat) (ms : Nat) : ChStage :=
  let again := g.bridge.toNat = cmd
  let rev := g.bridge = 1 && cmd = 3 && g.rate != 0
  if again && g.rate = 0 then { g with cm := if cmd = 1 then goal else 0 }
  else
    let start := if again || rev then g.cm else sensed
    let rate := if again || rev then g.rate else vp / (2 * (ms : Rat) * 192)
    let near := ! again && ! rev && cmd = 1 && decide (absR (start - goal) ≤ goal / 100)
    let next := if again then rampNext start goal rate else (start, decide (start = goal))
    let fin := near || next.2 || rate = 0
    { g with
      bridge := BitVec.ofNat 2 cmd, cm := if fin then goal else next.1, rate := if fin then 0 else rate,
      rampDone := g.rampDone || fin, modRun := ! (fin && cmd = 3) }

/-- One modulation cycle: the cycles in a row within the lock range, the sum of switching frequencies in 0.1 kHz, and
whether every cycle so far was locked (R172) (assumption 42). -/
def lockCycle (inj : Bool) (a : Nat × Nat × Bool) (f : BitVec 16) : Nat × Nat × Bool :=
  let near := inj && decide (absR ((f.toNat : Rat) - 3840) ≤ Config.lockRange * 3840)
  let run := if near then a.1 + 1 else 0
  let lock := near && decide (Config.lockCycles ≤ run)
  (run, a.2.1 + (if lock then 3840 else f.toNat), a.2.2 && lock)

/-- The modulation cycles of the tick that ended: FREQ and LOCKED (R170, R172) (assumption 42). -/
def ChStage.cycles (g : ChStage) (inj : Bool) (l : List (BitVec 16)) : ChStage × Bool :=
  if g.modRun then
    let r := l.foldl (lockCycle inj) (g.inRange, 0, true)
    ({ g with inRange := r.1, freqs := ((r.2.1, l.length) :: g.freqs).take 192 }, ! l.isEmpty && r.2.2)
  else ({ g with inRange := 0, freqs := ((0, 0) :: g.freqs).take 192 }, false)

/-- SD_CH_FREQ: the mean over the cycles of the last 192 ticks, 0 while stopped; rounded to nearest, ties to even (DESIGN
CHOICE, assumption 90). -/
def ChStage.freq (g : ChStage) : BitVec 16 :=
  let n := g.freqs.foldl (fun a e => a + e.2) 0
  if ! g.modRun || n = 0 then 0 else BitVec.ofInt 16 (divEven (g.freqs.foldl (fun a e => a + e.1) 0 : Nat) n)

/-- The peak of |u_diff| / V_P over the tick that ended; 0 with the modulator stopped. -/
def ChStage.peak (g : ChStage) (x : ChanIn) (vp : Rat) : Rat :=
  if ! g.modRun || vp ≤ 0 then 0 else (x.vs.foldl (fun m v => max m v.natAbs) 0 : Nat) / 131072 / vp

/-- SD_CH_DEPTH: the peak over the last 192 ticks in percent, rounded to nearest, ties to even (DESIGN CHOICE, assumptions
42 and 90). -/
def ChStage.depth (g : ChStage) : BitVec 7 :=
  BitVec.ofInt 7 (clampI 0 127 (roundEven (100 * g.depths.foldl maxR 0)))

/-- What a channel's stage half meets at a boundary: the command, the setpoint, whether the downward transfer brought
none, whether the upward transfer brings no status, INJ_EN, V_P and RAMP_MS. -/
structure StageIn where
  cmd : Nat
  setpoint : BitVec 24
  kept : Bool
  held : Bool
  inj : Bool
  vp : Rat
  ms : Nat
  deriving DecidableEq, Repr

/-- The bridge takes its command. -/
def ChStage.obey (g : ChStage) (e : StageIn) (sensed : Rat) : ChStage :=
  match e.cmd with
  | 0 => { g.off with cm := if e.held then g.cm else sensed }
  | 1 => g.ramp 1 sensed e.vp (e.vp / 2) e.ms
  | 3 => g.ramp 3 sensed e.vp 0 e.ms
  | _ => { g with
      bridge := 2, modRun := true, rate := 0, rampDone := false,
      cm := g.cm + (e.vp / 2 - g.cm) * (2 * Config.pi / fT) }

/-- The reference of the coming tick moves from the last setpoint to the new one, holds where the lane brought none,
and is zero throughout a ramp (R16, R165, R176). -/
def ChStage.hold (g : ChStage) (e : StageIn) : ChStage :=
  { g with
    refFrom := if e.cmd = 1 || e.cmd = 3 then 0 else g.refTo
    refTo := if e.cmd = 1 || e.cmd = 3 then 0 else if e.kept then g.refTo else e.setpoint }

/-- The reference of the running tick at DAC sample j of 32, j from 1 (R165), in setpoint codes. -/
def ChStage.reference (g : ChStage) (j : Nat) : Rat :=
  (g.refFrom.toInt : Rat) + ((g.refTo.toInt : Rat) - (g.refFrom.toInt : Rat)) * (j : Rat) / 32

/-- The stage of one channel reports the tick that ended and takes its command for the coming one (R165, R170 to R177,
R182, R190) (assumptions 23 and 42). -/
def ChStage.tick (g : ChStage) (e : StageIn) (x : ChanIn) : ChStage :=
  let (g1, locked) := g.cycles e.inj x.freqs
  let g2 := { g1 with depths := (g.peak x e.vp :: g.depths).take 192, actsTick := 0, forced := [] }
  let g3 := (g2.obey e ((x.cm.toNat : Rat) / 1024)).hold e
  if e.held then g3
  else { g3 with stat := {
      bridge := g3.bridge, modRun := g3.modRun, locked := locked, limiting := g.actsTick != 0,
      freq := g3.freq, depth := g3.depth } }

/-- The wait of a half whose ramp is complete while its partner is high-impedance (R319). -/
def Channel.uvTick (k : Channel) : Channel :=
  { k with twin := { k.twin with
      uvWait := if k.twin.uvRampDone && k.twin.partnerHiz then k.twin.uvWait + 1 else 0 } }

/-- Bridge commands of the coming tick, and what else each channel counts. `was`: the dies before they reported
(assumption 42). -/
def State.stageTick (s : State) (t : TickIn) (was : Vector DieState 8) : State :=
  let s := s.overChans (fun s n => s.used n) State.uvCarry
  let kept (k : Die) : Bool := (was[k]).downFail || (was[k]).lost
  { s with
    dies := vmapIdx (fun (k : Die) (d : DieState) => { d with hizLocal := s.holdsHiz k (kept k) }) s.dies
    chans := vmapIdx (fun (n : Chan) (k : Channel) =>
      let d := s.die n.die
      if s.used n then
        let e : StageIn :=
          { cmd := s.bridgeCmd n (kept n.die), setpoint := k.loop.setpoint, kept := kept n.die,
            held := (was[n.die]).noReport, inj := (was[n.die]).injNow, vp := d.vp, ms := d.rampMs.toNat }
        { (k.dipTick d.vp).uvTick with stage := k.stage.tick e (chanIn t.chans n) }
      else { (k.dipTick d.vp) with stage := { ChStage.reset with acts := k.stage.acts } }) s.chans }

/-! ## Class S loops (R21, R28, Table 1-5) -/

/-- A run whose deadline has come is missed; whatever it still gives is discarded. -/
def ClsSlot.expire (c : ClsSlot) (now : Nat) : ClsSlot :=
  match c.run with
  | some r => if r.2 ≤ now then { run := none, missDue := true } else c
  | none => c

/-- A release with a deadline. -/
def ClsSlot.release (c : ClsSlot) (now ticks : Nat) : ClsSlot := { c with run := some (now, now + ticks) }

/-- The deadlines of a channel's loops at a boundary. A learner update that misses loses its sums. -/
def Channel.expire (k : Channel) (now : Nat) : Channel :=
  let rip := k.cls.ripple.expire now
  { k with
    cls := { coil := k.cls.coil.expire now, pilot := k.cls.pilot.expire now, ripple := rip,
             ident := k.cls.ident.expire now }
    learn := if rip.run.isNone && k.cls.ripple.run.isSome then { k.learn with ready := none } else k.learn }

/-- The releases of a channel's periodic loops at a boundary: each works on what stands at its release. -/
def Channel.release (k : Channel) (now clock : Nat) : Channel :=
  let k := if clock % 192 = 0 then
      { k with
        cls := { k.cls with coil := k.cls.coil.release now 192 }
        prot := { k.prot with powRel := k.prot.powSum / 192, powSum := 0 } }
    else k
  if clock % 1920 = 0 then
    { k with
      cls := { k.cls with pilot := k.cls.pilot.release now 1920 }
      diag := { k.diag with
        snap := k.diag.window, snapTc := k.prot.tc, rptDue := k.diag.rptDue || decide (clock % 19200 = 0) } }
  else k

/-- The same of a die (R205). -/
def DieState.release (d : DieState) (now clock : Nat) : DieState :=
  if clock % 192 = 0 then
    { d with
      cls := d.cls.release now 192, powRel := vmap (· / 192) d.powSum, powSum := Vector.replicate 8 0, tRel := d.tDie }
  else d

/-- What class S loops have given since the last boundary reaches class P work (R21). -/
def Channel.issueS (k : Channel) : Channel :=
  { k with issue := {
    tc := k.prot.tc, rePilot := k.model.rePilot, table := k.learn.table, cap := k.prot.coilCap,
    fallback := k.loop.coilFallback } }

/-- The class S side of a boundary: results take effect, deadlines pass, and the next runs are released
(assumption 66). -/
def State.classSTick (s : State) : State :=
  let c := s.dev.clsTick
  { s with
    dies := vmap (fun (d : DieState) => { d with cls := d.cls.expire s.now }.release s.now c) s.dies
    chans := vmapIdx (fun (n : Chan) (k : Channel) =>
      let k := (k.issueS).expire s.now
      if s.used n then k.release s.now c else k) s.chans }

/-! ## Pace monitor (R25) -/

/-- The lowest margin and its engine (assumption 20). -/
def worstOf : List (Nat × Nat) → Nat × Nat
  | [] => (100, 0)
  | e :: l => l.foldl (fun m x => if x.1 < m.1 then x else m) e

/-- The pace monitor and VCORE take a tick. `miss`: some channel missed its capture edge (assumption 20). -/
def Pace.tick (p : Pace) (margin engine : Nat) (miss : Bool) : Pace :=
  let l := ((margin, engine) :: p.margins).take 1024
  let w := worstOf l
  let rise := if miss then 8 else p.rise
  let up := (margin < 25 || 0 < rise) && p.vcore.toNat < 0x96
  { p with
    margins := l, margin := BitVec.ofNat 7 w.1, engine := BitVec.ofNat 8 w.2,
    vcore := if up then p.vcore + 1 else p.vcore, rise := rise - 1,
    calm := if 40 < margin then p.calm + 1 else 0 }

/-! ## The mains (R145, R146, R148) -/

/-- MAINS_REF: intervals between rising edges (assumption 40). -/
def Mtb.edgeTick (b : Mtb) (edge : Option (Fin 128)) : Mtb :=
  match edge with
  | some o => { b with edges := ((b.edgeAge + o.val) :: b.edges).take 8, edgeAge := 128 - o.val }
  | none => { b with edgeAge := b.edgeAge + 128 }

/-- PVDD of SD0 through the high-pass at 5 Hz; the offset of a rising zero crossing in the tick (assumption 40). -/
def Mtb.rippleTick (b : Mtb) (pvdd : Rat) : Mtb × Option Nat :=
  let lp := b.ripHp + (pvdd - b.ripHp) * (10 * Config.pi / fT)
  let y := pvdd - lp
  let prev := b.ripPrev
  let b := { b with ripHp := lp, ripPrev := y }
  if prev < 0 && 0 ≤ y then
    let o := min (128 * (-prev) / (y - prev)).floor.toNat 127
    ({ b with ripEdges := ((b.ripAge + o) :: b.ripEdges).take 8, ripAge := 128 - o, ripPp := b.ripMax - b.ripMin,
              ripMin := y, ripMax := y }, some o)
  else
    ({ b with ripAge := b.ripAge + 128, ripMin := minR b.ripMin y, ripMax := maxR b.ripMax y }, none)

/-- Phase 0 in this tick: an edge of MAINS_REF, or the ripple crossing that lies nearest to phase 0. -/
def Mtb.zeroAt (b : Mtb) (edge : Option (Fin 128)) (cross : Option Nat) : Option Nat :=
  if 0 < b.repFade then none
  else match b.mainsSrc with
    | .none => none
    | .mainsRef => edge.map (·.val)
    | .ripple => match cross with
      | none => none
      | some o => match phaseOfCycles (b.mainsCycles + o) b.mainsPeriod.toNat with
        | none => some o
        | some f => if f < 1 / 4 || 3 / 4 < f then some o else none

/-- A mains period ends: its sums await the update, which is released with a deadline of one period, or learning begins
at a new source. A run that is still pending has used up its period and is missed (R28, R146, R148) (assumption 41). -/
def Channel.periodEnd (k : Channel) (fresh : Bool) (now ticks : Nat) : Channel :=
  { k with
    cls := if fresh then k.cls else { k.cls with
      ripple := { k.cls.ripple.release now ticks with missDue := k.cls.ripple.missDue || k.cls.ripple.run.isSome } }
    learn := { k.learn with
      ready := if fresh then k.learn.ready else some (k.learn.sums, k.learn.counts, k.learn.tainted),
      sums := [], counts := [], tainted := false } }

/-- A learner's table is cleared, with what its period has gathered (R146). -/
def Channel.unlearn (k : Channel) : Channel :=
  { k with
    cls := { k.cls with ripple := { k.cls.ripple with run := none } }
    learn := { k.learn with table := [], ready := none, sums := [], counts := [], updates := 0 }
    issue := { k.issue with table := [] } }

/-- The mains source takes a tick (assumption 40). -/
def State.mainsTick (s : State) (edge : Option (Fin 128)) : State :=
  let (b, cross) := (s.mtb.edgeTick edge).rippleTick (s.die 0).vp
  let zero := b.zeroAt edge cross
  let fadeEnds := b.repFade = 1
  let fresh := b.mainsFresh
  let b := { b with
    mainsCycles := match zero with
      | some o => 128 - o
      | none => b.mainsCycles + 128,
    mainsPeriod := if zero.isSome then b.periodOf b.mainsSrc else b.mainsPeriod,
    mainsFresh := fresh && zero.isNone, repFade := b.repFade - 1 }
  let s := { s with mtb := b }
  let s := if zero.isSome then
      { s with chans := vmapIdx (fun (n : Chan) (k : Channel) =>
          if s.law n != 0 && ! s.follows n then k.periodEnd fresh s.now (b.mainsPeriod.toNat / 128) else k) s.chans }
    else s
  if fadeEnds then { s with chans := vmap Channel.unlearn s.chans } else s

/-! ## References and input (R79, R281, R385) -/

/-- MTB_REF.LOCKED. -/
def Mtb.refTick (b : Mtb) (held : Bool) : Mtb :=
  let run := if b.refSrc = 0 || ! held then 0 else min (b.refRun + 1) 1024
  { b with refRun := run, refLocked := decide (1024 ≤ run) }

/-- The crystal oscillator's detector takes a tick; as it drops, MTB takes the next reference (R20, R49). -/
def State.xtalTick (s : State) (amp : Bool) : State :=
  let on := s.mtb.xtalRuns && amp
  ({ s with mtb := { s.mtb with xtalHold := if on then s.mtb.xtalHold + 1 else 0, xtalOk := s.mtb.xtalOk && on } }).reReference

/-- A fuse write is in progress (R294). -/
def State.fuseWrites (s : State) : Bool := s.keeper.fuseBusy || s.keeper.lockBusy || s.win.enrollCheck.isSome

/-- What the surroundings show at the boundary: VAUX, which may interrupt a fuse write, MUTE_N, which counts while VIO is
good, and the phase error that a TB follower reports (R213, R262, R294, R320). -/
def State.pinTick (s : State) (t : TickIn) : State :=
  let pwr := { s.pwr with vauxMv := t.vaux }
  let cut := s.fuseWrites && s.vauxRange && ! State.vauxRange { s with pwr := pwr }
  { s with
    pwr := pwr
    keeper := { s.keeper with vauxCut := s.keeper.vauxCut || cut }
    dev := { s.dev with
      muteRaw := ! t.muteN
      muteLow := if s.pwr.vioOk then (! t.muteN, s.dev.muteLow.1) else s.dev.muteLow }
    swp := { s.swp with tbErr := if s.tbFollower then t.tbErr else 0 } }

/-- Ticks since the last accepted frame; holdover after two frame periods without one (R79) (assumption 36). -/
def State.inputTick (s : State) : State :=
  match s.link.active with
  | none => s
  | some _ =>
    let n := s.link.silent + 1
    { s with
      link := { s.link with silent := n },
      stm := { s.stm with holdover := s.stm.holdover || Decidable.decide (384000 < n * rateHz s.mtb.rate.toNat) } }

/-! ## Injection, capture, trace (R366 to R377) -/

/-- The injection after a tick: its generators step, its fade-out ends it, and what stops it stops it (assumption 62). -/
def State.injTick (s : State) : State :=
  if ! s.flx.injOn then s
  else
    let k := s.ch s.flx.injCh
    let f := s.flx
    let f := { f with
      injT := f.injT + 1, mls := mlsStep f.injOrder f.mls, noise := f.noise.map noiseStep,
      injFade := f.injFade.map (· - 1) }
    let s := { s with flx := f }
    if k.stage.bridge = 0 || f.injFade = some 0 then s.injEnd
    else if ! (k.st = .quiet || k.st.playing) || k.ident.running then s.injFadeOut
    else s

/-- A probe of a channel in the tick that ended, a binary32 value (R366, Table 15-1). -/
def State.probe (s : State) (n : Chan) (p : Nat) : BitVec 32 :=
  if s.used n then toF32 ((s.ch n).loop.probes.getD p 0) else 0

/-- The running capture takes a sample of both probes. -/
def State.captureTick (s : State) : State :=
  if s.flx.capRun && s.flx.capCount < 8192 then
    let a := s.probe s.flx.capCh s.flx.capSelA.toNat
    let b := s.probe s.flx.capCh s.flx.capSelB.toNat
    { s with
      flx := { s.flx with capCount := s.flx.capCount + 1 },
      ram6 := { s.ram6 with capA := a :: s.ram6.capA, capB := b :: s.ram6.capB } }
  else s

/-- The compared slot crosses its threshold (R369). -/
def crosses (mode : Nat) (level : Rat) (old new : Rat) : Bool :=
  match mode with
  | 0 => decide (old ≤ level) && decide (level < new)
  | 1 => decide (level ≤ old) && decide (new < level)
  | 2 => decide (absR old ≤ level) && decide (level < absR new)
  | _ => false

/-- Store one decimated sample of the 16 slots; `last`: the tick that it ends with (assumption 61). -/
def TrcBuf.push (b : TrcBuf) (x : List (BitVec 32)) (last : Nat) : TrcBuf :=
  let n := min (b.count + 1) 65536
  { b with
    data := (x :: b.data).take 65536, count := n,
    badWords := if b.count < 65536 then b.badWords else shiftBad 1 b.badWords,
    tick0 := BitVec.ofInt 32 ((last : Int) + 1 - ((n * 2 ^ b.decim.toNat : Nat) : Int)) }

/-- The trace run takes the tick that ended (R367 to R369) (assumption 61). -/
def State.traceTick (s : State) (tick : Nat) : State :=
  if s.trc.state = .idle then s
  else
    let b := s.ram6.buf s.trc.target
    let vals := b.slots.map fun w => if slotOn w then f32 (s.probe (slotChan w) (slotProbe w)) else 0
    let v := vals.getD s.trc.thrSlot.toNat 0
    let on := slotOn (b.slots.getD s.trc.thrSlot.toNat 0)
    let hit := match s.trc.thrLast with
      | some old => on && crosses s.trc.thrMode.toNat (f32 s.trc.thrLevel) old v
      | none => false
    let sums := if s.trc.accCount = 0 then vals else List.zipWith (· + ·) s.trc.accSums vals
    let cnt := s.trc.accCount + 1
    let full := 2 ^ b.decim.toNat ≤ cnt
    let t := { s.trc with
      thrHit := s.trc.thrHit || hit, thrLast := some v, accSums := if full then [] else sums,
      accCount := if full then 0 else cnt }
    let room := ! (s.trc.state = .triggered && s.trc.left = 0)
    if full && room then
      let x := (if b.mean then sums.map (· / (cnt : Rat)) else vals).map toF32
      { s with
        ram6 := s.ram6.setBuf s.trc.target (b.push x tick),
        trc := { t with
          left := if s.trc.state = .triggered then t.left - 1 else t.left,
          trigLate := s.trc.state = .armed && t.trigger != 0 } }
    else { s with trc := { t with trigLate := false } }

/-! ## The twin (R239, R240, R254, R256, R261) -/

/-- What the twin's part of a boundary does: fits and rejoins of the coming tick. -/
def State.twinBoundary (s : State) : State :=
  let s := s.applyFits
  s.overChans (fun s n => s.twinned n) fun s n => (s.rejoinTick n).leadGone n

/-- The frame of the coming tick is sent, and the line pulled. -/
def State.twinSend (s : State) : State :=
  let pull := s.pullsLine
  let s := s.sendFrame
  { s with swp := { s.swp with
      pull := pull,
      drivenSince := if pull && s.swp.drivenSince.isNone then some s.now else s.swp.drivenSince } }

/-! ## The boundary -/

/-- The journal logic writes four waiting entries in every tick (R347) (assumption 78). -/
def State.jrnTick (s : State) : State := s.jrnWriteOne.jrnWriteOne.jrnWriteOne.jrnWriteOne

/-- ALERT_N follows the alerting flags while VIO is good (R338). -/
def State.alertTick (s : State) : State :=
  { s with evt := { s.evt with alert := s.alerting != 0 && s.pwr.vioOk, raised := 0 } }

/-- The tick ends and the next one starts (assumption 19). -/
def State.tick (s : State) (t : TickIn) : State :=
  let old := s.dev.tick
  let was := vmap (fun (k : Channel) => k.loop.setpoint) s.chans
  let dies := s.dies
  let miss := s.anyMiss t
  let s := s.sampleLine t.twinPresHigh
  let (s, outs) := (s.trackerTick t.ppm).resampleAll
  let s := (s.captureAll outs t).usePartB
  let s := ((s.captureTick).traceTick old).injTick
  let s := { s with
    now := s.now + 1, dev := { s.dev with tick := s.dev.tick + 1, clsTick := s.dev.clsTick + 1 },
    swp := { s.swp with part := none, frameSeen := false, partnerTick := s.swp.partnerTick + 1 },
    pace := s.pace.tick t.margin.toNat t.engine.toNat miss }
  let s := s.overChans (fun s n => ! (s.ch n).loop.heldCmds.isEmpty) State.runHeld
  let s := (s.twinBoundary.takeReports t was).stageTick t dies
  let s := (s.classSTick.mainsTick t.mainsEdge).inputTick
  let s := { s with mtb := (s.mtb.coreTick t.coreTemp).refTick t.refHeld }
  let s := ((s.xtalTick t.xtalAmp).pinTick t).loadTick
  let s := (s.carriers t.carrier).recheckPages.twinSend.jrnTick.alertTick
  (s.twpTick t.m4Held).tapTick t.tck

/-- A tick boundary of a device whose core die runs; while it is held in reset or in STANDBY only the
surroundings' time passes (assumptions 10, 17 and 19). -/
def execTickBoundary (t : TickIn) (s : State) : Out :=
  if ! t.wf then .fault .illFormed
  else if s.dev.held != .running then .next ({ s with now := s.now + 1 }.tapTick t.tck)
  else .next (s.tick t)

end Sys2Proof.Machine
end

