-- ==== Sys2Proof/Machine/Dispatch.lean ====
section
/-! DEFINITION. One arm per command of spec/opcode_table.json, in its order. -/

namespace Sys2Proof.Machine

/-- The effect of a command on everything but the queue. -/
def exec (i : Instr) (s : State) : Host.Outcome State Fault Refusal :=
  match i with
  | .tickBoundary t => Sys2Proof.Machine.execTickBoundary t s
  | .paceTrip n => Sys2Proof.Machine.execPaceTrip n s
  | .vcoreDownTrim => Sys2Proof.Machine.execVcoreDownTrim s
  | .laneTransferError k up => Sys2Proof.Machine.execLaneTransferError k up s
  | .stageDieLost k => Sys2Proof.Machine.execStageDieLost k s
  | .stageHizLocal k => Sys2Proof.Machine.execStageHizLocal k s
  | .stageDieRestored k => Sys2Proof.Machine.execStageDieRestored k s
  | .eccCorrected mem => Sys2Proof.Machine.execEccCorrected mem s
  | .storeUncorrectable => Sys2Proof.Machine.execStoreUncorrectable s
  | .journalRamFailed => Sys2Proof.Machine.execJournalRamFailed s
  | .traceRamUncorrectable buf slot idx => Sys2Proof.Machine.execTraceRamUncorrectable buf slot idx s
  | .channelEngineFailed n => Sys2Proof.Machine.execChannelEngineFailed n s
  | .blockFailed b => Sys2Proof.Machine.execBlockFailed b s
  | .mtbReferenceChange xtalRuns => Sys2Proof.Machine.execMtbReferenceChange xtalRuns s
  | .xtalReferenceValid => Sys2Proof.Machine.execXtalReferenceValid s
  | .sysMatrixWrite m v => Sys2Proof.Machine.execSysMatrixWrite m v s
  | .registerWrite m addr data => Sys2Proof.Machine.execRegisterWrite m addr data s
  | .coilModelUpdate n => Sys2Proof.Machine.execCoilModelUpdate n s
  | .dieModelUpdate k => Sys2Proof.Machine.execDieModelUpdate k s
  | .classSDeadlineMiss loop => Sys2Proof.Machine.execClassSDeadlineMiss loop s
  | .thermalFallback loop => Sys2Proof.Machine.execThermalFallback loop s
  | .coilCapExpiry n => Sys2Proof.Machine.execCoilCapExpiry n s
  | .bldBegin m => Sys2Proof.Machine.execBldBegin m s
  | .bldAbort m => Sys2Proof.Machine.execBldAbort m s
  | .bldPatchGo m => Sys2Proof.Machine.execBldPatchGo m s
  | .bldPatchClear m => Sys2Proof.Machine.execBldPatchClear m s
  | .bldPatchDataWrite m d => Sys2Proof.Machine.execBldPatchDataWrite m d s
  | .loadTimeout => Sys2Proof.Machine.execLoadTimeout s
  | .buildCheckComplete => Sys2Proof.Machine.execBuildCheckComplete s
  | .rollbackAdvance readBackOk => Sys2Proof.Machine.execRollbackAdvance readBackOk s
  | .patchCheckComplete => Sys2Proof.Machine.execPatchCheckComplete s
  | .patchApply => Sys2Proof.Machine.execPatchApply s
  | .heldPatchMatch => Sys2Proof.Machine.execHeldPatchMatch s
  | .heldPatchTimeout => Sys2Proof.Machine.execHeldPatchTimeout s
  | .reqA m n => Sys2Proof.Machine.execReqA m n s
  | .reqB m n => Sys2Proof.Machine.execReqB m n s
  | .prerollEnd n => Sys2Proof.Machine.execPrerollEnd n s
  | .fadeEnd n => Sys2Proof.Machine.execFadeEnd n s
  | .settleEnd n => Sys2Proof.Machine.execSettleEnd n s
  | .graphFadeInEnd n => Sys2Proof.Machine.execGraphFadeInEnd n s
  | .syncReset m => Sys2Proof.Machine.execSyncReset m s
  | .trackerAcquisitionEnd => Sys2Proof.Machine.execTrackerAcquisitionEnd s
  | .fadeLenWrite m n v => Sys2Proof.Machine.execFadeLenWrite m n v s
  | .lagWrite m v => Sys2Proof.Machine.execLagWrite m v s
  | .enable m n => Sys2Proof.Machine.execEnable m n s
  | .play m n => Sys2Proof.Machine.execPlay m n s
  | .quiet m n => Sys2Proof.Machine.execQuiet m n s
  | .openLoop m n => Sys2Proof.Machine.execOpen m n s
  | .closeLoop m n => Sys2Proof.Machine.execClose m n s
  | .stop m n => Sys2Proof.Machine.execStop m n s
  | .clear m n => Sys2Proof.Machine.execClear m n s
  | .rampComplete n => Sys2Proof.Machine.execRampComplete n s
  | .autoReclose n => Sys2Proof.Machine.execAutoReclose n s
  | .followingErrorDrop n => Sys2Proof.Machine.execFollowingErrorDrop n s
  | .lostFeedback n => Sys2Proof.Machine.execLostFeedback n s
  | .transferEnd n => Sys2Proof.Machine.execTransferEnd n s
  | .channelFadeEnd n => Sys2Proof.Machine.execChannelFadeEnd n s
  | .identStart m n => Sys2Proof.Machine.execIdentStart m n s
  | .startAll m => Sys2Proof.Machine.execStartAll m s
  | .identAbort m n => Sys2Proof.Machine.execIdentAbort m n s
  | .identAtStart n => Sys2Proof.Machine.execIdentAtStart n s
  | .sweepEnd n => Sys2Proof.Machine.execSweepEnd n s
  | .identFitComplete n fit => Sys2Proof.Machine.execIdentFitComplete n fit s
  | .mainsSourceChange src => Sys2Proof.Machine.execMainsSourceChange src s
  | .rippleLearnerUpdate n => Sys2Proof.Machine.execRippleLearnerUpdate n s
  | .rlClear m n => Sys2Proof.Machine.execRlClear m n s
  | .fbFault x => Sys2Proof.Machine.execFbFault x s
  | .currentLimit x => Sys2Proof.Machine.execCurrentLimit x s
  | .sdCtlWrite m k v => Sys2Proof.Machine.execSdCtlWrite m k v s
  | .sdRampWrite m k v => Sys2Proof.Machine.execSdRampWrite m k v s
  | .shortTrip n => Sys2Proof.Machine.execShortTrip n s
  | .fastShort x => Sys2Proof.Machine.execFastShort x s
  | .dieShutdown k => Sys2Proof.Machine.execDieShutdown k s
  | .loadCheckComplete n => Sys2Proof.Machine.execLoadCheckComplete n s
  | .shortRetryClear n => Sys2Proof.Machine.execShortRetryClear n s
  | .openLoad n => Sys2Proof.Machine.execOpenLoad n s
  | .muteAssert => Sys2Proof.Machine.execMuteAssert s
  | .muteRelease => Sys2Proof.Machine.execMuteRelease s
  | .muteFadeEnd => Sys2Proof.Machine.execMuteFadeEnd s
  | .pvddWarningSet => Sys2Proof.Machine.execPvddWarningSet s
  | .pvddWarningClear => Sys2Proof.Machine.execPvddWarningClear s
  | .dipReleaseEnd => Sys2Proof.Machine.execDipReleaseEnd s
  | .recal m n => Sys2Proof.Machine.execRecal m n s
  | .pilotEstimate n => Sys2Proof.Machine.execPilotEstimate n s
  | .programmeFrame n frame => Sys2Proof.Machine.execProgrammeFrame n frame s
  | .diagReport n => Sys2Proof.Machine.execDiagReport n s
  | .sweetpeaFrame bytes => Sys2Proof.Machine.execSweetpeaFrame bytes s
  | .sweetpeaFrameMissed partBOnly => Sys2Proof.Machine.execSweetpeaFrameMissed partBOnly s
  | .laneUp => Sys2Proof.Machine.execLaneUp s
  | .tbLock => Sys2Proof.Machine.execTbLock s
  | .twinJoin => Sys2Proof.Machine.execTwinJoin s
  | .joinWaitExpiry => Sys2Proof.Machine.execJoinWaitExpiry s
  | .carriedCommandApply => Sys2Proof.Machine.execCarriedCommandApply s
  | .soloTakeover n => Sys2Proof.Machine.execSoloTakeover n s
  | .shareFault n => Sys2Proof.Machine.execShareFault n s
  | .twinSilent => Sys2Proof.Machine.execTwinSilent s
  | .twinLossDecision lineLow => Sys2Proof.Machine.execTwinLossDecision lineLow s
  | .farewell m => Sys2Proof.Machine.execFarewell m s
  | .farewellHandover => Sys2Proof.Machine.execFarewellHandover s
  | .farewellHalt => Sys2Proof.Machine.execFarewellHalt s
  | .rejoin m => Sys2Proof.Machine.execRejoin m s
  | .uvSoloReturn n => Sys2Proof.Machine.execUvSoloReturn n s
  | .lenexFrame p f => Sys2Proof.Machine.execLenexFrame p f s
  | .carrierLoss p => Sys2Proof.Machine.execCarrierLoss p s
  | .lockLoss p => Sys2Proof.Machine.execLockLoss p s
  | .laneLocked p => Sys2Proof.Machine.execLaneLocked p s
  | .portFirstActivation p => Sys2Proof.Machine.execPortFirstActivation p s
  | .portSwitch => Sys2Proof.Machine.execPortSwitch s
  | .take m p => Sys2Proof.Machine.execTake m p s
  | .lnkReset m p => Sys2Proof.Machine.execLnkReset m p s
  | .inputLost => Sys2Proof.Machine.execInputLost s
  | .mbRead p seq addr len => Sys2Proof.Machine.execMbRead p seq addr len s
  | .mbWrite p seq addr data => Sys2Proof.Machine.execMbWrite p seq addr data s
  | .mbJournal p seq first count => Sys2Proof.Machine.execMbJournal p seq first count s
  | .mbTrace p seq data => Sys2Proof.Machine.execMbTrace p seq data s
  | .mbAttest p seq data => Sys2Proof.Machine.execMbAttest p seq data s
  | .mbCancel p seq => Sys2Proof.Machine.execMbCancel p seq s
  | .sessionStart p seq => Sys2Proof.Machine.execSessionStart p seq s
  | .sessionStartReady p => Sys2Proof.Machine.execSessionStartReady p s
  | .sessionOffer p seq idx cnt data => Sys2Proof.Machine.execSessionOffer p seq idx cnt data s
  | .sessionVerifyComplete p => Sys2Proof.Machine.execSessionVerifyComplete p s
  | .sessionRead p seq idx => Sys2Proof.Machine.execSessionRead p seq idx s
  | .sessionStatus p seq => Sys2Proof.Machine.execSessionStatus p seq s
  | .sessionEnd p seq => Sys2Proof.Machine.execSessionEnd p seq s
  | .sessionLapse p => Sys2Proof.Machine.execSessionLapse p s
  | .sessionFrameLimit p => Sys2Proof.Machine.execSessionFrameLimit p s
  | .attestReportReady p => Sys2Proof.Machine.execAttestReportReady p s
  | .bootComplete r => Sys2Proof.Machine.execBootComplete r s
  | .keeperFailed => Sys2Proof.Machine.execKeeperFailed s
  | .enrollArm m => Sys2Proof.Machine.execEnrollArm m s
  | .enrollDataWrite m d => Sys2Proof.Machine.execEnrollDataWrite m d s
  | .enrollGo m => Sys2Proof.Machine.execEnrollGo m s
  | .enrollComplete slot0Ok slot1Ok => Sys2Proof.Machine.execEnrollComplete slot0Ok slot1Ok s
  | .enrollWindowExpiry => Sys2Proof.Machine.execEnrollWindowExpiry s
  | .lockArm m => Sys2Proof.Machine.execLockArm m s
  | .lockGo m => Sys2Proof.Machine.execLockGo m s
  | .lockWindowExpiry => Sys2Proof.Machine.execLockWindowExpiry s
  | .testModeEntry => Sys2Proof.Machine.execTestModeEntry s
  | .arm m => Sys2Proof.Machine.execArm m s
  | .run m => Sys2Proof.Machine.execRun m s
  | .hold m => Sys2Proof.Machine.execHold m s
  | .disarm m => Sys2Proof.Machine.execDisarm m s
  | .disarmComplete => Sys2Proof.Machine.execDisarmComplete s
  | .discard m => Sys2Proof.Machine.execDiscard m s
  | .halt m => Sys2Proof.Machine.execHalt m s
  | .haltClear m => Sys2Proof.Machine.execHaltClear m s
  | .standby m => Sys2Proof.Machine.execStandby m s
  | .wake => Sys2Proof.Machine.execWake s
  | .powerOnReset => Sys2Proof.Machine.execPowerOnReset s
  | .brownOutReset vaux => Sys2Proof.Machine.execBrownOutReset vaux s
  | .pinReset => Sys2Proof.Machine.execPinReset s
  | .resetRelease vioGood pvddGood => Sys2Proof.Machine.execResetRelease vioGood pvddGood s
  | .soft m => Sys2Proof.Machine.execSoft m s
  | .chReset m mask => Sys2Proof.Machine.execChReset m mask s
  | .channelResetApply n => Sys2Proof.Machine.execChannelResetApply n s
  | .pvddUndervoltageShutdown => Sys2Proof.Machine.execPvddUndervoltageShutdown s
  | .pvddOvervoltageShutdown => Sys2Proof.Machine.execPvddOvervoltageShutdown s
  | .pvddRecovered => Sys2Proof.Machine.execPvddRecovered s
  | .vioLoss => Sys2Proof.Machine.execVioLoss s
  | .vioReturn => Sys2Proof.Machine.execVioReturn s
  | .pvddWarnWrite m v => Sys2Proof.Machine.execPvddWarnWrite m v s
  | .clrAll m => Sys2Proof.Machine.execClrAll m s
  | .evtMaskWrite m upstream g v => Sys2Proof.Machine.execEvtMaskWrite m upstream g v s
  | .journalEntryWrite => Sys2Proof.Machine.execJournalEntryWrite s
  | .jrnRdSeqWrite m seq => Sys2Proof.Machine.execJrnRdSeqWrite m seq s
  | .twpAddress addr read strap repeated => Sys2Proof.Machine.execTwpAddress addr read strap repeated s
  | .twpWriteByte b => Sys2Proof.Machine.execTwpWriteByte b s
  | .twpReadByte ack => Sys2Proof.Machine.execTwpReadByte ack s
  | .twpStop => Sys2Proof.Machine.execTwpStop s
  | .twpIdleTimeout => Sys2Proof.Machine.execTwpIdleTimeout s
  | .stretchCap beforeAck => Sys2Proof.Machine.execStretchCap beforeAck s
  | .wakeStretchCap => Sys2Proof.Machine.execWakeStretchCap s
  | .sdaRelease => Sys2Proof.Machine.execSdaRelease s
  | .alertResponse wins => Sys2Proof.Machine.execAlertResponse wins s
  | .trcArm m => Sys2Proof.Machine.execTrcArm m s
  | .traceRunStart => Sys2Proof.Machine.execTraceRunStart s
  | .trcTrig m => Sys2Proof.Machine.execTrcTrig m s
  | .traceTrigger => Sys2Proof.Machine.execTraceTrigger s
  | .traceComplete => Sys2Proof.Machine.execTraceComplete s
  | .trcStop m => Sys2Proof.Machine.execTrcStop m s
  | .pinGo m => Sys2Proof.Machine.execPinGo m s
  | .pinStop m => Sys2Proof.Machine.execPinStop m s
  | .injGo m => Sys2Proof.Machine.execInjGo m s
  | .injStop m => Sys2Proof.Machine.execInjStop m s
  | .capGo m => Sys2Proof.Machine.execCapGo m s
  | .captureStart => Sys2Proof.Machine.execCaptureStart s
  | .captureComplete => Sys2Proof.Machine.execCaptureComplete s
  | .flxCapDataRead m => Sys2Proof.Machine.execFlxCapDataRead m s
  | .coefSelWrite m q v => Sys2Proof.Machine.execCoefSelWrite m q v s
  | .coefPageCapture q => Sys2Proof.Machine.execCoefPageCapture q s
  | .drbgHealthFailure => Sys2Proof.Machine.execDrbgHealthFailure s
  | .dbgLockFuseComplete blown => Sys2Proof.Machine.execDbgLockFuseComplete blown s
  | .clockRecoveryLock p => Sys2Proof.Machine.execClockRecoveryLock p s
  | .trcClkEdge => Sys2Proof.Machine.execTrcClkEdge s
  | .twpPortClocked heldRead => Sys2Proof.Machine.execTwpPortClocked heldRead s
  | .tbLockTimeout => Sys2Proof.Machine.execTbLockTimeout s

end Sys2Proof.Machine
end

