-- ==== Sys2Proof/Safety.lean ====
section
/-! DEFINITION. The terms in which statements about the block speak: what a command reports, what it
journals, what it leaves alone, what a safe run is, and the conditions that every step keeps. -/

namespace Sys2Proof.Machine

/-! ## Reports -/

/-- A port without its queue of events (R289, R340). -/
def LinkPort.hush (l : LinkPort) : LinkPort := { l with evtQ := [], evtDrop := 0 }

/-- Everything but what events and journal entries change: the flags, counts and history of events
(R336, R341), the ports' event queues (R340), ANSWERED (R362), the trace's note of an event (R369), and
the journal. Two states with the same `silent` agree in every other register, memory and counter. -/
def State.silent (s : State) : State :=
  { s with
    evt := { s.evt with flags := 0, raised := 0, total := 0, history := [] }
    jrn := Journal.reset
    portA := s.portA.hush
    portB := s.portB.hush
    twp := { s.twp with answered := false }
    trc := { s.trc with evtHit := false } }

/-- Flags of the sources `must` are set in t, no flag of s is lost, and no other flag is new but those of
`may` and the upstream-drop source of a full event queue (R336, R340). -/
def Raises (s t : State) (must may : List Nat) : Prop :=
  ∀ j : Fin 256,
    (j.val ∈ must → t.evt.flags.getLsbD j.val = true) ∧
    (s.evt.flags.getLsbD j.val = true → t.evt.flags.getLsbD j.val = true) ∧
    (t.evt.flags.getLsbD j.val = true →
      s.evt.flags.getLsbD j.val = true ∨ j.val ∈ must ∨ j.val ∈ may ∨ j.val = Ev.upstreamDrop)

/-- The history of t holds an occurrence of a source with this INDEX and ARG (R336, R341). -/
def Tells (t : State) (e : Nat × Nat × Nat) : Prop :=
  ∃ m ∈ t.evt.history, m.source.toNat = e.1 ∧ m.index.toNat = e.2.1 ∧ m.arg.toNat = e.2.2

/-- A journal entry of the running tick: SRC, KIND, outcome, code, INDEX, DATA, DIGEST (Table 13-3). -/
def State.entry (s : State) (src kind out code idx : Nat) (data : List Byte := [])
    (digest : Option (BitVec 128) := none) : JEntry :=
  { frame := s.activeFrame, src := BitVec.ofNat 8 src, kind := BitVec.ofNat 8 kind,
    result := BitVec.ofNat 8 (out * 32 + code), index := BitVec.ofNat 8 idx, digest := digest, data := data }

/-- The KIND 0x01 entry of a register write (R345). -/
def State.writeEntry (s : State) (m : Master) (w oo : Nat) (bs : List Byte) (out code : Nat) : JEntry :=
  s.entry m.num 0x01 out code 0xFF ([BitVec.ofNat 8 w, BitVec.ofNat 8 oo, BitVec.ofNat 8 bs.length] ++ bs.take 13)
    (some (regDigest w oo bs))

/-- The KIND 0x02 entry of a change of the device's state, with the channels that it moves (R123, R345) (assumption 49). -/
def State.devEntry (s : State) (src : Nat) (old new : DevState) (cause : HaltCause) (code : Nat) (moved : BitVec 64) :
    JEntry :=
  s.entry src 0x02 0 code 0xFF ([BitVec.ofNat 8 old.code, BitVec.ofNat 8 new.code, BitVec.ofNat 8 cause.code] ++
    if moved = 0 then [] else List.replicate 5 0 ++ leBytes 8 moved.toNat)

/-- The journal as the boot starts it from i: it goes on where it runs already or is continued, else its chain opens over
the boot nonce (R343, R344). -/
def Journal.startedFrom (j i : Journal) (drbg : Bool) : Prop :=
  j = { i with started := true, noNonce := j.noNonce, nonce := j.nonce, chain := j.chain } ∧
  ((i.started = true ∨ i.continued = true) → j = { i with started := true }) ∧
  (i.started = false → i.continued = false →
    j.noNonce = ! drbg ∧ j.chain = journalSeed j.nonce ∧ (drbg = false → j.nonce = 0))

/-- The journal after entries queued in order (R347). -/
def Journal.pushes (j : Journal) (es : List JEntry) : Journal := es.foldl Journal.push j

/-- The command answers a next state that is `u` but for its reports, which are the events `evs`, as
(source, INDEX, ARG), and the entries `es`. Everything not named in `u` is unchanged. -/
def Does (c : Instr) (s u : State) (evs : List (Nat × Nat × Nat)) (es : List JEntry) : Prop :=
  ∃ t, exec c s = .next t ∧ t.silent = u.silent ∧ Raises s t (evs.map fun e => e.1) [] ∧
    (∀ e ∈ evs, Tells t e) ∧ t.jrn = s.jrn.pushes es

/-- The command answers a next state that satisfies P. -/
def Gives (c : Instr) (s : State) (P : State → Prop) : Prop := ∃ t, exec c s = .next t ∧ P t

/-- Some entries were queued, and nothing else became of the journal. -/
def Journals (s t : State) : Prop := ∃ es, t.jrn = s.jrn.pushes es

/-- Entries were queued, and the newest of them is e. -/
def JournalsLast (s t : State) (e : JEntry) : Prop := ∃ es, t.jrn = s.jrn.pushes (es ++ [e])

/-- Entries were queued, and the oldest of them is e. -/
def JournalsFirst (s t : State) (e : JEntry) : Prop := ∃ es, t.jrn = s.jrn.pushes (e :: es)

/-- Refusal registers of a load or a patch and what they report (R64, R422). -/
def State.refused (s : State) (patch : Bool) (code : Nat) (at_ : BitVec 32) : State :=
  { s with bld := { s.bld with lastKind := patch, lastCode := BitVec.ofNat 8 code, refuseAt := at_ } }

/-- An entry of the twin's command queue: KIND, CODE, ORIGIN, CAUSE and the mask; the sender fills APPLY
(R251, Table 9-4). -/
def cmdEntry (kind code origin cause : Nat) (mask : BitVec 64) : CmdEntry :=
  { kind := BitVec.ofNat 8 kind, code := BitVec.ofNat 8 code, origin := BitVec.ofNat 8 origin, apply := 0,
    mask := mask, cause := BitVec.ofNat 8 cause }

/-- The state with a command, decided in the running tick, queued for the twin. -/
def State.sends (s : State) (e : CmdEntry) : State :=
  { s with swp := { s.swp with outQ := joinCmd { e with apply := BitVec.ofNat 32 s.now } s.swp.outQ } }

/-- No patch is due, and no local decision of the running tick on the channel is still to be taken (R31, R127). -/
def State.settled (s : State) (n : Chan) : Prop := s.duePatch = s ∧ s.settle n = s

/-- The host command of CH_CMD that a bit of the register stands for (Table 4-10). -/
def ChCmd.instr (k : ChCmd) (m : Master) (n : Chan) : Instr :=
  match k with
  | .enable => .enable m n
  | .play => .play m n
  | .quiet => .quiet m n
  | .open_ => .openLoop m n
  | .close => .closeLoop m n
  | .stop => .stop m n
  | .clear => .clear m n

/-! ## Frames -/

/-- Everything but the channels and the reports. -/
def State.beyond (s : State) : State := { s.silent with chans := Vector.replicate 64 .reset }

/-- Only channel n differs, beyond reports. -/
def OnlyChan (s t : State) (n : Chan) : Prop := t.beyond = s.beyond ∧ ∀ j, j ≠ n → t.ch j = s.ch j

/-- Only these channels differ, beyond reports. -/
def OnlyChans (s t : State) (p : Chan → Bool) : Prop := t.beyond = s.beyond ∧ ∀ j, p j = false → t.ch j = s.ch j

/-- What a change of a channel's state leaves alone: the filter graph, the learner, the estimator's models,
the host's settings, the fit and reference records, and the limits in force. -/
def Channel.lasting (k : Channel) : Channel :=
  { k with
    st := .off, loop := .reset, ident := .reset, cls := { k.cls with ident := .reset }, prot := .reset
    diag := .reset, stage := .reset, twin := .reset
    keep := { k.keep with
      tripCause := 0, tripAt := 0, wasPlaying := false, tripFrom := .off, tripCheck := 0, shortLatch := false, retries := 0, retryAt := none,
      shorts := 0, result := 0, fbFault := false } }

/-- The bridge is high-impedance and drives nothing (R178). -/
def Channel.quietBridge (k : Channel) : Prop :=
  k.stage.bridge = 0 ∧ k.stage.modRun = false ∧ k.loop.setpoint = 0

/-- Channel n tripped with a cause (Table 4-7, Table 4-8): its bridge is off, the rest stays. -/
def Tripped (s t : State) (n : Chan) (cause : Nat) : Prop :=
  (t.ch n).st = .tripped ∧ (t.ch n).keep.tripCause = BitVec.ofNat 4 cause ∧ (t.ch n).quietBridge ∧
    (t.ch n).lasting = (s.ch n).lasting

/-- A channel that a stage decision can trip: neither in OFF nor in TRIPPED (Table 4-7). -/
def ChState.live : ChState → Bool
  | .off => false
  | .tripped => false
  | _ => true

/-! ## What the manual says of constants that it does not list (assumption 8) -/

/-- The response that R84 states, at every frequency: flat within ±0.01 dB up to 0.40 of the link rate, at least 96 dB down
from 0.60. -/
def PrototypeSpec : Prop := ∀ ν : Rat, protoMeets (romTap (romOf Config.prototypePick)) ν = true

/-! ## What every step keeps -/

/-- The fuses only grow: a used owner slot stays used, a used rollback slot stays as it is, and a blown lock
bit stays blown (R294). -/
def Fuses.grown (f g : Fuses) : Prop :=
  (f.owner0.used = true → g.owner0.used = true) ∧ (f.owner1.used = true → g.owner1.used = true) ∧
    f.dbg ||| g.dbg = g.dbg ∧ g.rb.length = f.rb.length ∧
    ∀ i : Nat, ∀ r, f.rb[i]? = some r → r.used = true → g.rb[i]? = some r

/-- The device is in STANDBY only while Snowdrop holds the core die in reset (R325). -/
def State.standbyHeld (s : State) : Prop := s.dev.state = .standby → s.dev.held = .standby

/-- Conditions that hold in every state a run reaches: both byte memories are in canonical form, VCORE lies
in its range (R25), PARK is never 3 (R37), the warning level and LAG lie in their ranges (R316, R103),
the journal's queue and ring stay within their sizes (R342, R347), and STANDBY is held (R325). -/
def State.Legal (s : State) : Prop :=
  Mem.wf s.ram = true ∧ Mem.wf s.bld.store = true ∧ 0x0A ≤ s.pace.vcore.toNat ∧ s.pace.vcore.toNat ≤ 0x96 ∧
    s.mx.park ≠ 3 ∧ s.pwr.warnLevel.toNat ≤ 0x34 ∧ 1 ≤ s.mtb.lag.toNat ∧ s.mtb.lag.toNat ≤ 16 ∧
    s.jrn.queue.length ≤ 1024 ∧ s.jrn.ents.length ≤ 16384 ∧ s.standbyHeld

/-- A safe step: it answers a next state that is legal. -/
def SafeStep (s : State) : Prop := ∃ t, step s = .next t ∧ t.Legal

end Sys2Proof.Machine
end

