-- ==== Sys2Proof/Certificates/Slice0/Obligations.lean ====
section
/-! DEFINITION. The statements about the block, by family of commands. -/

open Sys2Proof Sys2Proof.Machine

/-! ## The block as a whole -/

/-- A step takes the command at the front of the queue and runs it with the queue's rest; an empty queue
changes nothing (the model's choice, assumption 3). The statements about `exec` reach a run through this
one. -/
def Obligations.StepRunsFrontCommand : Prop :=
  (∀ (s : State) (c : Instr) (rest : List Instr),
    s.pending = c :: rest → step s = exec c { s with pending := rest }) ∧
  (∀ s : State, s.pending = [] → step s = .next s)

/-- A command never changes the queue of waiting commands.
Every well-formed command answers a next state in every state, and the only stop of the model is the
fault of TICK_BOUNDARY and REGISTER_WRITE with operands that no step of the hardware has
(assumption 2). -/
def Obligations.CommandsKeepTheQueueAndNeverStop : Prop :=
  (∀ (c : Instr) (s t : State), exec c s = .next t → t.pending = s.pending) ∧
  (∀ (c : Instr) (s : State),
    (c.wf = true → ∃ t, exec c s = .next t) ∧ (c.wf = false → exec c s = .fault .illFormed))

/-- The values that the register tables and chapters state for reset: the core die is held in a power-on
reset with SYS_STATE BOOT, VCORE at 0.90 V, PARK and REMAP 0 with the down-trim enabled, LAG 2, the warning
level 0x10, the default alert masks, no build, no journal entry, ports DOWN without a session and with
AUTO 1, every channel OFF with PLAY_ON_RECOVER 1 and FADE_LEN 0x0200, every die with INJ_EN 1 and a ramp of
20 ms, REFUSE_AT and TRIG_POS all ones.
Model's choices behind some of its clauses: assumptions 10 and 14. -/
def Obligations.ResetLeavesTheStatedValues : Prop :=
  let s := State.reset
  s.dev.held = .por ∧ s.dev.state = .boot ∧ s.dev.haltCause = .none ∧ s.dev.refuse = 0 ∧ s.snow.por = true ∧
  s.pace.vcore = 0x96 ∧ s.pace.margin = 0x64 ∧ s.mx.park = 0 ∧ s.mx.remap = false ∧ s.mx.downTrim = true ∧
  s.mtb.lag = 2 ∧ s.pwr.warnLevel = 0x10 ∧ s.pwr.pvddMin = 0xFFFF ∧
  (∀ g : Fin 32, groupByte s.evt.amask g.val = BitVec.ofNat 8 (defaultAlertMasks.getD g.val 0)) ∧
  s.evt.flags = 0 ∧ s.evt.umask = 0 ∧ s.evt.total = 0 ∧
  s.bld.build = none ∧ s.bld.refuseAt = 0xFFFFFFFF ∧ s.jrn.ents = [] ∧ s.jrn.dropped = 0 ∧
  (∀ p, (s.port p).lane = .down ∧ (s.port p).session = none ∧ (s.port p).auto = true ∧ (s.port p).rate = 7) ∧
  (∀ n, (s.ch n).st = .off ∧ (s.ch n).keep.playOnRecover = true ∧ (s.ch n).keep.holdOpen = false ∧
    (s.ch n).fgk.fadeLen = 0x0200 ∧ (s.ch n).fgk.settle = 0x0030 ∧ (s.ch n).keep.feTicks = 0x00F00) ∧
  (∀ k, (s.die k).injEn = true ∧ (s.die k).rampMs = 0x14 ∧ (s.die k).lost = false) ∧
  (∀ b, (s.ram6.buf b).trigPos = 0xFFFFFFFF) ∧ s.trc.state = .idle ∧ s.trc.pre = 0x8000 ∧ s.pending = []

/-- The invariant holds right after reset. -/
def Obligations.ResetIsLegal : Prop := State.reset.Legal

/-- From every legal state, reachable or not, a step answers a legal state: canonical memories, VCORE within
0x0A to 0x96, PARK never 3, the warning level and LAG within their ranges, the journal within its sizes, STANDBY only
with the core die held in reset.
Model's choices behind some of its clauses: assumption 11. -/
def Obligations.EveryStepKeepsLegal : Prop :=  ∀ s t : State, s.Legal → step s = .next t → t.Legal

/-- No command unblows a fuse: owner slots and rollback slots that are used stay so, and DBG_LOCK bits stay
blown, through every command and every reset.
Model's choices behind some of its clauses: assumption 57. -/
def Obligations.FusesOnlyGrow : Prop :=  ∀ (c : Instr) (s t : State), exec c s = .next t → s.fuse.grown t.fuse

/-- A byte memory reads what was last written, other addresses read as before, and a write keeps the
canonical form, so that equal memories are equal data.
Model's choices behind some of its clauses: assumption 11. -/
def Obligations.MemoryReadsWhatWasWritten : Prop :=
  ∀ (m : Mem) (x : Nat) (v : Byte), Mem.wf m = true →
    Mem.read (Mem.write m x v) x = v ∧ (∀ y, y ≠ x → Mem.read (Mem.write m x v) y = Mem.read m y) ∧
    Mem.wf (Mem.write m x v) = true ∧
    (∀ m' : Mem, Mem.wf m' = true → (∀ y, Mem.read m y = Mem.read m' y) → m = m')

/-! ## Device architecture -/

/-- TICK_BOUNDARY of a running device moves the model's own time on by one tick. Where the matrix holds the commit and the
byte that M4 has in flight, or none is, it moves SYS_TICK on by one, holds VCORE within one step of where it was, and lets
the coming tick start with no flag counted as raised (R337); what a commit does at its boundary is said with the port.
A device held in reset or in STANDBY only ages, but for the test-access port, whose controller takes the edges of TST_TCK
while the core die is powered, unless DBG_LOCK is in force (R308, R405) (assumption 87).
VCORE moves by the pace monitor's rule (R25): up by one step, and never above 0.90 V, in a tick whose
worst margin lies below 25 percent or while the eight steps of a miss are due; otherwise it stays.
Model's choices behind some of its clauses: assumptions 17, 19 and 20. -/
def Obligations.TickBoundaryMovesOneTick : Prop :=
  (∀ (s : State) (x : TickIn), x.wf = true →
    (s.dev.held = .running → Gives (.tickBoundary x) s fun t => t.now = s.now + 1) ∧
    (s.dev.held = .running → ((s.twp.flight = none ∧ s.twp.readDue = none) ∨ x.m4Held = true) → Gives (.tickBoundary x) s fun t =>
      t.now = s.now + 1 ∧ t.dev.tick = s.dev.tick + 1 ∧ t.dev.held = .running ∧ t.dev.state = s.dev.state ∧
      t.evt.raised = 0 ∧ (t.pace.vcore = s.pace.vcore ∨ t.pace.vcore = s.pace.vcore + 1) ∧
      t.fuse = s.fuse ∧ t.snow = s.snow ∧ t.keeper = { s.keeper with vauxCut := t.keeper.vauxCut } ∧ t.mx = s.mx ∧ t.ram = s.ram ∧
      t.ldr = { s.ldr with stage := t.ldr.stage } ∧ (s.swp.fitQ = [] → s.swp.partB = none → t.bld.store = s.bld.store) ∧
      t.pwr = { s.pwr with vauxMv := x.vaux, pvddMin := t.pwr.pvddMin } ∧
      (t.keeper.vauxCut = true ↔ s.keeper.vauxCut = true ∨
        (s.fuseWrites = true ∧ s.vauxRange = true ∧ t.vauxRange = false)) ∧
      t.dev.muteRaw = ! x.muteN ∧ t.win = s.win ∧ t.evt.amask = s.evt.amask ∧ t.evt.umask = s.evt.umask ∧
      t.tap = if s.dbgLock then s.tap else x.tck.foldl Tap.edge s.tap) ∧
    (s.dev.held ≠ .running → s.dev.held ≠ .pin → exec (.tickBoundary x) s = .next { s with now := s.now + 1 }) ∧
    (s.dev.held = .pin → exec (.tickBoundary x) s = .next { s with
      now := s.now + 1, tap := if s.dbgLock then s.tap else x.tck.foldl Tap.edge s.tap })) ∧
  (∀ (s : State) (x : TickIn), x.wf = true → s.dev.held = .running → ((s.twp.flight = none ∧ s.twp.readDue = none) ∨ x.m4Held = true) →
    let due := if s.anyMiss x then 8 else s.pace.rise
    Gives (.tickBoundary x) s fun t =>
      t.pace.vcore = (if (x.margin.toNat < 25 ∨ 0 < due) ∧ s.pace.vcore.toNat < 0x96 then s.pace.vcore + 1
        else s.pace.vcore) ∧
      t.pace.rise = due - 1 ∧ t.pace.calm = (if 40 < x.margin.toNat then s.pace.calm + 1 else 0))

/-- A failed transfer marks and counts; 16 failed ticks lose the die and trip its channels that are neither
OFF nor TRIPPED; a die that has received no good downward transfer for 16 ticks turns its bridges off by itself;
1,024 good ticks restore it (R16, R187).
The die's own decision falls with the first good downward transfer once the die is restored, which commands high
impedance to its channels; until then its channels stay high-impedance whatever the channel commands ask for (R187).
Model's choices behind some of its clauses: assumptions 15 and 22. -/
def Obligations.LaneErrorsLoseAndRestoreDies : Prop :=
  (∀ (s : State) (k : Die),
    (∀ up : Bool, Does (.laneTransferError k up) s
      (s.modDie k fun d => { d with
        laneErr := true, laneErrs := satInc d.laneErrs, upFail := d.upFail || up, downFail := d.downFail || ! up })
      [(Ev.laneError, k.val, 0)] []) ∧
    (16 ≤ (s.die k).failRun → (s.die k).lost = false → Gives (.stageDieLost k) s fun t =>
      t.beyond = (s.modDie k fun d => { d with lost := true }).beyond ∧ Journals s t ∧
      Raises s t [Ev.stageDieLost] [Ev.channelTrip, Ev.identificationResult] ∧
      (∀ n, n.die = k → s.used n = true → (s.ch n).st.live = true → Tripped s t n causeLane) ∧
      (∀ n, (n.die ≠ k ∨ s.used n = false ∨ (s.ch n).st = .off) → t.ch n = s.ch n) ∧
      (∀ n, n.die = k → s.used n = true → (s.ch n).st = .tripped →
        t.ch n = (if causeRank causeLane < causeRank (s.ch n).keep.tripCause.toNat
          then { s.ch n with keep := { (s.ch n).keep with tripCause := 6, retryAt := none } } else s.ch n))) ∧
    (16 ≤ (s.die k).downRun → Gives (.stageHizLocal k) s fun t =>
      t.beyond = (s.modDie k fun d => { d with hizLocal := true }).beyond ∧ t.jrn = s.jrn ∧ t.evt = s.evt ∧
      ∀ n, t.ch n = if n.die = k then { s.ch n with stage := (s.ch n).stage.off } else s.ch n) ∧
    ((s.die k).downRun < 16 → exec (.stageHizLocal k) s = .next s) ∧
    ((s.die k).lost = true → 1024 ≤ (s.die k).goodRun → Does (.stageDieRestored k) s
      (s.modDie k fun d => { d with lost := false }) [(Ev.stageDieRestored, k.val, 0)]
      [s.entry 0x11 0x0C 0 0 k.val ([0, 0, 0, 0] ++ leBytes 8 (s.dieMask k).toNat)])) ∧
  (∀ (s : State) (k : Die) (kept : Bool),
    (s.holdsHiz k kept = true ↔ (s.die k).hizLocal = true ∧
      ((s.die k).lost = true ∨ kept = true)) ∧
    (∀ n : Chan, n.die = k → (s.die k).hizLocal = true → s.coreCmd n = 0) ∧
    (∀ n : Chan, n.die = k → (s.die k).hizLocal = true → s.bridgeCmd n kept = 0))

/-- Memory errors (R18, R348, Tables 1-8, 12-4): a corrected one is reported; an uncorrectable one of the build
store halts the device with cause STORE and takes the build; the journal RAM's failure stops the journal and
counts what waited, but for gap entries; a trace word's failure marks its buffer.
A failed channel engine trips its channel with cause ENGINE from every state, OFF included; another
failed block is removed, reported and journalled with the channels that use it, and takes those that play to QUIET,
by a command to the twin on a joined twinned channel; a failed port loses its sessions and readouts, a failed
Sweetpea its lane (R39, R251, Table 1-8).
Model's choices behind some of its clauses: assumptions 26, 59 and 70. -/
def Obligations.MemoriesAndBlocksFail : Prop :=
  (∀ s : State,
    (∀ m : EccMem, Does (.eccCorrected m) s s [(Ev.eccCorrected, 0xFF, 0)] []) ∧
    (s.dev.state ≠ .standby → s.dev.state ≠ .boot → Gives .storeUncorrectable s fun t =>
      t.dev = { s.dev with state := .halt, disarming := false, haltCause := .store, muteTook := 0 } ∧
      t.bld.build = none ∧ t.bld.store = s.bld.store ∧ t.ldr.phase = .idle ∧
      (∀ n, (t.ch n).st = .off ∨ (t.ch n).st = .tripped) ∧
      (∀ n, (s.ch n).st.live = true → (t.ch n).quietBridge) ∧ Journals s t ∧
      Raises s t [Ev.storeUncorrectable, Ev.halt]
        [Ev.identificationResult, Ev.buildRefused, Ev.referenceLost, Ev.diagnosticClass] ∧
      t.silent = { s.silent with
        dev := t.dev, ldr := t.ldr, bld := t.bld, chans := t.chans, swp := t.swp, trc := t.silent.trc,
        flx := t.flx, coef := t.coef, mtb := t.mtb }) ∧
    (Gives .journalRamFailed s fun t =>
      t.silent = s.silent ∧ Raises s t [Ev.journalFailed] [] ∧ Tells t (Ev.journalFailed, 0xFF, 0) ∧
      t.jrn = { s.jrn with
        failed := true, queue := [], gap := 0,
        dropped := satAdd s.jrn.dropped (s.jrn.queue.countP fun e => e.kind != 0x11) }) ∧
    (∀ (b : Bool) (slot : Fin 16) (i : BitVec 16), Does (.traceRamUncorrectable b slot i) s
      { s with ram6 := s.ram6.setBuf b { s.ram6.buf b with
        invalid := true, badWords := (slot.val, i.toNat) :: (s.ram6.buf b).badWords } }
      [(Ev.traceInvalid, 0xFF, 0)] [])) ∧
  (∀ s : State,
    (∀ n : Chan, (s.ch n).st ≠ .tripped → Gives (.channelEngineFailed n) s fun t =>
      Tripped s t n causeEngine ∧ OnlyChan s t n ∧ Journals s t ∧
      Raises s t [Ev.channelTrip] [Ev.identificationResult] ∧ Tells t (Ev.channelTrip, n.val, causeEngine)) ∧
    (∀ n : Chan, (s.ch n).st = .tripped → (s.ch n).keep.tripCause.toNat ≠ causeEngine →
      let u := s.modCh n fun k => { k with keep := { k.keep with tripCause := 8, retryAt := none } }
      Does (.channelEngineFailed n) s u [(Ev.channelTrip, n.val, causeEngine)]
        [s.entry 0x10 0x03 0 causeEngine n.val (chData .tripped .tripped (u.ch n))]) ∧
    (∀ b : BlockId, Gives (.blockFailed b) s fun t =>
      t.dev = { s.dev with gone := b :: s.dev.gone } ∧
      JournalsFirst s t (s.entry 0x10 0x0C 0 0 0xFF
        ([0, 0, 0, 0] ++ leBytes 8 (maskOf fun n => s.hitBy b n).toNat)) ∧
      Raises s t [Ev.blockRemoved] [Ev.identificationResult, Ev.referenceLost, Ev.sessionEnded, Ev.buildRefused] ∧
      (∀ n, s.hitBy b n = true → (s.ch n).st.playing = true → s.joinedTwin n = false →
        (t.ch n).st = .quiet ∧ (t.ch n).loop.fading = .quiet ∧ (t.ch n).lasting = (s.ch n).lasting) ∧
      (∀ n, s.hitBy b n = true → (s.ch n).st.playing = true → s.joinedTwin n = true →
        ∃ e ∈ t.swp.outQ, inMask e.mask n = true ∧ (e.kind.toNat, e.code.toNat, e.origin.toNat) =
          if s.follows n then (2, ChCmd.quiet.bit, 1) else (1, ChState.quiet.code, 0)) ∧
      (∀ n, (s.hitBy b n = false ∨ (s.ch n).st.playing = false ∨ s.joinedTwin n = true) → t.ch n = s.ch n) ∧
      (∀ p, b = .link p → (t.port p).lane = .down ∧ (t.port p).carrier = false ∧ (t.port p).txOn = false ∧
        (t.port p).session = none ∧ (t.port p).pendSess = none ∧ (t.port p).jrnRead = none ∧
        (t.port p).trcRead = none ∧ (∀ r : Req, t.mbRun p r = t ∧ t.mbSlice p r = t)) ∧
      (b = .trace → t.trc.state = .idle) ∧ (b = .twoWire → t.twp.phase = .deaf) ∧
      (b = .sweetpea → t.swp.laneUp = false ∧ t.mtb.refSrc = t.refWanted ∧
        t.swp.joinCode = if s.swp.joined then 0 else 1) ∧
      t.silent = { s.silent with
        dev := t.dev, ldr := t.ldr, bld := t.bld, chans := t.chans, link := t.link, portA := t.silent.portA, portB := t.silent.portB,
        twp := t.silent.twp, swp := t.swp, mtb := t.mtb, trc := t.silent.trc }))

/-- VCORE trims down by one code after 1,024 calm ticks, not below 0x0A and only with the trim enabled (R25).
The crystal's oscillator runs only where the build declares a crystal, and counts as a reference once its
detector has held for 1,024 ticks (R49). MTB then takes the reference that R20 gives, counts a change, and reports
that it runs free.
The reference that R20 gives: the twin for a follower whose lane is up, else a declared crystal that
runs and is valid, else the locked active port, else none.
Model's choices behind some of its clauses: assumptions 15, 20 and 84. -/
def Obligations.ReferencesAndVcoreDownTrim : Prop :=
  (∀ s : State,
    (s.mx.downTrim = true → 1024 ≤ s.pace.calm → 0x0A < s.pace.vcore.toNat → Does .vcoreDownTrim s
      { s with pace := { s.pace with vcore := s.pace.vcore - 1, calm := 0 } } [] []) ∧
    ((s.mx.downTrim = false ∨ s.pace.calm < 1024 ∨ s.pace.vcore.toNat ≤ 0x0A) →
      exec .vcoreDownTrim s = .next s)) ∧
  (∀ (s : State) (c : Instr) (u : State),
    ((∃ r : Bool, c = .mtbReferenceChange r ∧
        u = (let runs := r && s.xtalDeclared
          { s with mtb := { s.mtb with
              xtalRuns := runs, xtalOk := s.mtb.xtalOk && runs, xtalHold := if runs then s.mtb.xtalHold else 0 } })) ∨
      (c = .xtalReferenceValid ∧ (s.xtalDeclared = true ∧ s.mtb.xtalRuns = true ∧ 1024 ≤ s.mtb.xtalHold) ∧
        u = { s with mtb := { s.mtb with xtalOk := true } })) →
      (u.refWanted = u.mtb.refSrc → Does c s u [] []) ∧
      (u.refWanted ≠ u.mtb.refSrc →
        Does c s { u with mtb := { u.mtb with
            refSrc := u.refWanted, refLocked := false, refRun := 0, refChanges := satInc u.mtb.refChanges } }
          (if u.refWanted = 0 then [(Ev.referenceLost, 0xFF, 0)] else []) [])) ∧
  (∀ s : State,
    let follower := match s.plan with
      | some p => p.tbFollower
      | none => false
    let declared := match s.bld.build with
      | some b => b.claim.xtal
      | none => false
    let crystal := declared && s.mtb.xtalRuns && s.mtb.xtalOk
    let linkUp := match s.link.active with
      | some p => decide ((s.port p).lane = .locked)
      | none => false
    ((follower && s.swp.laneUp) = true → s.refWanted = 1) ∧
    ((follower && s.swp.laneUp) = false → crystal = true → s.refWanted = 2) ∧
    ((follower && s.swp.laneUp) = false → crystal = false → linkUp = true → s.refWanted = 3) ∧
    ((follower && s.swp.laneUp) = false → crystal = false → linkUp = false → s.refWanted = 0))

/-- SYS_MATRIX is judged by its writer (R37): M0 may change REMAP and PARK, the two mailboxes PARK alone, and a
byte that would change REMAP from them, or a write of any other master, is denied and changes nothing; PARK = 3
is refused and keeps the park that was. REMAP selects what sits at address zero of T0, and a complete boot sets it. -/
def Obligations.MatrixByteIsJudgedByItsWriter : Prop :=
  ∀ (s : State) (m : Master) (v : Byte),
    let park : BitVec 2 := (v >>> 1).setWidth 2
    let u := { s with mx := { s.mx with remap := v.getLsbD 0, park := if park = 3 then s.mx.park else park } }
    let allowed := m = .m0 ∨ ((m = .m1 ∨ m = .m2) ∧ v.getLsbD 0 = s.mx.remap)
    (allowed → Does (.sysMatrixWrite m v) s u
      (if park = 3 then [(Ev.parkRefused, 0xFF, 0)] else [])
      (if park = 3 ∧ v.getLsbD 0 = s.mx.remap then [] else [s.writeEntry m 0x00 0x10 [v] 0 0])) ∧
    (¬ allowed → Does (.sysMatrixWrite m v) s (s.mxLog m 3 1 0) [(Ev.accessDenied, 0xFF, 0)]
      [s.entry m.num 0x10 2 0 0xFF (mxData (s.mxLog m 3 1 0).pace 0x30000010)]) ∧
    (∀ a, a < 0x10000 →
      s.readByte .m0 a = (if s.mx.remap then Mem.read s.ram a else Config.romByte a) ∧
      s.readByte .m0 (a + 0x10000) = (if s.mx.remap then Config.romByte a else Mem.read s.ram a)) ∧
    (s.dev.held = .running → s.dev.state = .boot → Gives (.bootComplete .ok) s fun t => t.mx.remap = true)

/-- A class S engine serves one loop: it is pending, and no other loop pending on that engine has an earlier
deadline, or the same one and a higher place in Table 4-5 (R113).
The thermal models (R201 to R206): a release of the coil model integrates the coil, then the magnet, with the
mean power of the 192 ticks before it; a release of the die model heats each used position; both clear their run
of misses and are no longer pending, and what they give reaches class P work at the next boundary alone (R21); a loop that its engine does not serve changes nothing; the cap of R204
lifts after 10 s.
Model's choices behind some of its clauses: assumptions 9, 44 and 66. -/
def Obligations.ThermalModelsIntegrate : Prop :=
  (∀ (s : State) (l : ClassS), s.served l = true ↔
    ∃ r, (s.slot l).run = some r ∧
      ∀ q ∈ loopsAt (classChan l), classEngine q = classEngine l → classRow q ≠ classRow l →
        ∀ o, (s.slot q).run = some o → r.2 < o.2 ∨ (r.2 = o.2 ∧ classRow l < classRow q)) ∧
  (∀ s : State,
    (∀ (n : Chan) (c : ChanCfg), s.cfg n = some c → s.served (.coil n) = true → (s.ch n).prot.correction = none →
      let p := (s.ch n).prot
      let heat := p.powRel * c.re * (1 + c.protP 0x0212 * (p.tc - c.protP 0x0211))
      let tc := p.tc + 1 / 1000 / c.protP 0x0214 * (heat - (p.tc - p.tm) / c.protP 0x0213)
      Gives (.coilModelUpdate n) s fun t =>
        OnlyChan s t n ∧ Journals s t ∧ Raises s t [] [Ev.coilLimit, Ev.coilOver] ∧
        (t.ch n).prot.tc = tc ∧
        (t.ch n).prot.tm = p.tm + 1 / 1000 / c.protP 0x0216 *
          ((tc - p.tm) / c.protP 0x0213 - (p.tm - c.protP 0x0210) / c.protP 0x0215) ∧
        ((t.ch n).prot.coilLimit = true ↔ c.protP 0x0217 < tc) ∧
        ((t.ch n).prot.coilOver = true ↔ c.protP 0x0218 ≤ tc) ∧
        (t.ch n).loop.coilMissRun = 0 ∧ (t.ch n).loop.coilFallback = false ∧ (t.ch n).cls.coil.run = none ∧
        (t.ch n).issue = (s.ch n).issue ∧
        (t.ch n).st = (s.ch n).st ∧ (t.ch n).keep = (s.ch n).keep ∧ (t.ch n).stage = (s.ch n).stage) ∧
    (∀ k : Die, s.served (.die k) = true → Gives (.dieModelUpdate k) s fun t =>
      (∀ j, j ≠ k → t.die j = s.die j) ∧ t.chans = s.chans ∧ t.jrn = s.jrn ∧ t.evt = s.evt ∧
      t.silent = { s.silent with dies := t.dies } ∧
      (t.die k).dieMissRun = 0 ∧ (t.die k).dieFallback = false ∧ (t.die k).cls.run = none ∧
      (t.die k).attUse = (s.die k).attUse ∧ (t.die k).fallbackUse = (s.die k).fallbackUse ∧
      (∀ j : Fin 8, s.used (dieChan k j) = false → (t.die k).dT[j] = (s.die k).dT[j]) ∧
      (∀ j : Fin 8, s.used (dieChan k j) = true →
        (t.die k).dT[j] = (s.die k).dT[j] +
          (3 * (s.die k).powRel[j] - (s.die k).dT[j]) * (1 / 1000) / (5 / 1000)) ∧
      (∀ j : Fin 8, s.used (dieChan k j) = true → (s.die k).tRel + (t.die k).dT[j] ≤ (t.die k).tModel)) ∧
    (∀ n : Chan, s.served (.coil n) = false → exec (.coilModelUpdate n) s = .next s) ∧
    (∀ k : Die, s.served (.die k) = false → exec (.dieModelUpdate k) s = .next s) ∧
    (∀ n : Chan, 1920000 ≤ (s.ch n).prot.coilAge → Does (.coilCapExpiry n) s
      (s.modCh n fun k => { k with prot := { k.prot with coilCap := false }, issue := { k.issue with cap := false } }) [] []) ∧
    (∀ k : Channel, k.issueS.issue.tc = k.prot.tc ∧ k.issueS.issue.cap = k.prot.coilCap ∧
      k.issueS.issue.fallback = k.loop.coilFallback))

/-- A loop that passed its deadline sets its mark and is reported, and a fit that came late ends without result
(R28), and fails a check of RETRY that another cause has tripped in the tick, which is reported too (R216); the sixteenth miss in a row of a thermal model brings the fall-back gain (R29). A loop that met its
deadline reports nothing.
At a boundary that ends a release period the periodic loops of a channel are released with the sums and the
window of that moment, and a run whose deadline has come is missed and given up (R28, Table 1-5).
Model's choices behind some of its clauses: assumptions 39, 44 and 66. -/
def Obligations.DeadlineMissesFallBack : Prop :=
  (∀ s : State,
    let told (l : ClassS) : State := s.modSlot l fun c => { c with missDue := false }
    (∀ l : ClassS, (s.slot l).missDue = false → exec (.classSDeadlineMiss l) s = .next s) ∧
    (∀ n : Chan, (s.slot (.coil n)).missDue = true → Does (.classSDeadlineMiss (.coil n)) s
      ((told (.coil n)).modCh n fun k => { k with loop := { k.loop with
        coilDm := true, coilMissRun := min (k.loop.coilMissRun + 1) 255 } })
      [(Ev.coilDeadlineMiss, n.val, 0)] []) ∧
    (∀ k : Die, (s.slot (.die k)).missDue = true → Does (.classSDeadlineMiss (.die k)) s
      ((told (.die k)).modDie k fun d => { d with dieDm := true, dieMissRun := satInc d.dieMissRun })
      [(Ev.dieDeadlineMiss, k.val, 0)] []) ∧
    (∀ n : Chan, (s.slot (.pilot n)).missDue = true → Does (.classSDeadlineMiss (.pilot n)) s
      ((told (.pilot n)).modCh n fun k => { k with loop := { k.loop with pilotDm := true } })
      [(Ev.pilotDeadlineMiss, n.val, 0)] []) ∧
    (∀ n : Chan, (s.slot (.ripple n)).missDue = true → Does (.classSDeadlineMiss (.ripple n)) s
      ((told (.ripple n)).modCh n fun k => { k with loop := { k.loop with rippleDm := true } })
      [(Ev.rippleDeadlineMiss, n.val, 0)] []) ∧
    (∀ n : Chan, (s.slot (.ident n)).missDue = true → (s.ch n).ident.fitPending = false →
      Does (.classSDeadlineMiss (.ident n)) s
        ((told (.ident n)).modCh n fun k => { k with loop := { k.loop with identDm := true } })
        [(Ev.identDeadlineMiss, n.val, 0)] []) ∧
    (∀ n : Chan, (s.slot (.ident n)).missDue = true → (s.ch n).ident.fitPending = true → (s.ch n).st ≠ .retry →
      ((s.ch n).st = .tripped → (s.ch n).keep.tripAt = s.now → (s.ch n).keep.tripFrom ≠ .retry) →
      (s.ch n).loop.runPlay = false → Gives (.classSDeadlineMiss (.ident n)) s fun t =>
        OnlyChan s t n ∧ Journals s t ∧ Raises s t [Ev.identDeadlineMiss, Ev.identificationResult] [] ∧
        t.ch n = { s.ch n with
          loop := { (s.ch n).loop with identDm := true }
          ident := .reset
          cls := { (s.ch n).cls with ident := { run := none, missDue := false } }
          keep := { (s.ch n).keep with result := 6 } }) ∧
    (∀ n : Chan, (s.slot (.ident n)).missDue = true → (s.ch n).ident.fitPending = true → (s.ch n).st = .tripped →
      (s.ch n).keep.tripAt = s.now → (s.ch n).keep.tripFrom = .retry → (s.ch n).keep.tripCause.toNat ≠ causeIdent →
      Gives (.classSDeadlineMiss (.ident n)) s fun t =>
        OnlyChan s t n ∧ Journals s t ∧ (t.ch n).st = .tripped ∧ (t.ch n).ident = .reset ∧ (t.ch n).keep.result = 6 ∧
        Raises s t [Ev.identDeadlineMiss, Ev.identificationResult, Ev.channelTrip] [] ∧
        Tells t (Ev.channelTrip, n.val, causeIdent)) ∧
    (∀ n : Chan, 16 ≤ (s.ch n).loop.coilMissRun → Does (.thermalFallback (.coil n)) s
      (s.modCh n fun k => { k with loop := { k.loop with coilFallback := true } }) [] []) ∧
    (∀ k : Die, 16 ≤ (s.die k).dieMissRun.toNat → Does (.thermalFallback (.die k)) s
      (s.modDie k fun d => { d with dieFallback := true }) [] [])) ∧
  ((∀ (k : Channel) (now clock : Nat),
    (clock % 192 = 0 → (k.release now clock).cls.coil.run = some (now, now + 192) ∧
      (k.release now clock).prot.powRel = k.prot.powSum / 192 ∧ (k.release now clock).prot.powSum = 0) ∧
    (clock % 1920 = 0 → (k.release now clock).cls.pilot.run = some (now, now + 1920) ∧
      (k.release now clock).diag.snap = k.diag.window ∧ (k.release now clock).diag.snapTc = k.prot.tc) ∧
    (clock % 192 ≠ 0 → k.release now clock = k)) ∧
  (∀ (c : ClsSlot) (now : Nat),
    (∀ r, c.run = some r → r.2 ≤ now → c.expire now = { run := none, missDue := true }) ∧
    ((∀ r, c.run = some r → now < r.2) → c.expire now = c)))

/-! ## The build image -/

/-- BLD_CTL (R59, R61, R66, R422): BEGIN opens a load, from BUILT it first takes the build in force; ABORT ends a
load with ABORTED; PATCH_GO hands the buffer to the check; PATCH_CLEAR empties it; a word joins the buffer of
its owner, a further one overflows, and another master's word is denied (R65).
A refused BEGIN or PATCH_GO changes nothing but the refusal registers, and says why: STATE outside its
device states or with no build, BUSY while a load or a check runs or a patch waits, LENGTH for a length that R59
excludes and for a buffer that has overflowed, which is emptied (R59, R66, Table 2-16).
Model's choices behind some of its clauses: assumptions 28, 30, 31, 32, 49, 75 and 85. -/
def Obligations.LoaderCommandsTakeEffect : Prop :=
  (∀ (s : State) (m : Master), mayWrite m = true →
    (s.keeper.failed = false → s.dev.state = .unbuilt → s.ldr.phase = .idle → s.ldr.patchCheck = false →
      0 < s.bld.len.toNat → s.bld.len.toNat ≤ 4194304 → s.bld.len.toNat % 8 = 0 →
      Does (.bldBegin m) s { s with
          ldr := { s.ldr with phase := .receiving, covered := [], loadBy := m }, bld := { s.bld with received := 0 }
          trc := { s.trc with state := .idle, armPending := false, manualTrig := false, left := 0 } }
        [] [s.entry m.num 0x04 0 0 0xFF [] (some 0)]) ∧
    (s.keeper.failed = false → s.dev.state = .built → s.bld.build.isSome = true → s.ldr.phase = .idle →
      s.ldr.patchCheck = false → 0 < s.bld.len.toNat → s.bld.len.toNat ≤ 4194304 → s.bld.len.toNat % 8 = 0 →
      Gives (.bldBegin m) s fun t =>
        t.dev = { s.dev with state := .unbuilt } ∧ t.bld.build = none ∧ t.bld.store = s.bld.store ∧
        t.bld.received = 0 ∧ t.ldr.phase = .receiving ∧ t.ldr.covered = [] ∧ t.ldr.loadBy = m ∧
        (∀ n, (t.ch n).st = .off ∨ ((t.ch n).st = .tripped ∧ (s.ch n).st = .tripped)) ∧
        (∀ n, (t.ch n).keep.holdOpen = (s.ch n).keep.holdOpen ∧ (t.ch n).keep.fbFault = (s.ch n).keep.fbFault ∧
          (t.ch n).keep.playOnRecover = (s.ch n).keep.playOnRecover) ∧
        Journals s t ∧
        Raises s t [] [Ev.identificationResult, Ev.diagnosticClass, Ev.buildRefused, Ev.referenceLost] ∧
        t.silent = { s.silent with
          dev := t.dev, ldr := t.ldr, bld := t.bld, chans := t.chans, swp := t.swp, trc := t.silent.trc,
          flx := t.flx, coef := t.coef, mtb := t.mtb }) ∧
    (s.ldr.phase ≠ .idle → Does (.bldAbort m) s
      (State.refused { s with ldr := { s.ldr with phase := .idle } } false codeAborted noOffset)
      [(Ev.buildRefused, 0xFF, codeAborted)] [s.entry m.num 0x04 1 codeAborted 0xFF [] (some 0)]) ∧
    (s.ldr.phase = .idle → Does (.bldAbort m) s s [] [s.writeEntry m 0x08 0x04 [0x02] 0 0]) ∧
    (s.keeper.failed = false → s.bld.build.isSome = true →
      (s.dev.state = .built ∨ s.dev.state = .armed ∨ s.dev.state = .run ∨ s.dev.state = .halt) →
      s.ldr.patchBusy = false → s.ldr.patchOver = false → Does (.bldPatchGo m) s
        { s with ldr := { s.ldr with patchCheck := true, patchBy := m, owner := none } } [] [s.entry m.num 0x05 0 0 0xFF [] (some 0)]) ∧
    Does (.bldPatchClear m) s { s with ldr := { s.ldr with owner := none, patchWords := [], patchOver := false } }
      [] [s.writeEntry m 0x08 0x04 [0x08] 0 0] ∧
    (∀ d : BitVec 32, m ≠ .m0 → (s.ldr.owner = none ∨ s.ldr.owner = some m) → s.ldr.patchWords.length < 16384 →
      Does (.bldPatchDataWrite m d) s { s with ldr := { s.ldr with
          owner := if s.ldr.patchWords = [] then some m else s.ldr.owner, patchWords := d :: s.ldr.patchWords } } [] []) ∧
    (∀ d : BitVec 32, m ≠ .m0 → (s.ldr.owner = none ∨ s.ldr.owner = some m) → 16384 ≤ s.ldr.patchWords.length →
      Does (.bldPatchDataWrite m d) s { s with ldr := { s.ldr with patchOver := true } }
        [(Ev.patchOverflow, 0xFF, 0)] []) ∧
    (∀ d : BitVec 32, (m = .m0 ∨ ∃ o, s.ldr.owner = some o ∧ o ≠ m) → Does (.bldPatchDataWrite m d) s (s.mxLog m 3 1 0)
        [(Ev.accessDenied, 0xFF, 0)] [s.entry m.num 0x10 2 0 0xFF (mxData (s.mxLog m 3 1 0).pace 0x30000818)])) ∧
  (∀ (s : State) (m : Master), mayWrite m = true → s.keeper.failed = false →
    (∀ code : Nat,
      (code = codeState ∧ s.dev.state ≠ .unbuilt ∧ s.dev.state ≠ .built) ∨
      (code = codeBusy ∧ (s.dev.state = .unbuilt ∨ s.dev.state = .built) ∧
        (s.ldr.phase ≠ .idle ∨ s.ldr.patchCheck = true)) ∨
      (code = codeLength ∧ (s.dev.state = .unbuilt ∨ s.dev.state = .built) ∧ s.ldr.phase = .idle ∧
        s.ldr.patchCheck = false ∧ (s.bld.len.toNat = 0 ∨ 4194304 < s.bld.len.toNat ∨ s.bld.len.toNat % 8 ≠ 0)) →
      Does (.bldBegin m) s (s.refused false code noOffset) [(Ev.buildRefused, 0xFF, code)]
        [s.entry m.num 0x04 1 code 0xFF [] (some 0)]) ∧
    let open_ := s.bld.build.isSome = true ∧
      (s.dev.state = .built ∨ s.dev.state = .armed ∨ s.dev.state = .run ∨ s.dev.state = .halt)
    (¬ open_ → Does (.bldPatchGo m) s (s.refused true codeState noOffset)
      [(Ev.buildRefused, 0xFF, codeState)] [s.entry m.num 0x05 1 codeState 0xFF [] (some 0)]) ∧
    (open_ → s.ldr.patchBusy = true → Does (.bldPatchGo m) s (s.refused true codeBusy noOffset)
      [(Ev.buildRefused, 0xFF, codeBusy)] [s.entry m.num 0x05 1 codeBusy 0xFF [] (some 0)]) ∧
    (open_ → s.ldr.patchBusy = false → s.ldr.patchOver = true → Does (.bldPatchGo m) s
      (State.refused { s with ldr := s.ldr.emptyPatch } true codeLength noOffset)
      [(Ev.buildRefused, 0xFF, codeLength)] [s.entry m.num 0x05 1 codeLength 0xFF [] (some 0)]))

/-- A load ends (R61 to R64, R99, R293, R300, R301, R339): after 100 ms without a segment with TIMEOUT; after its
check with the build in force, its region decrypted in the build store, and the device BUILT, or with the code and
offset of the check, or with KEEPER, and the master that began it, where the keeper has failed (R311); and a higher ROLLBACK is burnt into the first
unused slot, or none is left; with VAUX out of its range nothing is programmed, and a write that it interrupts spoils
its slot (R294).
Model's choices behind some of its clauses: assumptions 16, 30, 31, 57, 74 and 76. -/
def Obligations.LoadsEndInABuildOrACode : Prop :=
  ∀ s : State,
    (s.ldr.phase = .receiving → Does .loadTimeout s
      (State.refused { s with ldr := { s.ldr with phase := .idle } } false codeTimeout noOffset)
      [(Ev.buildRefused, 0xFF, codeTimeout)] [s.entry 6 0x04 1 codeTimeout 0xFF [] (some 0)]) ∧
    (s.ldr.phase = .checking → s.dev.state = .unbuilt → s.keeper.failed = true → Does .buildCheckComplete s
      (State.secLast { s with ldr := { s.ldr with phase := .idle } } s.ldr.loadBy.num secKeeper)
      [(Ev.securityRefused, 0xFF, secKeeper)] [s.entry 0 0x0A 1 secKeeper 0xFF (secData 0 0 s.rbCounter) (some 0)]) ∧
    (s.ldr.phase = .checking → s.dev.state = .unbuilt → s.keeper.failed = false →
      let img := s.bld.store.reads 0 s.bld.len.toNat
      let u := s.storePlain img
      match checkBuild img s.bld.len.toNat s.fuse s.rbCounter with
      | .ok b => Gives .buildCheckComplete s fun t =>
        t.bld.build = some b ∧ t.bld.patchSeq = 0 ∧ t.bld.lastCode = 0 ∧ t.bld.store = u.bld.store ∧
        t.ldr = { s.ldr with phase := .idle } ∧ t.dev = { s.dev with state := .built } ∧
        t.evt.amask = (b.policy.getD (Events.reset.amask, 0)).1 ∧ t.evt.umask = (b.policy.getD (Events.reset.amask, 0)).2 ∧
        t.keeper = (if b.bench = false ∧ s.rbCounter < b.rollback
          then { s.keeper with fuseBusy := true, rbTarget := b.rollback } else s.keeper) ∧
        t.mtb.refSrc = t.refWanted ∧ t.mtb.xtalRuns = b.claim.xtal ∧
        (∀ n, b.chans[n] = none → t.ch n = (s.ch n).unbuilt) ∧
        (∀ n c, b.chans[n] = some c →
          ((t.ch n).st = .off ∨ ((t.ch n).st = .tripped ∧ (s.ch n).st = .tripped)) ∧
          (t.ch n).fg.phase = .settle ∧ (t.ch n).fg.waitStart = true ∧ (t.ch n).prot.tc = c.protP 0x0210 ∧
          (t.ch n).prot.tm = c.protP 0x0210 ∧ (t.ch n).prot.coilCap = true ∧ (t.ch n).keep.feTicks = c.feTicks) ∧
        Raises s t [Ev.buildAccepted] [Ev.referenceLost] ∧
        t.jrn = s.jrn.pushes [s.entry 0 0x02 0 0 0xFF [BitVec.ofNat 8 s.dev.state.code, 3, BitVec.ofNat 8 s.dev.haltCause.code],
          s.entry 0 0x04 0 0 0xFF (beBytes 16 b.id.toNat) (some (first16 b.digest))] ∧
        t.silent = { s.silent with
          dev := t.dev, ldr := t.ldr, bld := t.bld, chans := t.chans, stm := { s.stm with since := 0 },
          evt := t.silent.evt, swp := t.swp, keeper := t.keeper, mtb := t.mtb, coef := t.coef }
      | .error e => e.code < 256 →
        let ids := imageIds img s.bld.len.toNat s.fuse
        Does .buildCheckComplete s (State.refused { u with ldr := { s.ldr with phase := .idle } } false e.code e.off)
        [(Ev.buildRefused, 0xFF, e.code)] [s.entry 0 0x04 1 e.code 0xFF ids.2 (some ids.1)]) ∧
    (s.keeper.fuseBusy = true →
      (s.fuse.rb.all (fun r => r.used) = false → s.vauxRange = true → s.keeper.vauxCut = false → s.rbCounter < s.keeper.rbTarget →
        Gives (.rollbackAdvance true) s fun t =>
          t.rbCounter = s.keeper.rbTarget ∧ t.keeper = { s.keeper with fuseBusy := false, vauxCut := false } ∧
          t.fuse = { s.fuse with rb := progRb s.keeper.rbTarget true s.fuse.rb } ∧ t.chans = s.chans ∧ t.dev = s.dev ∧
          Raises s t [Ev.rollbackAdvanced] [Ev.sessionEnded, Ev.sessionEstablished, Ev.buildRefused] ∧ Journals s t ∧
          (∀ p x r, (s.port p).session = some x → x.rbMax = some r → r < s.keeper.rbTarget →
                      (t.port p).session = (s.port p).pendSess.filter fun y => ! y.passed s.keeper.rbTarget) ∧
          (∀ p x r, (s.port p).pendSess = some x → x.rbMax = some r → r < s.keeper.rbTarget →
            (t.port p).pendSess = none) ∧
          (∀ p x, (s.port p).session = some x → (x.rbMax = none ∨ ∃ r, x.rbMax = some r ∧ s.keeper.rbTarget ≤ r) →
            (t.port p).session = some x)) ∧
      (∀ ok : Bool, s.fuse.rb.all (fun r => r.used) = false → s.vauxRange = false → s.keeper.vauxCut = false → Does (.rollbackAdvance ok) s
        { s with keeper := { s.keeper with fuseBusy := false } } [] []) ∧
      (∀ ok : Bool, s.fuse.rb.all (fun r => r.used) = false →
        ((ok = false ∧ s.vauxRange = true) ∨ s.keeper.vauxCut = true) → Does (.rollbackAdvance ok) s
          { s with keeper := { s.keeper with fuseBusy := false, vauxCut := false },
                   fuse := { s.fuse with rb := progRb s.keeper.rbTarget false s.fuse.rb } } [] []) ∧
      (∀ ok : Bool, s.fuse.rb.all (fun r => r.used) = true → Does (.rollbackAdvance ok) s
        { s with keeper := { s.keeper with fuseBusy := false, vauxCut := false } } [(Ev.rollbackFull, 0xFF, 0)]
        [s.entry 0 0x0A 0 0 0xFF (secData 0 0 s.rbCounter) (some 0)]))

/-- Patches (R66 to R69, R252): one that passes its check waits for the next boundary, or is held on a joined
device; one that fails is refused with its code; at its boundary it applies as a whole, or is refused as a
whole with PATCH_FIELD; a held patch applies with the twin's, or is refused after its wait.
Model's choices behind some of its clauses: assumptions 32, 75, 76 and 85. -/
def Obligations.PatchesApplyAsAWhole : Prop :=
  ∀ s : State,
    (s.ldr.patchCheck = true → s.keeper.failed = false →
     match s.checkPatch s.ldr.patchBytes s.ldr.patchOver with
     | .ok p =>
      ((s.swp.joined && s.patchTwinned p) = false → Does .patchCheckComplete s
        { s with ldr := { s.ldr with patchCheck := false, accepted := some p, acceptedAt := s.now } } [] []) ∧
      ((s.swp.joined && s.patchTwinned p) = true → Does .patchCheckComplete s
        { s with ldr := { s.ldr with patchCheck := false, heldPatch := some (p, s.dev.tick + 16, s.now) } }
        [] [s.entry 0 0x05 3 0 0xFF (patchData12 p.seq p.target16) (some p.digest16)])
     | .error e => e.code < 256 → Does .patchCheckComplete s (State.refused { s with ldr := s.ldr.emptyPatch } true e.code e.off)
        [(Ev.buildRefused, 0xFF, e.code)]
        [s.entry 0 0x05 1 e.code 0xFF
          (patchData12 (parseHeader s.ldr.patchBytes).patchSeq (parseHeader s.ldr.patchBytes).target)
          (some (first16 (Config.sha384 s.ldr.patchBytes)))]) ∧
    (∀ (p : Patch) (b : Build), s.ldr.accepted = some p → s.bld.build = some b →
      (s.patchBreak b p = none → Gives .patchApply s fun t =>
        t.ldr = s.ldr.emptyPatch ∧ t.bld.patchSeq = p.seq ∧ t.bld.lastCode = 0 ∧ t.bld.lastKind = true ∧
        t.bld.store = s.bld.store ∧ t.dev = s.dev ∧ t.fuse = s.fuse ∧ t.keeper = s.keeper ∧ t.dies = s.dies ∧
        (∀ n old new, touches p.recs n = true → b.chans[n] = some old → patched b p.recs n = some new →
          (t.bld.build.bind fun x => x.chans[n]) = some new) ∧
        (∀ n, touches p.recs n = false → t.ch n = s.ch n ∧ (t.bld.build.bind fun x => x.chans[n]) = b.chans[n]) ∧
        (∀ n, (t.ch n).st = (s.ch n).st ∧ (t.ch n).loop = (s.ch n).loop ∧ (t.ch n).stage = (s.ch n).stage) ∧
        Raises s t [Ev.patchAccepted] [Ev.identificationResult, Ev.diagnosticClass] ∧
        JournalsLast s t (s.entry 0 0x05 0 0 0xFF (patchData12 p.seq p.target16) (some p.digest16))) ∧
      (∀ r, s.patchBreak b p = some r → Does .patchApply s
        (State.refused { s with ldr := s.ldr.emptyPatch } true codePatchField (BitVec.ofNat 32 r.off))
        [(Ev.buildRefused, 0xFF, codePatchField)]
        [s.entry 0 0x05 1 codePatchField 0xFF (patchData12 p.seq p.target16) (some p.digest16)])) ∧
    (∀ (p : Patch) (mine took : Nat) (d : BitVec 128) (theirs : BitVec 32),
      s.ldr.heldPatch = some (p, mine, took) → s.ldr.heldApply = none →
      (s.swp.heldMsg = some (d, theirs) → p.matchDigest = d → Does .heldPatchMatch s
        { s with ldr := { s.ldr with heldApply := some (laterTick mine theirs) } } [] []) ∧
      (took + 1920000 ≤ s.now → Does .heldPatchTimeout s (State.refused { s with ldr := s.ldr.emptyPatch } true codePatchField noOffset)
        [(Ev.buildRefused, 0xFF, codePatchField)]
        [s.entry 0 0x05 1 codePatchField 0xFF (patchData12 p.seq p.target16) (some p.digest16)]) ∧
      (s.now < took + 1920000 → exec .heldPatchTimeout s = .next s))

/-! ## The filter graph -/

/-- A bank request on a channel that no twin shares (R92, R95): the other bank starts its pre-roll with its own states cleared; the active
bank is answered at once; during a transition the request is latched, replacing a latched one; without FADE_EN
or a use of the channel, or with both bits written, it is refused; the entry of the last names bank B, by the model's
choice.
Model's choices behind some of its clauses: assumption 86. -/
def Obligations.BankRequestsFollowTheTable : Prop :=
  ∀ (s : State) (m : Master) (n : Chan) (c : Instr) (bank : Bool), mayWrite m = true →
    ((c = .reqA m n ∧ bank = false) ∨ (c = .reqB m n ∧ bank = true)) →
    let k := s.ch n
    (s.joinedTwin n = false → ∀ g : ChanCfg, s.cfg n = some g → g.dfn.fadeEn = true → k.fg.phase = .idle →
      (k.fgk.active ≠ bank → Gives c s fun t =>
        OnlyChan s t n ∧ Raises s t [] [] ∧ t.jrn = s.jrn.pushes [s.entry m.num 0x06 0 0 n.val (fgData bank k.fgk)] ∧
        t.ch n = { k with fg := (t.ch n).fg } ∧ (t.ch n).fg.phase = .preroll ∧ (t.ch n).fg.pos = 0 ∧
        (t.ch n).fg.len = k.fgk.settle.toNat ∧ (t.ch n).fg.incoming = bank ∧
        (t.ch n).fg.secA = (if bank then k.fg.secA else []) ∧ (t.ch n).fg.secB = (if bank then [] else k.fg.secB)) ∧
      (k.fgk.active = bank → Does c s s [] [s.entry m.num 0x06 5 0 n.val (fgData bank k.fgk)])) ∧
    (s.joinedTwin n = false → ∀ g : ChanCfg, s.cfg n = some g → g.dfn.fadeEn = true → k.fg.phase ≠ .idle →
      let u := s.modCh n fun k => { k with fgk := { k.fgk with latched := some bank } }
      (k.fgk.latched = none → Does c s u [] [s.entry m.num 0x06 3 0 n.val (fgData bank (u.ch n).fgk)]) ∧
      (k.fgk.latched ≠ none → Does c s u [(Ev.bankRequestReplaced, n.val, 0)]
        [s.entry m.num 0x06 4 0 n.val (fgData bank (u.ch n).fgk)])) ∧
    Does (.registerWrite m (BitVec.ofNat 32 (0x30001040 + 256 * n.val)) [3]) s s [(Ev.bankRequestRefused, n.val, 0)]
      [s.entry m.num 0x06 1 0 n.val (fgData true k.fgk)] ∧
    (s.joinedTwin n = false → (∀ g, s.cfg n = some g → g.dfn.fadeEn = false) →
      Does c s s [(Ev.bankRequestRefused, n.val, 0)] [s.entry m.num 0x06 1 0 n.val (fgData bank k.fgk)])

/-- The phases of the graph (R93, R95, R99): the pre-roll hands over to a fade of FADE_LEN, the fade makes the
incoming bank active and reports it, the settle hands over to a fade-in of 64 ticks, which ends in idle.
Model's choices behind some of its clauses: assumptions 15, 28 and 80. -/
def Obligations.GraphPhasesFollowOneAnother : Prop :=
  ∀ (s : State) (n : Chan),
    let k := s.ch n
    (k.fg.phase = .preroll → k.fg.len ≤ k.fg.pos → Does (.prerollEnd n) s
      (s.modCh n fun k => { k with fg := { k.fg with phase := .fade, pos := 0, len := k.fgk.fadeLen.toNat } }) [] []) ∧
    (k.fg.phase = .fade → k.fg.len ≤ k.fg.pos → k.fgk.latched = none → Does (.fadeEnd n) s
      (s.modCh n fun k => { k with
        fgk := { k.fgk with active := k.fg.incoming }, fg := { k.fg with phase := .idle, pos := 0, len := 0 } })
      [(Ev.bankSwapComplete, n.val, 0)]
      [s.entry 0x10 0x06 0 0 n.val (fgData k.fg.incoming { k.fgk with active := k.fg.incoming })]) ∧
    (∀ b g, k.fg.phase = .fade → k.fg.len ≤ k.fg.pos → k.fgk.latched = some b → s.cfg n = some g → Gives (.fadeEnd n) s fun t =>
      OnlyChan s t n ∧ Journals s t ∧ Raises s t [Ev.bankSwapComplete] [] ∧ (t.ch n).fgk.latched = none ∧
      (t.ch n).fgk.active = k.fg.incoming ∧
      (t.ch n).fg.phase = (if k.fg.incoming = b then FgPhase.idle else .preroll) ∧
      (k.fg.incoming ≠ b → (t.ch n).fg.incoming = b)) ∧
    (k.fg.phase = .settle → k.fg.waitStart = false → k.fg.len ≤ k.fg.pos → Does (.settleEnd n) s
      (s.modCh n fun k => { k with fg := { k.fg with phase := .fadeIn, pos := 0, len := 64 } }) [] []) ∧
    (k.fg.phase = .fadeIn → 64 ≤ k.fg.pos → k.fgk.latched = none → Does (.graphFadeInEnd n) s
      (s.modCh n fun k => { k with fg := { k.fg with phase := .idle, pos := 0, len := 0 } }) [] [])

/-- A synchronising reset clears the stream buffers, the resamplers and the graph states, restarts the tracker in
acquisition, puts LAG in force and settles every channel (R97 to R99), on a running device whose twin is not joined; while a wider
reset is in progress, one that holds the core die or a channel reset, it does nothing and is not journalled (R333).
Acquisition ends after 4,096 ticks (R77). FADE_LEN and LAG take a value of their range and refuse another
(R102, R103); FADE_LEN of a channel that no build uses takes no write (R418).
Model's choices behind some of its clauses: assumptions 24 and 86. -/
def Obligations.SynchronisingResetAndSettings : Prop :=
  ∀ (s : State) (m : Master), (mayWrite m = true ∨ m = .m3) →
    let wider := s.dev.held ≠ .running ∨ ∃ n, (s.ch n).loop.resetPending = true
    (s.swp.joined = false → ¬ wider → Gives (.syncReset m) s fun t =>
      t.stm = { Streams.reset with wide := true, ratio := nominalRatio t.mtb.rate.toNat, newest := s.stm.newest } ∧
      t.mtb = { s.mtb with rate := t.mtb.rate, lagNow := s.mtb.lag } ∧
      (∀ p, s.link.active = some p → t.mtb.rate = (s.port p).rate) ∧ (s.link.active = none → t.mtb.rate = s.mtb.rate) ∧
      (∀ n, (t.ch n).fg.phase = .settle ∧ (t.ch n).fg.waitStart = true ∧ (t.ch n).fg.secA = [] ∧ (t.ch n).fg.secB = [] ∧
        (t.ch n).fg.firA = [] ∧ (t.ch n).fg.firB = [] ∧
        (t.ch n).fgk.active = (if (s.ch n).fg.phase = .preroll ∨ (s.ch n).fg.phase = .fade then (s.ch n).fg.incoming
          else (s.ch n).fgk.active) ∧
        t.ch n = { s.ch n with fg := (t.ch n).fg, fgk := { (s.ch n).fgk with active := (t.ch n).fgk.active } }) ∧
      Raises s t [Ev.synchronisingReset] [] ∧
      t.jrn = s.jrn.pushes [s.writeEntry m 0x0C 0x20 [((s.mtb.lag.setWidth 8 : Byte) <<< 1) ||| 1] 0 0,
        s.entry m.num 0x07 0 0 0xFF [0]] ∧
      t.silent = { s.silent with
        stm := t.stm, mtb := t.mtb, chans := t.chans, link := { s.link with arrOffset := 0 } }) ∧
    (s.stm.wide = true → 4096 ≤ s.stm.acqTicks → Does .trackerAcquisitionEnd s
      { s with stm := { s.stm with wide := false, locked := true } } [] []) ∧
    (wider → exec (.syncReset m) s = .next s) ∧
    (∀ (n : Chan) (v : BitVec 16), mayWrite m = true → s.used n = true →
      (64 ≤ v.toNat % 16384 → v.toNat % 16384 ≤ 8192 → Does (.fadeLenWrite m n v) s
        (s.modCh n fun k => { k with fgk := { k.fgk with fadeLen := v.setWidth 14 } }) []
        [s.writeEntry m (0x10 + n.val) 0x42 (leBytes 2 v.toNat) 0 0]) ∧
      (v.toNat % 16384 < 64 ∨ 8192 < v.toNat % 16384 → Does (.fadeLenWrite m n v) s s
        [(Ev.fadeLengthRefused, n.val, 0)] [])) ∧
    (∀ (n : Chan) (v : BitVec 16), mayWrite m = true → s.used n = false → exec (.fadeLenWrite m n v) s = .next s) ∧
    (∀ v : BitVec 5,
      (1 ≤ v.toNat → v.toNat ≤ 16 → Does (.lagWrite m v) s { s with mtb := { s.mtb with lag := v } } []
        [s.writeEntry m 0x0C 0x20 [(v.setWidth 8 : Byte) <<< 1] 0 0]) ∧
      (v.toNat = 0 ∨ 16 < v.toNat → Does (.lagWrite m v) s s [(Ev.lagRefused, 0xFF, 0)] []))

/-! ## Channel commands and the channel's state machine -/

/-- Table 4-7, the accepted commands of a channel that no twin shares and on which no decision of the tick is due: each
moves the channel from a state of its row to the state that the table gives, journals first the write and last the
change (R123, Table 13-5), and touches no other channel. It does so at once, or, where class P work of the tick may still
decide on the channel, at the end of that tick, since that decision comes first (R127). CLEAR of a half that is out, or that
R244 bars, ends in OFF (R253).
PLAY while the fade of a QUIET still runs returns to the playing state that the QUIET left (Table 4-7).
Model's choices behind some of its clauses: assumptions 38, 59, 77 and 81. -/
def Obligations.ChannelCommandsMoveTheChannel : Prop :=
  (∀ (s : State) (m : Master) (n : Chan) (k : ChCmd) (new : ChState),
    mayWrite m = true → s.joinedTwin n = false → s.used n = true → s.settled n → (s.ch n).loop.heldCmds = [] →
    let c := s.ch n
    let armed := s.dev.state = .armed ∨ s.dev.state = .run
    ((k = .enable ∧ new = .rampUp ∧ c.st = .off ∧ armed ∧ s.dev.disarming = false ∧ s.twinEnable n = true) ∨
     (k = .play ∧ new = .closedLoop ∧ c.st = .quiet ∧ s.dev.state = .run ∧ s.dev.disarming = false ∧ s.mutedAt n = false ∧
       s.blockGone n = false ∧ s.mismatchBars n = false ∧ c.loop.fading ≠ .quiet ∧ s.law n ≠ 0 ∧ s.cond2 n = true ∧ 256 ≤ c.loop.okRun ∧
       c.ident.running = false) ∨
     (k = .play ∧ new = .openLoop ∧ c.st = .quiet ∧ s.dev.state = .run ∧ s.dev.disarming = false ∧ s.mutedAt n = false ∧
       s.blockGone n = false ∧ s.mismatchBars n = false ∧ c.loop.fading ≠ .quiet ∧
       (s.law n = 0 ∨ s.cond2 n = false ∨ c.loop.okRun < 256 ∨ c.ident.running = true)) ∨
     (k = .quiet ∧ new = .quiet ∧ c.st.playing = true) ∨
     (k = .open_ ∧ new = .openLoop ∧ c.st = .closedLoop) ∨
     (k = .close ∧ new = .closedLoop ∧ c.st = .openLoop ∧ s.law n ≠ 0 ∧ 256 ≤ c.loop.okRun ∧ s.cond6 n = true ∧
       c.ident.running = false ∧ c.loop.fading = .none) ∨
     (k = .stop ∧ new = .rampDown ∧ (c.st = .quiet ∨ c.st.playing = true ∨ c.st = .retry ∨
       (c.st = .rampUp ∧ c.loop.uvHold = false))) ∨
     (k = .stop ∧ new = .off ∧ c.st = .rampUp ∧ c.loop.uvHold = true) ∨
     (k = .clear ∧ new = .retry ∧ c.st = .tripped ∧ s.clearable n = true ∧ s.outHalf n = false ∧ armed) ∨
     (k = .clear ∧ new = .off ∧ c.st = .tripped ∧ s.clearable n = true ∧
       (s.outHalf n = true ∨ s.dev.state = .built))) →
    Gives (k.instr m n) s fun now =>
      let t := if s.undecided n then now.runHeld n else now
      (t.ch n).st = new ∧ OnlyChan s t n ∧ (t.ch n).lasting = c.lasting ∧
      Raises s t (if new = .closedLoop then [Ev.loopClosed] else []) [Ev.identificationResult] ∧
      JournalsFirst s t (s.writeEntry m (0x10 + n.val) 0x04 [1#8 <<< k.bit] 0 0) ∧
      JournalsLast s t (s.entry 0x10 0x03 0 0 n.val (chData c.st new (t.ch n))) ∧
      (k = .open_ → (t.ch n).loop.openCause = 1 ∧
        (c.loop.shaped = false → (t.ch n).loop.tC = c.loop.lastFb ∧ (t.ch n).loop.tLeft = 64)) ∧
      (k = .close → (t.ch n).loop.closing = true) ∧
      (k = .quiet → (t.ch n).loop.fading = .quiet ∧ (t.ch n).loop.quietFrom = c.st) ∧
      (k = .play → (t.ch n).loop.fading = .play) ∧
      (k = .play → new = .openLoop → (t.ch n).loop.openCause = 0) ∧
      (k = .stop → c.st.playing = true → (t.ch n).loop.fading = .stop) ∧
      (new = .off → (t.ch n).quietBridge) ∧
      (k = .clear → new = .off → (t.ch n).keep.tripCause = 0 ∧ (t.ch n).loop.dropTimes = []) ∧
      (k = .clear → new = .retry → (t.ch n).keep.tripCause = c.keep.tripCause ∧ (t.ch n).loop.dropTimes = [])) ∧
  (∀ (s : State) (m : Master) (n : Chan), mayWrite m = true → s.joinedTwin n = false → s.used n = true → s.settled n →
    (s.ch n).loop.heldCmds = [] → (s.ch n).st = .quiet → s.dev.state = .run → s.dev.disarming = false → s.mutedAt n = false → s.blockGone n = false →
    s.mismatchBars n = false → (s.ch n).loop.fading = .quiet → (s.ch n).loop.quietFrom.playing = true →
    Gives (.play m n) s fun t =>
      (t.ch n).st = (s.ch n).loop.quietFrom ∧ (t.ch n).loop.fading = .play ∧ (t.ch n).loop.phi = (s.ch n).loop.phi ∧
      (t.ch n).loop.integ = (s.ch n).loop.integ ∧ OnlyChan s t n ∧ (t.ch n).lasting = (s.ch n).lasting)

/-- What Table 4-7 accepts, state by state: a channel outside CH_MASK takes no command, OFF takes ENABLE alone,
TRIPPED takes CLEAR alone, RAMP_UP and RETRY take STOP alone, RAMP_DOWN takes none.
A command that Table 4-7 does not accept changes nothing: the event channel-command-refused names the channel
and the write is journalled as refused (R123, R345). One that waited for the decisions of its tick meets the state that they
leave, and is refused there likewise (R127).
A host command is judged after a patch that is due and the local decisions of the tick (R127): it acts as on the state
that they leave. Where class P work of the running tick may still decide on the channel, in CLOSED_LOOP, after three pace
faults or four open blocks, the command waits for the tick's end, behind those that wait already (assumption 81), and nothing
else changes; a command of a device transition waits likewise.
Model's choices behind some of its clauses: assumptions 59 and 81. -/
def Obligations.EachStateTakesItsOwnCommands : Prop :=
  (∀ (s : State) (n : Chan) (k : ChCmd) (new : ChState), s.judge n k = some new →
    s.used n = true ∧ (s.ch n).st ≠ .rampDown ∧
    ((s.ch n).st = .off → k = .enable ∧ new = .rampUp) ∧
    ((s.ch n).st = .tripped → k = .clear ∧ (new = .retry ∨ new = .off)) ∧
    ((s.ch n).st = .rampUp → k = .stop ∧ (new = .rampDown ∨ new = .off)) ∧
    ((s.ch n).st = .retry → k = .stop ∧ new = .rampDown) ∧
    ((s.ch n).st = .quiet → (k = .play ∨ k = .stop) ∧
      ((s.ch n).loop.quietFrom.playing = true → new.playing = true ∨ new = .rampDown)) ∧
    ((s.ch n).st = .openLoop → (k = .quiet ∧ new = .quiet) ∨ (k = .close ∧ new = .closedLoop) ∨ (k = .stop ∧ new = .rampDown)) ∧
    ((s.ch n).st = .closedLoop → (k = .quiet ∧ new = .quiet) ∨ (k = .open_ ∧ new = .openLoop) ∨ (k = .stop ∧ new = .rampDown))) ∧
  ((∀ (s : State) (m : Master) (n : Chan) (k : ChCmd), mayWrite m = true → s.settled n → s.follows n = false →
    s.judge n k = none → (s.undecided n = false ∨ s.used n = false) →
    Does (k.instr m n) s s [(Ev.channelCommandRefused, n.val, 0)]
      [s.writeEntry m (0x10 + n.val) 0x04 [1#8 <<< k.bit] 1 0]) ∧
  (∀ (s : State) (m : Master) (n : Chan) (bs : List Byte) (k : ChCmd),
    (s.ch n).loop.heldCmds = [{ host := some (m, bs), cmd := k }] →
    let u := s.modCh n fun c => { c with loop := { c.loop with heldCmds := [] } }
    u.settle n = u → u.follows n = false → u.judge n k = none →
      (s.runHeld n).silent = u.silent ∧ Raises s (s.runHeld n) [Ev.channelCommandRefused] [] ∧
      (s.runHeld n).jrn = s.jrn.pushes [s.writeEntry m (0x10 + n.val) 0x04 bs 1 0])) ∧
  ((∀ (s : State) (m : Master) (n : Chan) (k : ChCmd), mayWrite m = true →
    (s.duePatch.settle n).settled n → exec (k.instr m n) s = exec (k.instr m n) (s.duePatch.settle n)) ∧
  (∀ (s : State) (m : Master) (n : Chan) (k : ChCmd), mayWrite m = true → s.settled n → s.used n = true →
    s.follows n = false → s.undecided n = true → Does (k.instr m n) s
      (s.modCh n fun c => { c with loop := { c.loop with
        heldCmds := c.loop.heldCmds ++ [{ host := some (m, [1#8 <<< k.bit]), cmd := k }] } }) [] []) ∧
  (∀ (s : State) (n : Chan),
    (s.undecided n = true ↔ (s.ch n).st = .closedLoop ∨ ((s.ch n).st = .openLoop ∧ 3 ≤ (s.ch n).loop.paceFaultRun) ∨
      ((s.ch n).st.playing = true ∧ (s.ch n).prot.openActed = false ∧ 4 ≤ (s.ch n).prot.openRun ∧
        1919 ≤ (s.ch n).prot.blkCount) ∨ (s.ch n).loop.heldCmds ≠ []) ∧
    (s.used n = true → s.follows n = false → s.undecided n = true → ∀ h : HeldCmd,
      s.order n h = s.modCh n fun c => { c with loop := { c.loop with heldCmds := c.loop.heldCmds ++ [h] } })))

/-- On a joined twinned channel the lead half carries the move that it accepts to both halves, and a follow half
sends the command to the lead half; neither changes a channel's state; where a decision of the tick may still come, the lead half carries at the tick's end
(R127). CLEAR of a half that is out acts on
that half alone (R251, R253).
On a joined device a mute is carried to the twin, KIND 0x05, and the channels that no twin shares fade at once; on a
joined channel it neither holds nor ends before it applies on both halves (R251).
A bank request and a synchronising reset on joined channels are carried too, KIND 0x03 and 0x04 (R101): the lead
half journals its judgement and sends what both halves apply, whatever the outcome, a follow half sends the request, and
neither graph changes now.
Model's choices behind some of its clauses: assumptions 24, 48 and 86. -/
def Obligations.CommandsAndMutesAreCarried : Prop :=
  (∀ (s : State) (m : Master) (n : Chan) (k : ChCmd), mayWrite m = true → s.joinedTwin n = true → s.settled n →
    (s.ch n).loop.heldCmds = [] →
    let out := k = .clear ∧ (s.ch n).st = .tripped ∧ (s.ch n).twin.partnerHiz = false
    (∀ new, ¬ out → s.follows n = false → s.judge n k = some new → Gives (k.instr m n) s fun now =>
      let t := if s.undecided n then now.runHeld n else now
      t.swp = (s.sends (cmdEntry 0x01 new.code 0 0 (bitOf n))).swp ∧ (∀ j, (t.ch j).st = (s.ch j).st) ∧
      (∀ j, j ≠ n → t.ch j = s.ch j) ∧ Raises s t [] [] ∧
      t.jrn = s.jrn.pushes [s.writeEntry m (0x10 + n.val) 0x04 [1#8 <<< k.bit] 0 0]) ∧
    (¬ out → s.follows n = true → Does (k.instr m n) s (s.sends (cmdEntry 0x02 k.bit 1 0 (bitOf n))) []
      [s.writeEntry m (0x10 + n.val) 0x04 [1#8 <<< k.bit] 0 0]) ∧
    (out → s.used n = true → s.clearable n = true → Gives (k.instr m n) s fun t =>
      (t.ch n).st = .off ∧ (t.ch n).keep.tripCause = 0 ∧ t.swp = s.swp ∧ OnlyChan s t n ∧ Journals s t)) ∧
  (∀ s : State, s.dev.held = .running → s.pwr.vioOk = true → s.swp.joined = true →
    (s.dev.mutePin = false → s.dev.muteLow = (true, true) → Gives .muteAssert s fun t =>
      t.swp = (s.sends (cmdEntry 0x05 1 0 0 0)).swp ∧ t.dev.mutePin = true ∧ t.flx.injOn = false ∧
      (∀ n, s.joinedTwin n = true → t.ch n = s.ch n ∧ t.mutedAt n = s.mutedAt n) ∧
      (∀ n, s.joinedTwin n = false → (s.ch n).st.playing = true → (t.ch n).loop.fading = .mute)) ∧
    (s.dev.mutePin = true → s.dev.muteLow = (false, false) → s.pwr.vioMute = false → s.dev.muteResume = false →
      (∀ n, (s.ch n).loop.fading ≠ .mute) → (∀ n, (s.ch n).st ≠ .retry) → Gives .muteRelease s fun t =>
      t.swp = (s.sends (cmdEntry 0x05 0 0 0 0)).swp ∧ t.dev.mutePin = false ∧
      (∀ n, s.joinedTwin n = true → t.mutedAt n = s.mutedAt n))) ∧
  (∀ (s : State) (m : Master) (n : Chan) (c : Instr) (bank : Bool),
    ((c = .reqA m n ∧ bank = false) ∨ (c = .reqB m n ∧ bank = true)) →
    let k := s.ch n
    (mayWrite m = true → s.joinedTwin n = true → s.follows n = false → ∀ g : ChanCfg, s.cfg n = some g →
      g.dfn.fadeEn = true → k.fg.phase = .idle → Does c s (s.sends (cmdEntry 0x03 bank.toNat 0 0 (bitOf n))) []
        [s.entry m.num 0x06 (if k.fgk.active = bank then 5 else 0) 0 n.val (fgData bank k.fgk)]) ∧
    (mayWrite m = true → s.follows n = true → Does c s (s.sends (cmdEntry 0x03 bank.toNat 1 0 (bitOf n))) [] []) ∧
    ((mayWrite m = true ∨ m = .m3) → s.swp.joined = true → s.widerReset = false → Does (.syncReset m) s (s.sends (cmdEntry 0x04 0 0 0 0)) []
      [s.writeEntry m 0x0C 0x20 [((s.mtb.lag.setWidth 8 : Byte) <<< 1) ||| 1] 0 0]))

/-- The end of a ramp (R168, R176, Table 4-7): a raised channel that no shutdown holds enters QUIET, one in RETRY
begins its check, one that ramped down enters OFF; a raise without a feedback failure clears FB_FAULT.
Model's choices behind some of its clauses: assumption 42. -/
def Obligations.RampsEndInTheirState : Prop :=
  ∀ (s : State) (n : Chan), (s.ch n).stage.rampDone = true →
    ((s.ch n).st = .rampUp → (s.ch n).loop.uvResume = false → s.joinedTwin n = false → (s.ch n).loop.runPlay = false →
      Gives (.rampComplete n) s fun t =>
        (t.ch n).st = .quiet ∧ (t.ch n).loop.phi = 0 ∧ (t.ch n).loop.fading = .none ∧ (t.ch n).stage.rampDone = false ∧
        (t.ch n).keep = { (s.ch n).keep with fbFault := (s.ch n).keep.fbFault && (s.ch n).stage.fbBad,
                                             result := (t.ch n).keep.result } ∧
        OnlyChan s t n ∧ Journals s t ∧ Raises s t [] [Ev.identificationResult]) ∧
    ((s.ch n).st = .rampUp → (s.ch n).loop.uvResume = true → s.joinedTwin n = false → (s.ch n).loop.resume = .quiet →
      (s.ch n).loop.runPlay = false → Gives (.rampComplete n) s fun t =>
        (t.ch n).st = .quiet ∧ (t.ch n).loop.uvResume = false ∧ (t.ch n).loop.uvHold = false ∧ OnlyChan s t n ∧ Journals s t) ∧
    ((s.ch n).st = .rampUp → (s.ch n).loop.uvResume = false → s.joinedTwin n = true → s.follows n = false →
      Gives (.rampComplete n) s fun t =>
        t.swp = (s.sends (cmdEntry 0x01 ChState.quiet.code 0 0 (bitOf n))).swp ∧ (t.ch n).st = .rampUp ∧
        OnlyChan { s with swp := t.swp } t n ∧ Journals s t) ∧
    ((s.ch n).st = .retry → s.mutedAt n = false → s.follows n = false → s.sweepCheck n = false →
      (s.ch n).prot.check = none → (s.ch n).ident.running = false → (s.ch n).ident.fitPending = false →
      Gives (.rampComplete n) s fun t =>
        (t.ch n).st = .retry ∧ (t.ch n).loop.ramped = true ∧ (t.ch n).prot.check = some 0 ∧ OnlyChan s t n ∧
        Journals s t ∧ Raises s t [] []) ∧
    ((s.ch n).st = .rampDown → (s.ch n).loop.resetPending = false → Gives (.rampComplete n) s fun t =>
      (t.ch n).st = .off ∧ (t.ch n).quietBridge ∧ OnlyChan s t n ∧ (t.ch n).lasting = (s.ch n).lasting ∧
      Journals s t ∧ Raises s t [] [Ev.identificationResult])

/-- The loop's own decisions (R115 to R122, R24) on a channel that no twin shares: it recloses when every
condition of R117 holds; the following error and suspect sense drop it to OPEN_LOOP with their cause and a
transfer of 64 ticks, or trip it with cause DROPS when four drops fall within 60 s; a following error is the drop of its own tick, with cause 3 where the sense of that tick was suspect, also when the sense
turns suspect in the next one (R122); a following error that a more
restrictive decision overtook is reported all the same, and so is DROPS in the tick of another trip (R31, R216); a
spell of suspect sense that was reported before it met CLOSED_LOOP drops it without a second event (R120); four pace faults in OPEN_LOOP trip it with cause
PACE.
The drops of R122: a fourth drop within 11,520,000 ticks of the third last one meets the condition.
Model's choices behind some of its clauses: assumptions 15, 21 and 38. -/
def Obligations.LoopOpensAndCloses : Prop :=
  (∀ (s : State) (n : Chan) (c : ChanCfg), s.cfg n = some c → s.joinedTwin n = false →
    let k := s.ch n
    (k.st = .openLoop → c.dfn.law ≠ 0 → c.lawP 0x0016 = 1 → k.keep.holdOpen = false → k.loop.openCause ≠ 1 →
      (∀ t, k.loop.lastDrop = some t → (t : Rat) + c.lawP 0x0015 * fT ≤ (s.now : Rat)) → 256 ≤ k.loop.okRun →
      (k.loop.openCause = 4 → ∀ t, k.loop.lastPaceMiss = some t → t + 1024 ≤ s.now) →
      k.ident.running = false → k.loop.fading = .none → k.ident.fitPending = false →
      Gives (.autoReclose n) s fun t =>
        (t.ch n).st = .closedLoop ∧ (t.ch n).loop.closing = true ∧ OnlyChan s t n ∧ (t.ch n).lasting = k.lasting ∧
        Raises s t [Ev.loopClosed] [] ∧ Tells t (Ev.loopClosed, n.val, 0) ∧
        t.jrn = s.jrn.pushes [s.entry 0x10 0x03 0 0 n.val (chData .openLoop .closedLoop (t.ch n))]) ∧
    (∀ (i : Instr) (ev cause at_ : Nat), k.st = .closedLoop → k.loop.dropSent = false →
      ((i = .followingErrorDrop n ∧ ev = Ev.followingError ∧ cause = (if k.loop.feSuspect then 3 else 2) ∧
         k.loop.feDue = true ∧ at_ = s.now - 1) ∨
       (i = .lostFeedback n ∧ ev = Ev.lostFeedback ∧ cause = 3 ∧ k.loop.feDue = false ∧ k.loop.suspect = true ∧ k.loop.lfReported = false ∧
         k.ident.running = false ∧ at_ = s.now)) →
      (k.dropsMet at_ = false → Gives i s fun t =>
        (t.ch n).st = .openLoop ∧ (t.ch n).loop.openCause = BitVec.ofNat 3 cause ∧
        (k.loop.shaped = false → (t.ch n).loop.tLeft = 64 ∧ (t.ch n).loop.tC = k.loop.lastFb) ∧
        (t.ch n).loop.lastDrop = some at_ ∧
        (t.ch n).loop.dropTotal = min (k.loop.dropTotal + 1) 0xFFFF ∧ OnlyChan s t n ∧
        (t.ch n).lasting = k.lasting ∧ Raises s t [ev] [] ∧
        t.jrn = s.jrn.pushes [s.entry 0x10 0x03 0 cause n.val (chData .closedLoop .openLoop (t.ch n))]) ∧
      (k.dropsMet at_ = true → Gives i s fun t =>
        Tripped s t n causeDrops ∧ OnlyChan s t n ∧ Raises s t [ev, Ev.channelTrip] [Ev.identificationResult])) ∧
    (k.st = .closedLoop → k.loop.dropSent = false → k.loop.feDue = true → k.loop.suspect = true →
      k.loop.lfReported = false → k.ident.running = false → k.dropsMet (s.now - 1) = false →
      Gives (.lostFeedback n) s fun t =>
        (t.ch n).st = .openLoop ∧ (t.ch n).loop.openCause = (if k.loop.feSuspect then 3 else 2) ∧
        (t.ch n).loop.lastDrop = some (s.now - 1) ∧ OnlyChan s t n ∧ (t.ch n).lasting = k.lasting ∧
        Raises s t [Ev.followingError, Ev.lostFeedback] [] ∧ Journals s t) ∧
    (k.st = .closedLoop → k.loop.dropSent = false → k.loop.feDue = false → k.loop.suspect = true → k.loop.lfReported = true →
      k.dropsMet s.now = false → Gives (.lostFeedback n) s fun t =>
        (t.ch n).st = .openLoop ∧ (t.ch n).loop.openCause = 3 ∧ OnlyChan s t n ∧ (t.ch n).lasting = k.lasting ∧
        Raises s t [] [] ∧
        t.jrn = s.jrn.pushes [s.entry 0x10 0x03 0 3 n.val (chData .closedLoop .openLoop (t.ch n))]) ∧
    (k.loop.feDue = true → k.st ≠ .closedLoop →
      let late := k.st = .tripped ∧ k.keep.tripAt = s.now ∧ k.keep.tripFrom = .closedLoop ∧ k.dropsMet (s.now - 1) = true
      (¬ late → Does (.followingErrorDrop n) s
        (s.modCh n fun k => { k with loop := { k.loop with feDue := false } }) [(Ev.followingError, n.val, 0)] []) ∧
      (late → k.keep.tripCause.toNat ≠ causeDrops → Gives (.followingErrorDrop n) s fun t =>
        (t.ch n).st = .tripped ∧ OnlyChan s t n ∧ Raises s t [Ev.followingError, Ev.channelTrip] [] ∧
        Tells t (Ev.channelTrip, n.val, causeDrops) ∧ Journals s t)) ∧
    (k.loop.feDue = false → exec (.followingErrorDrop n) s = .next s) ∧
    (4 ≤ k.loop.paceFaultRun → k.st = .openLoop → Gives (.paceTrip n) s fun t =>
      Tripped s t n causePace ∧ (t.ch n).keep.wasPlaying = true ∧ OnlyChan s t n ∧
      Raises s t [Ev.channelTrip] [Ev.identificationResult] ∧ Journals s t)) ∧
  (∀ (k : Channel) (now : Nat),
    (k.dropsMet now = true ↔ ∃ t, k.loop.dropTimes[2]? = some t ∧ now ≤ t + 11520000) ∧
    (∀ cause, (k.recordDrop now cause).loop.dropTimes.length ≤ 4 ∧
      (k.recordDrop now cause).loop.dropTimes.head? = some now))

/-- The fades of R126 and the transfer term end (R115, R116): a fade-in at full gain and a fade-out at 0 end, a
fade to QUIET also clears the integrator, and a transfer whose 64 ticks are over holds 0.
Model's choices behind some of its clauses: assumptions 9 and 38. -/
def Obligations.FadesAndTransfersEnd : Prop :=
  ∀ (s : State) (n : Chan),
    ((s.ch n).loop.tLeft = 0 → Does (.transferEnd n) s (s.modCh n fun k => { k with loop := { k.loop with tC := 0 } }) [] []) ∧
    ((s.ch n).loop.fading = .play → (s.ch n).loop.phi = 98304 → Does (.channelFadeEnd n) s
      (s.modCh n fun k => { k with loop := { k.loop with fading := .none } }) [] []) ∧
    ((s.ch n).loop.fading = .stop → (s.ch n).loop.phi = 0 → Does (.channelFadeEnd n) s
      (s.modCh n fun k => { k with loop := { k.loop with fading := .none } }) [] []) ∧
    ((s.ch n).loop.fading = .quiet → (s.ch n).loop.phi = 0 → Does (.channelFadeEnd n) s
      (s.modCh n fun k => { k with loop := { k.loop with
        fading := .none, integ := 0, intSat := false, closing := false } }) [] [])

/-! ## Identification, mains, learner -/

/-- Identification (R150 to R156): a START or the start of a build's own sweep begins it, an event names it; START
elsewhere is refused; ABORT ends it with result ABORTED; the last sample of the sweep releases the fitter; the result of
a completed fit waits for the next tick boundary, which loads its values and its code (R21, R155); no other binary32 values of positive sign have a lesser weighted sum of
squared errors than the fitted ones, whose RESID is theirs (R153). START_ALL starts
every channel that qualifies with one entry.
A fit passes only with RESID within its limit, every fitted value within its window and a stable loop, and its
code names the first condition of R154 that fails: 2, 3, 4, or 1 for a pass.
Model's choices behind some of its clauses: assumptions 8, 15 and 39. -/
def Obligations.IdentificationRuns : Prop :=
  (∀ (s : State) (m : Master) (n : Chan), mayWrite m = true → s.joinedTwin n = false → s.flx.injOn = false →
    let k := s.ch n
    (s.identOk n = true ↔ (s.law n = 1 ∨ s.law n = 2) ∧ k.st = .quiet ∧ k.ident.running = false ∧
      k.ident.fitPending = false ∧ s.mutedAt n = false ∧ (s.dev.state = .armed ∨ s.dev.state = .run)) ∧
    (s.identOk n = true → Does (.identStart m n) s
      (s.modCh n fun k => { k with
        ident := { ChIdent.reset with running := true }, keep := { k.keep with idAtStartDone := true } })
      [(Ev.identificationStart, n.val, 0)] [s.entry m.num 0x0E 0 0 n.val [] (some 0)]) ∧
    (s.identOk n = false → Does (.identStart m n) s s [(Ev.identificationRefused, n.val, 0)]
      [s.entry m.num 0x0E 1 0 n.val [] (some 0)]) ∧
    (s.identDue n = true → k.st = .quiet → s.mutedAt n = false → k.ident.running = false → k.ident.fitPending = false →
      Does (.identAtStart n) s
        (s.modCh n fun k => { k with
          ident := { ChIdent.reset with running := true }, keep := { k.keep with idAtStartDone := true } })
        [(Ev.identificationStart, n.val, 0)] [s.entry 0x10 0x0E 0 0 n.val [] (some 0)]) ∧
    ((∀ j, s.joinedTwin j = false) → Gives (.startAll m) s fun t =>
      (∀ j, s.used j = true → s.identOk j = true → (t.ch j).ident = { ChIdent.reset with running := true } ∧
        t.ch j = { s.ch j with ident := (t.ch j).ident, keep := { (s.ch j).keep with idAtStartDone := true } }) ∧
      (∀ j, (s.used j && s.identOk j) = false → t.ch j = s.ch j) ∧ t.beyond = s.beyond ∧
      Raises s t [] [Ev.identificationStart] ∧
      t.jrn = s.jrn.pushes [s.entry m.num 0x0E 0 0 0xFF
        ([0, 0, 0, 0, 0, 0, 0, 0] ++ leBytes 8 (maskOf fun j => s.used j && s.identOk j).toNat) (some 0)]) ∧
    (k.ident.running = true ∨ k.ident.fitPending = true → k.st ≠ .retry → k.loop.runPlay = false →
      Does (.identAbort m n) s
        (s.modCh n fun k => { k with
          ident := .reset, cls := { k.cls with ident := .reset }, keep := { k.keep with result := 5 } })
        [(Ev.identificationResult, n.val, 5)]
        [s.writeEntry m (0x10 + n.val) 0x60 [0x02] 0 0, s.entry 0x10 0x0E 0 5 n.val [5] (some 0)]) ∧
    (k.ident.running = true → 288000 ≤ k.ident.t → Does (.sweepEnd n) s
      (s.modCh n fun k => { k with
        ident := { k.ident with running := false, fitPending := true }
        cls := { k.cls with ident := { k.cls.ident with run := some (s.now, s.now + 192000) } } }) [] []) ∧
    (∀ c : ChanCfg, s.cfg n = some c → k.ident.fitPending = true → s.served (.ident n) = true →
      let f := c.fit k.ident.samples
      (∀ g : FitIn, g ≠ f → exec (.identFitComplete n g) s = .next s) ∧
      Does (.identFitComplete n f) s
        { (s.modCh n fun k => { k with
            cls := { k.cls with ident := { k.cls.ident with run := none } }
            keep := { k.keep with fit := { k.keep.fit with resid := f.resid } } }) with
          swp := { s.swp with
            fitQ := s.swp.fitQ ++ [(BitVec.ofNat 32 (s.dev.tick + 1), fitMsg n (fitCode c f) f)] } } [] []) ∧
    (∀ (c : ChanCfg) (f : FitIn), s.cfg n = some c → k.ident.fitPending = true → k.st ≠ .retry →
      k.loop.runPlay = false → k.keep.fit.resid = f.resid →
      s.swp.fitQ = [(BitVec.ofNat 32 s.dev.tick, fitMsg n (fitCode c f) f)] →
      let t := s.applyFits
      t.swp = { s.swp with fitQ := [] } ∧
      (t.ch n).keep.fit = f ∧ (t.ch n).keep.result = BitVec.ofNat 4 (fitCode c f) ∧
      (t.ch n).ident = .reset ∧ (t.ch n).cls.ident.run = none ∧ (∀ j, j ≠ n → t.ch j = s.ch j) ∧
      (fitCode c f = 1 → t.cfg n = some (c.fitted f) ∧ (t.ch n).keep.fits = satInc k.keep.fits ∧
        (t.ch n).model.reT = f32 f.re ∧
        ∀ tb, (c.fitted f).table = some tb → t.bld.store = tableToStore s.bld.store n tb) ∧
      (fitCode c f ≠ 1 → t.cfg n = some c ∧ t.bld = s.bld ∧ (t.ch n).keep.fits = k.keep.fits ∧ (t.ch n).model = k.model) ∧
      (t.ch n).st = k.st ∧ (t.ch n).loop = k.loop ∧ (t.ch n).stage = k.stage ∧ t.dev = s.dev ∧ t.dies = s.dies ∧
      Raises s t [Ev.identificationResult] [] ∧ Tells t (Ev.identificationResult, n.val, fitCode c f) ∧ Journals s t) ∧
    (∀ (c : ChanCfg) (l : List (Rat × Rat)) (j : Nat) (v : Rat × Rat × Rat × Rat × Rat), j < 2 ^ 160 → fitPoint j = some v →
      let f := c.fit l
      let w := (f32 f.re, f32 f.le, f32 f.bl, f32 f.kms, f32 f.rms)
      (∃ b, fitPoint b = some w) ∧ f.resid = toF32 (fitResid (c.fitPlant w) (measured c l)) ∧
        fitCost (c.fitPlant w) (measured c l) ≤ fitCost (c.fitPlant v) (measured c l))) ∧
  (∀ (c : ChanCfg) (f : FitIn),
    (fitCode c f = 1 ↔ finite f.resid = true ∧ f32 f.resid ≤ c.lawP 0x0123 ∧ fitWindows c f = true ∧
      (c.fitted f).stable = true) ∧
    (fitCode c f = 2 ↔ ¬ (finite f.resid = true ∧ f32 f.resid ≤ c.lawP 0x0123)) ∧
    (fitCode c f = 3 ↔ finite f.resid = true ∧ f32 f.resid ≤ c.lawP 0x0123 ∧ fitWindows c f = false) ∧
    (fitCode c f = 4 ↔ finite f.resid = true ∧ f32 f.resid ≤ c.lawP 0x0123 ∧ fitWindows c f = true ∧
      (c.fitted f).stable = false))

/-- The mains (R145, R146): the source changes to the one whose periods are valid and to no other; the change is
counted, fades REP over 64 ticks at the old period, or lets a running fade go on, and starts learning afresh.
At the end of that fade every learner's table and its count of updates are cleared (R146).
The learner (R148, R149): a clean period updates the table through leak, gain, smoothing and clamp; a tainted or
frozen one is discarded; CLEAR empties the table.
Model's choices behind some of its clauses: assumptions 15, 40 and 41. -/
def Obligations.MainsSourceAndLearner : Prop :=
  ∀ s : State,
    (∀ src : MainsSrc, src ≠ s.mtb.mainsSrc → src = s.mtb.sourceNow → Does (.mainsSourceChange src) s
      { s with mtb := { s.mtb with
          mainsSrc := src, mainsChanges := satInc s.mtb.mainsChanges, mainsPeriod := s.mtb.periodOf src,
          repFade := if 0 < s.mtb.repFade then s.mtb.repFade else 64,
          repPeriod := if 0 < s.mtb.repFade then s.mtb.repPeriod else s.mtb.mainsPeriod.toNat, mainsFresh := true } }
      [(Ev.mainsSource, 0xFF, 0)] [s.entry 0x16 0x0B 0 0 0xFF (s.supplyData 0)]) ∧
    (∀ x : TickIn, x.wf = true → s.dev.held = .running → ((s.twp.flight = none ∧ s.twp.readDue = none) ∨ x.m4Held = true) → s.mtb.repFade = 1 →
      Gives (.tickBoundary x) s fun t => t.mtb.repFade = 0 ∧
        ∀ n, (t.ch n).learn.table = [] ∧ (t.ch n).learn.updates = 0 ∧ (t.ch n).learn.ready = none ∧
          (t.ch n).issue.table = []) ∧
    (∀ src : MainsSrc, (src = s.mtb.mainsSrc ∨ src ≠ s.mtb.sourceNow) → exec (.mainsSourceChange src) s = .next s) ∧
    (∀ (n : Chan) (c : ChanCfg) (sums : List Rat) (counts : List Nat) (tainted : Bool),
      s.cfg n = some c → s.served (.ripple n) = true → (s.ch n).learn.ready = some (sums, counts, tainted) →
      c.dfn.law ≠ 0 → s.follows n = false →
      let done := { (s.ch n).cls with ripple := { (s.ch n).cls.ripple with run := none } }
      ((tainted = true ∨ (s.ch n).keep.freeze = true ∨ c.lawP 0x0130 = 0) → Does (.rippleLearnerUpdate n) s
        (s.modCh n fun k => { k with cls := done, learn := { k.learn with ready := none, lastDiscarded := true } })
        [] []) ∧
      (tainted = false → (s.ch n).keep.freeze = false → c.lawP 0x0130 ≠ 0 →
        let r := learnTable c (s.ch n).learn.table (binMean sums counts) ((s.mtb.mainsPeriod.toNat : Rat) / 128)
        Gives (.rippleLearnerUpdate n) s fun t =>
          t.ch n = { s.ch n with
            cls := done
            learn := { (s.ch n).learn with
              ready := none, table := r.1, clamped := (s.ch n).learn.clamped || r.2, lastDiscarded := false,
              updates := min ((s.ch n).learn.updates + 1) 0x3FFF } } ∧
          (0 ≤ c.lawP 0x0133 → ∀ x ∈ (t.ch n).learn.table, -c.lawP 0x0133 ≤ x ∧ x ≤ c.lawP 0x0133) ∧
          (∀ j, j ≠ n → t.ch j = s.ch j) ∧ t.silent = { s.silent with chans := t.chans, coef := t.coef } ∧
          Raises s t (if r.2 then [Ev.learnerClamp] else []) [] ∧ t.jrn = s.jrn)) ∧
    (∀ (m : Master) (n : Chan), mayWrite m = true → Gives (.rlClear m n) s fun t =>
      t.ch n = { s.ch n with learn := { (s.ch n).learn with table := [], updates := 0 } } ∧
      (∀ j, j ≠ n → t.ch j = s.ch j) ∧ t.silent = { s.silent with chans := t.chans, coef := t.coef } ∧
      Raises s t [] [] ∧ t.jrn = s.jrn.pushes [s.writeEntry m (0x10 + n.val) 0x7C
        [if (s.ch n).keep.freeze then 3 else 2] 0 0])

/-! ## The power stage and protection -/

/-- Stage reports and settings (R167, R168, R173, R179 to R182): a difference above a quarter of V_P in each of the
last 64 modulation cycles latches FB_FAULT and reports it once; a current that reaches I_LIM turns the opposite
switch on, of each half-bridge that reaches it, counts one act for all that it ends in one modulation cycle, and is reported after 192 ticks without one; INJ_EN and the ramp length are written, a
length outside 5 to 80 ms refused.
Model's choices behind some of its clauses: assumption 42. -/
def Obligations.StageReportsAndSettings : Prop :=
  ∀ s : State,
    (∀ (n : Chan) (cycles : List (BitVec 16 × BitVec 16)), (s.ch n).stage.modRun = true → cycles.length = 64 →
      ((∀ d ∈ cycles, (s.die n.die).pvdd.toNat < 4 * d.1.toNat) ∨ (∀ d ∈ cycles, (s.die n.die).pvdd.toNat < 4 * d.2.toNat)) →
      ((s.ch n).keep.fbFault = false → Does (.fbFault ⟨n, cycles⟩) s
        (s.modCh n fun k => { k with keep := { k.keep with fbFault := true }, stage := { k.stage with fbBad := true } })
        [(Ev.feedbackFault, n.val, 0)] [s.entry 0x11 0x0C 0 0 n.val []]) ∧
      ((s.ch n).keep.fbFault = true → Does (.fbFault ⟨n, cycles⟩) s
        (s.modCh n fun k => { k with stage := { k.stage with fbBad := true } }) [] [])) ∧
    (∀ (n : Chan) (cycles : List (BitVec 16 × BitVec 16)),
      (∃ d ∈ cycles, 4 * d.1.toNat ≤ (s.die n.die).pvdd.toNat) → (∃ d ∈ cycles, 4 * d.2.toNat ≤ (s.die n.die).pvdd.toNat) →
      exec (.fbFault ⟨n, cycles⟩) s = .next s) ∧
    (∀ (n : Chan) (leg high : Bool) (amps : BitVec 16) (gap : Nat) (same : Bool),
      let i := Instr.currentLimit ⟨n, leg, high, amps, gap, same⟩
      let u := if same = true ∧ (s.ch n).stage.actCycles.head? = some true then
          s.modCh n fun k => { k with stage := { k.stage with
            forced := (leg, ! high) :: k.stage.forced.filter fun e => e.1 != leg } }
        else s.modCh n fun k => { k with stage := { k.stage with
        acts := satInc k.stage.acts, actsTick := k.stage.actsTick + 1, lastAct := some s.now, forced := [(leg, ! high)],
        actCycles := (true :: (List.replicate (min gap 16) false ++ k.stage.actCycles)).take 16 } }
      (s.used n = true → (s.ch n).stage.modRun = true → 1024 * (s.ch n).ilim.toNat ≤ 10 * amps.toNat →
        ((∀ t, (s.ch n).stage.lastAct = some t → t + 192 < s.now) → Does i s u [(Ev.currentLimit, n.val, 0)] []) ∧
        (∀ t, (s.ch n).stage.lastAct = some t → s.now ≤ t + 192 → Does i s u [] [])) ∧
      ((s.used n = false ∨ (s.ch n).stage.modRun = false ∨ 10 * amps.toNat < 1024 * (s.ch n).ilim.toNat) →
        exec i s = .next s)) ∧
    (∀ (m : Master) (k : Die) (v : Byte), mayWrite m = true →
      Does (.sdCtlWrite m k v) s (s.modDie k fun d => { d with injEn := v.getLsbD 0 }) []
        [s.writeEntry m (0x50 + k.val) 0x06 [v] 0 0] ∧
      (5 ≤ v.toNat % 128 → v.toNat % 128 ≤ 80 → Does (.sdRampWrite m k v) s
        (s.modDie k fun d => { d with rampMs := v.setWidth 7 }) [] [s.writeEntry m (0x50 + k.val) 0x08 [v] 0 0]) ∧
      (v.toNat % 128 < 5 ∨ 80 < v.toNat % 128 → Does (.sdRampWrite m k v) s s [(Ev.rampLengthRefused, k.val, 0)] []))

/-- Shorts (R208, R209, R211, R216): nine limit acts in 16 modulation cycles, or a mirrored current above 14 A, trip
the channel with cause SHORT and start a series, which the half that leads carries on; in RETRY they count as a
failed retry, and the third one latches; a cause that stands behind SHORT is replaced; 1 s later the series clears
the channel by itself.
The load check ends (R210): inside its window the channel recovers to QUIET, below it the check fails with SHORT,
above it with OPEN_LOAD; the verdict compares |U|² with |I|² times the squares of the window's bounds.
Model's choices behind some of its clauses: assumptions 9, 39 and 43. -/
def Obligations.ShortsAndLoadChecks : Prop :=
  (∀ (s : State) (n : Chan) (i : Instr),
    ((i = .shortTrip n ∧ (∃ t0, (s.ch n).stage.lastAct = some t0 ∧ s.now ≤ t0 + 1) ∧
        9 ≤ (s.ch n).stage.actCycles.countP (· = true)) ∨
     ∃ amps : BitVec 16, i = .fastShort ⟨n, amps⟩ ∧ 14 * 1024 < amps.toNat) →
    let k := s.ch n
    let due := if s.leads n then some (s.now + 192000) else none
    (k.st.live = true → k.st ≠ .retry → (k.st = .rampUp → k.loop.uvHold = false) → Gives i s fun t =>
      Tripped s t n causeShort ∧ (t.ch n).keep.shorts = satInc k.keep.shorts ∧ (t.ch n).keep.retries = 0 ∧
      (t.ch n).keep.shortLatch = false ∧ (t.ch n).keep.retryAt = due ∧ OnlyChan s t n ∧ Journals s t ∧
      Raises s t [Ev.channelTrip, Ev.shortTrip] [Ev.identificationResult]) ∧
    (k.st = .retry → Gives i s fun t =>
      Tripped s t n causeShort ∧ (t.ch n).keep.shorts = satInc k.keep.shorts ∧ OnlyChan s t n ∧ Journals s t ∧
      (k.keep.retries = 2 → (t.ch n).keep.retries = 3 ∧ (t.ch n).keep.shortLatch = true ∧ (t.ch n).keep.retryAt = none) ∧
      (k.keep.retries ≠ 2 → (t.ch n).keep.retries = k.keep.retries + 1 ∧
        (t.ch n).keep.retryAt = some (s.now + 192000)) ∧
      Raises s t [Ev.channelTrip, Ev.shortTrip] [Ev.identificationResult, Ev.shortLatch]) ∧
    (k.st = .tripped → causeRank causeShort < causeRank k.keep.tripCause.toNat → Gives i s fun t =>
      (t.ch n).st = .tripped ∧ (t.ch n).keep.tripCause = 3 ∧ (t.ch n).keep.retries = 0 ∧ (t.ch n).keep.retryAt = due ∧
      OnlyChan s t n ∧ Journals s t ∧ Raises s t [Ev.channelTrip, Ev.shortTrip] []) ∧
    (k.st = .off → exec i s = .next s) ∧
    (∀ t0, k.keep.retryAt = some t0 → t0 ≤ s.now → k.st = .tripped → k.keep.tripCause = 3 → s.used n = true →
      s.joinedTwin n = false → s.outHalf n = false → (s.dev.state = .armed ∨ s.dev.state = .run) →
      Gives (.shortRetryClear n) s fun t =>
        (t.ch n).st = .retry ∧ (t.ch n).keep.tripCause = 3 ∧ (t.ch n).keep.retries = k.keep.retries ∧
        (t.ch n).keep.retryAt = none ∧ OnlyChan s t n ∧ Journals s t) ∧
    (s.leads n = false → exec (.shortRetryClear n) s = .next s)) ∧
  (∀ (s : State) (n : Chan) (c : ChanCfg) (t0 : Nat), s.cfg n = some c → (s.ch n).prot.check = some t0 → 19200 ≤ t0 →
    (s.ch n).st = .retry → s.joinedTwin n = false →
    let p := (s.ch n).prot
    let u2 := p.chkUre * p.chkUre + p.chkUim * p.chkUim
    let i2 := p.chkIre * p.chkIre + p.chkIim * p.chkIim
    let lo := c.protP 0x0231 * c.re
    let hi := c.protP 0x0232 * c.re
    (lo * lo * i2 ≤ u2 → u2 ≤ hi * hi * i2 → (s.ch n).keep.playOnRecover = false → Gives (.loadCheckComplete n) s fun t =>
      (t.ch n).st = .quiet ∧ (t.ch n).keep.tripCause = 0 ∧ (t.ch n).keep.retries = 0 ∧
      (t.ch n).prot.check = none ∧ OnlyChan s t n ∧ Journals s t ∧ Raises s t [] []) ∧
    (lo * lo * i2 ≤ u2 → u2 ≤ hi * hi * i2 → (s.ch n).keep.playOnRecover = true → (s.ch n).keep.wasPlaying = true →
      s.dev.state = .run → s.dev.disarming = false → s.mutedAt n = false → s.blockGone n = false →
      s.mismatchBars n = false → Gives (.loadCheckComplete n) s fun t =>
        (t.ch n).st.playing = true ∧ (t.ch n).keep.tripCause = 0 ∧ OnlyChan s t n ∧ Journals s t) ∧
    (u2 < lo * lo * i2 → Gives (.loadCheckComplete n) s fun t =>
      Tripped s t n causeShort ∧ OnlyChan s t n ∧ Journals s t ∧
      (t.ch n).keep.shortLatch = ((s.ch n).keep.shortLatch || decide ((s.ch n).keep.retries = 2)) ∧
      Raises s t [Ev.channelTrip] [Ev.identificationResult, Ev.shortLatch]) ∧
    (lo * lo * i2 ≤ u2 → hi * hi * i2 < u2 → Gives (.loadCheckComplete n) s fun t =>
      Tripped s t n causeOpenLoad ∧ (t.ch n).keep.retryAt = none ∧ OnlyChan s t n ∧ Journals s t ∧
      Raises s t [Ev.channelTrip] [Ev.identificationResult]))

/-- A die at its limit trips its channels with cause DIE (R207); five open blocks report an open load, and trip the
channel where its parameters ask for it (R212).
Model's choices behind some of its clauses: assumptions 9 and 44. -/
def Obligations.DieShutdownAndOpenLoad : Prop :=
  ∀ s : State,
    (∀ k : Die, (s.die k).shutdown = false → Gives (.dieShutdown k) s fun t =>
      t.beyond = (s.modDie k fun d => { d with shutdown := true }).beyond ∧ Journals s t ∧
      Raises s t [Ev.dieShutdown] [Ev.channelTrip, Ev.identificationResult] ∧
      (∀ n, n.die = k → s.used n = true → (s.ch n).st.live = true → Tripped s t n causeDie) ∧
      (∀ n, n.die ≠ k → t.ch n = s.ch n) ∧
      (∀ n, n.die = k → (s.used n = false ∨ (s.ch n).st = .off) → t.ch n = { s.ch n with stage := (s.ch n).stage.off })) ∧
    (∀ (n : Chan) (c : ChanCfg), s.cfg n = some c → 5 ≤ (s.ch n).prot.openRun → (s.ch n).prot.openActed = false →
      (s.ch n).st.playing = true →
      (c.protP 0x0233 = 1 → s.joinedTwin n = false → Gives (.openLoad n) s fun t =>
        Tripped s t n causeOpenLoad ∧ OnlyChan s t n ∧ Journals s t ∧
        Raises s t [Ev.openLoad, Ev.channelTrip] [Ev.identificationResult]) ∧
      (c.protP 0x0233 ≠ 1 → Does (.openLoad n) s
        (s.modCh n fun k => { k with prot := { k.prot with openActed := true, openWarn := true } })
        [(Ev.openLoad, n.val, 0)] []))

/-- MUTE_N (R213, R214) on a device whose twin is not joined: low at two consecutive boundaries, its assertion takes
every playing channel into the mute fade, aborts sweeps and ends an injection; the fade's end leaves them QUIET with a cleared
integrator; the release, at the end of a fade that runs, frees MUTED.
Model's choices behind some of its clauses: assumptions 45 and 48. -/
def Obligations.MutesFadeAndRelease : Prop :=
  ∀ s : State, s.dev.held = .running → s.pwr.vioOk = true → s.swp.joined = false →
    (s.dev.mutePin = false → s.dev.muteLow = (true, true) → Gives .muteAssert s fun t =>
      t.dev = { s.dev with mutePin := true, muteBy := 0x15, muteTook := s.dev.muteTook ||| maskOf fun n => (s.ch n).st.playing } ∧
      (∀ n, (s.ch n).st.playing = true → (t.ch n).loop.fading = .mute ∧ (t.ch n).st = (s.ch n).st) ∧
      (∀ n, (s.ch n).st.playing = true → (s.ch n).loop.fading ≠ .mute → (t.ch n).prot.muted = true) ∧
      (∀ n, (t.ch n).ident.running = false ∧ (t.ch n).diag.pilotOn = false ∧ (t.ch n).prot.check = none) ∧
      t.flx.injOn = false ∧
      Raises s t [Ev.mute] [Ev.identificationResult] ∧ Tells t (Ev.mute, 0xFF, 1) ∧ Journals s t ∧
      t.silent = { s.silent with dev := t.dev, chans := t.chans, flx := t.flx }) ∧
    (s.dev.mutePin = true → s.dev.muteLow = (true, true) → exec .muteAssert s =
      .next { s with dev := { s.dev with muteReleasing := false } }) ∧
    (s.dev.muteLow ≠ (true, true) → exec .muteAssert s = .next s) ∧
    (s.dev.muteLow ≠ (false, false) → exec .muteRelease s = .next s) ∧
    (s.dev.mutePin = true → s.dev.muteLow = (false, false) → (∃ n, (s.ch n).loop.fading = .mute) →
      exec .muteRelease s = .next { s with dev := { s.dev with muteReleasing := true } }) ∧
    (s.dev.mutePin = true → s.dev.muteLow = (false, false) → s.pwr.vioMute = false → s.dev.twinMute = false →
      s.dev.muteResume = false → (∀ n, (s.ch n).loop.fading ≠ .mute) → (∀ n, (s.ch n).st ≠ .retry) →
      Gives .muteRelease s fun t =>
      t.dev = { s.dev with mutePin := false, muteReleasing := false, muteTook := 0, muteBy := 0x15 } ∧
      (∀ n, t.ch n = { s.ch n with prot := { (s.ch n).prot with muted := false } }) ∧
      Raises s t [Ev.mute] [] ∧ Tells t (Ev.mute, 0xFF, 0) ∧ t.beyond = { s with dev := t.dev }.beyond ∧ Journals s t) ∧
    (s.dev.mutePin = true → s.dev.muteLow = (false, false) → s.pwr.vioMute = false → s.dev.twinMute = false →
      s.dev.muteResume = true → s.dev.state = .run → s.dev.disarming = false → (∀ n, (s.ch n).loop.fading = .none) →
      Gives .muteRelease s fun t =>
      (∀ n, inMask s.dev.muteTook n = true → s.used n = true → (s.ch n).st = .quiet → s.blockGone n = false →
        s.mismatchBars n = false → (t.ch n).st.playing = true) ∧ t.dev.mutePin = false) ∧
    (s.dev.muteReleasing = false → s.dev.vioReleasing = false → s.dev.twinReleasing = false → Gives .muteFadeEnd s fun t =>
      (∀ n, (s.ch n).loop.fading = .mute → (s.ch n).loop.phi = 0 → (t.ch n).st = (if (s.ch n).st.playing then .quiet else (s.ch n).st) ∧
        (t.ch n).loop.integ = 0 ∧ (t.ch n).loop.intSat = false ∧ (t.ch n).loop.fading = .none) ∧
      (∀ n, ((s.ch n).loop.fading ≠ .mute ∨ (s.ch n).loop.phi ≠ 0) → t.ch n = s.ch n) ∧
      t.beyond = s.beyond ∧ t.evt = s.evt ∧ Journals s t)

/-- PVDD dips (R199, R200): the warning counts, is reported once and starts V_DIP on every channel from the voltage of
its die; when it clears one entry says how low and how long, and the release line of 38,400 ticks begins; its end
removes V_DIP.
Model's choices behind some of its clauses: assumptions 45 and 72. -/
def Obligations.DipsHoldAndRelease : Prop :=
  ∀ s : State,
    (s.pwr.warn = false → Gives .pvddWarningSet s fun t =>
      t.pwr = { s.pwr with warn := true, warns := satInc s.pwr.warns, dipAt := s.now, dipUv := s.pwr.uv } ∧
      (∀ n, (t.ch n).prot.dip = true ∧ (t.ch n).prot.vLow = (s.die n.die).vp ∧ (t.ch n).prot.dipRelease = none ∧
        t.ch n = { s.ch n with prot := { (s.ch n).prot with
          dip := true, vLow := (t.ch n).prot.vLow, dipCap := (t.ch n).prot.dipCap, dipRelease := none } }) ∧
      Raises s t [Ev.pvddDip] [] ∧ Tells t (Ev.pvddDip, 0xFF, 0) ∧ t.jrn = s.jrn ∧
      t.beyond = { s with pwr := t.pwr }.beyond) ∧
    (s.pwr.warn = true → Gives .pvddWarningClear s fun t =>
      t.pwr = { s.pwr with warn := false, dipUv := false } ∧
      (∀ n, t.ch n = { s.ch n with prot := { (s.ch n).prot with dipRelease := some 0 } }) ∧
      t.beyond = { s with pwr := t.pwr }.beyond ∧ t.evt = s.evt ∧
      t.jrn = s.jrn.pushes [s.entry 0x14 0x0B (if s.pwr.dipUv then 6 else 0) 0 0xFF
        (leBytes 4 (toF32 s.lowestVLow).toNat ++ leBytes 4 (s.now - s.pwr.dipAt) ++ leBytes 2 s.snow.cause)]) ∧
    (Gives .dipReleaseEnd s fun t =>
      (∀ n, 38400 ≤ (s.ch n).prot.dipRelease.getD 0 → t.ch n = { s.ch n with prot := { (s.ch n).prot with
        dip := false, vLow := 0, dipCap := none, dipRelease := none } }) ∧
      (∀ n, (s.ch n).prot.dipRelease.getD 0 < 38400 → t.ch n = s.ch n) ∧ t.beyond = s.beyond ∧ t.evt = s.evt ∧ t.jrn = s.jrn)

/-! ## Load diagnostics -/

/-- RECAL is taken while the pilot runs, in QUIET or play, unmuted, with no sweep, rejoin, PILOT_OFF or plan without one
(R221, R261), and refused otherwise (R227, R236); a run of the pilot estimator, on the window of
its release, loads its validity and, with a reference due, captures it once, at the T_c of that release, and journals it (R225 to R228).
A whole programme frame is transformed, averaged into the four spectra, and may set the resonance reference, and one
with a tick that does not count is discarded (R229 to R231); a report, one for every ten releases of the estimator,
counts, shows the classes and queues its record on the ports that have a session (R232 to R234, R289).
Model's choices behind some of its clauses: assumptions 8, 15 and 47. -/
def Obligations.DiagnosticsFollowTheLoad : Prop :=
  (∀ (s : State) (n : Chan),
    (s.pilotOk n = true ↔ ∃ c, s.cfg n = some c ∧ c.diagP 0x0300 ≠ 0 ∧
      ((s.ch n).st = .quiet ∨ (s.ch n).st.playing = true) ∧ s.mutedAt n = false ∧ (s.ch n).ident.running = false ∧
      (s.ch n).keep.pilotOff = false ∧ s.swp.rejoin[n] = .none) ∧
    (∀ m : Master, mayWrite m = true →
      let v : Byte := if (s.ch n).keep.pilotOff then 3 else 1
      (s.pilotOk n = true → Does (.recal m n) s (s.modCh n fun k => { k with diag := { k.diag with recal := true } }) []
        [s.writeEntry m (0x10 + n.val) 0xB0 [v] 0 0]) ∧
      (s.pilotOk n = false → Does (.recal m n) s s [(Ev.diagnosticReference, n.val, 0)]
        [s.entry m.num 0x0D 1 0 n.val []])) ∧
    (∀ c : ChanCfg, s.cfg n = some c →
      ∀ r, (s.ch n).cls.pilot.run = some r → s.served (.pilot n) = true →
      let o := pilotRelease c (s.ch n).diag.snap (s.dev.tick - 1 - (s.now - r.1))
      let due := (s.ch n).keep.cal = false ∨ (s.ch n).diag.recal = true
      Gives (.pilotEstimate n) s fun t =>
        OnlyChan s t n ∧ (t.ch n).cls.pilot.run = none ∧ (t.ch n).diag.pilotEst = o.pilot ∧ (t.ch n).diag.impEst = o.impedance ∧
        (t.ch n).diag.pilVal = o.impedance ∧ (t.ch n).diag.estSeen = ((s.ch n).diag.estSeen || o.pilot) ∧
        (o.impedance = true → (t.ch n).diag.zre = o.z.re ∧ (t.ch n).diag.zim = o.z.im) ∧
        (o.impedance = false → (t.ch n).diag.reVal = false ∧ (t.ch n).keep = (s.ch n).keep ∧ t.jrn = s.jrn) ∧
        (o.impedance = true → due → (t.ch n).keep.cal = true ∧ (t.ch n).keep.zcalRe = o.z.re ∧
          (t.ch n).keep.zcalIm = o.z.im ∧
          (t.ch n).keep.reCal = c.re * (1 + c.protP 0x0212 * ((s.ch n).diag.snapTc - c.protP 0x0211)) ∧
          (t.ch n).diag.recal = false ∧ (t.ch n).keep.fsWait = true ∧
          Raises s t [Ev.diagnosticReference] [] ∧
          t.jrn = s.jrn.pushes [s.entry 0x10 0x0D 0 0 n.val (refData (t.ch n).keep)]) ∧
        (o.impedance = true → ¬ due → (t.ch n).keep = (s.ch n).keep ∧ t.jrn = s.jrn ∧ t.evt = s.evt) ∧
        ((t.ch n).diag.reVal = true → c.re / 2 ≤ (t.ch n).diag.re ∧ (t.ch n).diag.re ≤ 3 * c.re) ∧
        (t.ch n).st = (s.ch n).st ∧ (t.ch n).loop = (s.ch n).loop ∧ (t.ch n).stage = (s.ch n).stage) ∧
    (s.served (.pilot n) = false → exec (.pilotEstimate n) s = .next s)) ∧
  (∀ (s : State) (n : Chan) (c : ChanCfg), s.cfg n = some c →
    (∀ l : List (Rat × Rat), (s.ch n).diag.frameDue = some (l, true) → c.diagP 0x0303 ≠ 0 →
      let bins := spectra l
      let w := 1 - Config.expR (-(17067 / 100000) / c.diagP 0x0304)
      Gives (.programmeFrame n l) s fun t =>
        OnlyChan s t n ∧ (t.ch n).diag.frameDue = none ∧ (t.ch n).diag.frames = (s.ch n).diag.frames + 1 ∧
        (t.ch n).diag.sii = average w (s.ch n).diag.sii (bins.map SpecBin.sii) ∧
        (t.ch n).diag.suu = average w (s.ch n).diag.suu (bins.map SpecBin.suu) ∧
        (t.ch n).diag.siuRe = average w (s.ch n).diag.siuRe (bins.map SpecBin.siuRe) ∧
        (t.ch n).diag.siuIm = average w (s.ch n).diag.siuIm (bins.map SpecBin.siuIm) ∧
        ((s.ch n).keep.fsRefSet = true → (s.ch n).keep.fsWait = false → (t.ch n).keep = (s.ch n).keep) ∧
        ((t.ch n).keep.fsRefSet = true ↔ (s.ch n).keep.fsRefSet = true ∨
          ((t.ch n).diag.fsVal = true ∧ (s.ch n).keep.cal = true)) ∧
        (t.ch n).st = (s.ch n).st ∧ (t.ch n).loop = (s.ch n).loop ∧ (t.ch n).prot = (s.ch n).prot ∧
        Raises s t [] [Ev.diagnosticReference] ∧ Journals s t) ∧
    (∀ l : List (Rat × Rat), (s.ch n).diag.frameDue = some (l, false) → Does (.programmeFrame n l) s
      (s.modCh n fun k => { k with diag := { k.diag with frameDue := none } }) [] []) ∧
    (∀ l : List (Rat × Rat), (∀ good : Bool, (s.ch n).diag.frameDue ≠ some (l, good)) →
      exec (.programmeFrame n l) s = .next s) ∧
    ((s.ch n).diag.rptDue = false → exec (.diagReport n) s = .next s) ∧
    ((s.ch n).diag.rptDue = true →
     let raw := rawOutcome c (s.ch n)
     let run := if raw = (s.ch n).diag.runCode then (s.ch n).diag.runLen + 1 else 1
     Gives (.diagReport n) s fun t =>
      (t.ch n).keep.seq = (s.ch n).keep.seq + 1 ∧ (t.ch n).diag.raw = raw ∧ (t.ch n).diag.estSeen = false ∧
      (t.ch n).diag.rptDue = false ∧
      (raw ≠ 0 → c.diagP 0x0310 ≤ (run : Rat) → (t.ch n).diag.cls = raw) ∧
      (raw ≠ 0 → (run : Rat) < c.diagP 0x0310 → c.diagP 0x0300 ≠ 0 → (t.ch n).diag.cls = (s.ch n).diag.cls) ∧
      (raw = 0 → (c.diagP 0x0300 = 0 ∨ 49 ≤ (s.ch n).diag.noRaw) → (t.ch n).diag.cls = 0) ∧
      ((t.ch n).diag.cls ≠ (s.ch n).diag.cls → Raises s t [Ev.diagnosticClass] []) ∧
      ((t.ch n).diag.cls = (s.ch n).diag.cls → t.evt = s.evt ∧ t.jrn = s.jrn) ∧ Journals s t ∧
      t.portA.rptQ = (s.portA.queueReport (reportRecord n (t.ch n) s.activeFrame)).rptQ ∧
      t.portB.rptQ = (s.portB.queueReport (reportRecord n (t.ch n) s.activeFrame)).rptQ ∧
      (∀ j, j ≠ n → t.ch j = s.ch j) ∧
      t.silent = { s.silent with
        chans := t.chans
        portA := { s.portA.hush with rptQ := t.portA.rptQ, rptDrop := t.portA.rptDrop }
        portB := { s.portB.hush with rptQ := t.portB.rptQ, rptDrop := t.portB.rptDrop } }))

/-! ## Twin operation -/

/-- Sweetpea frames (R238 to R240): a frame whose two parts pass their CRC counts as good and gives part A to this tick
and part B to the next; one that fails counts an error and a miss, and keeps a part A that passed; a missing one counts
a miss.
Model's choices behind some of its clauses: assumptions 51 and 52. -/
def Obligations.SweetpeaFramesAreAccountedFor : Prop :=
  ∀ (s : State) (p : TwinPlan), s.plan = some p → s.sweetpeaOk = true →
    let takesA (b : List Byte) (t : State) : Prop :=
      t.swp.twinHead = BitVec.ofNat 64 (field b 8 8) ∧ t.swp.partnerTick = BitVec.ofNat 32 (field b 4 4) ∧
      t.swp.frameSeen = true ∧ (∀ q, t.swp.part = some q → q.half = slice b 208 64) ∧ t.swp.part.isSome = true ∧
      (∀ n, s.twinned n = true → (t.ch n).twin.partnerHiz = (byteAt (slice b 208 64) n.val).getLsbD 7 ∧
        (t.ch n).twin.partnerState = (byteAt (slice b 208 64) n.val).setWidth 4 ∧
        t.ch n = { s.ch n with twin := { (s.ch n).twin with
          partnerState := (t.ch n).twin.partnerState, partnerHiz := (t.ch n).twin.partnerHiz } }) ∧
      (∀ n, s.twinned n = false → t.ch n = s.ch n) ∧ t.evt = s.evt ∧ t.jrn = s.jrn ∧
      t.silent = { s.silent with chans := t.chans, swp := t.swp }
    (∀ b : List Byte, b.length = 1016 → field b 400 4 = (crc32 (slice b 0 400)).toNat →
      field b 1012 4 = (crc32 (slice b 404 608)).toNat → Gives (.sweetpeaFrame b) s fun t =>
        takesA b t ∧ t.swp.goodRun = s.swp.goodRun + 1 ∧ t.swp.missRun = 0 ∧
        t.swp.partB = some (slice b 404 608) ∧ t.swp.crcErrs = s.swp.crcErrs ∧ t.swp.missed = s.swp.missed ∧
        t.swp = { s.swp with
          goodRun := t.swp.goodRun, missRun := 0, partB := t.swp.partB, part := t.swp.part, frameSeen := true,
          twinHead := t.swp.twinHead, partnerTick := t.swp.partnerTick, partnerLead := t.swp.partnerLead,
          farewellRx := s.swp.farewellRx || (byteAt b 1).getLsbD 2 }) ∧
    (∀ b : List Byte, (b.length ≠ 1016 ∨ field b 400 4 ≠ (crc32 (slice b 0 400)).toNat) → Does (.sweetpeaFrame b) s
      { s with swp := { s.swp with
          part := none, partB := none, goodRun := 0, missRun := s.swp.missRun + 1, frameSeen := true,
          missed := if s.swp.laneUp then satInc s.swp.missed else s.swp.missed, crcErrs := satInc s.swp.crcErrs } } [] []) ∧
    (∀ b : List Byte, b.length = 1016 → field b 400 4 = (crc32 (slice b 0 400)).toNat →
      field b 1012 4 ≠ (crc32 (slice b 404 608)).toNat → Gives (.sweetpeaFrame b) s fun t =>
        takesA b t ∧ t.swp = { s.swp with
          goodRun := 0, missRun := s.swp.missRun + 1, partB := none, part := t.swp.part, frameSeen := true,
          crcErrs := satInc s.swp.crcErrs, missed := if s.swp.laneUp then satInc s.swp.missed else s.swp.missed,
          twinHead := t.swp.twinHead, partnerTick := t.swp.partnerTick, partnerLead := t.swp.partnerLead,
          farewellRx := s.swp.farewellRx || (byteAt b 1).getLsbD 2 }) ∧
    (∀ only : Bool, Does (.sweetpeaFrameMissed only) s
      { s with swp := { s.swp with
          part := if only then s.swp.part else none, partB := none, goodRun := 0, missRun := s.swp.missRun + 1,
          frameSeen := true, missed := if s.swp.laneUp then satInc s.swp.missed else s.swp.missed } } [] [])

/-- Joining (R238, R241, R243, R245, R246): JOIN_CODE names the first condition that fails; 64 good frames bring the lane
up; lock within 5 ns gives a follower the leader's tick count, and 2 s of the lane without it code 6; lock and agreeing plans join the pair with the plan's roles; a device whose wait expires without a twin,
or that is the TB leader, leads every twinned channel alone, and reports each (R30).
Model's choices behind some of its clauses: assumption 50. -/
def Obligations.TwinsJoin : Prop :=
  ∀ (s : State) (p : TwinPlan), s.plan = some p →
    (s.swp.laneUp = false → s.joinCheck = 1) ∧
    (s.swp.laneUp = true → s.swp.tbLock = false → s.swp.joinCode ≠ 6 → s.joinCheck = 1) ∧
    (s.swp.laneUp = true → s.swp.tbLock = true → s.swp.partnerPlan = none → s.joinCheck = 2) ∧
    (∀ q : TwinPlan, s.swp.laneUp = true → s.swp.tbLock = true → s.swp.partnerPlan = some q →
      s.joinCheck = if p.pairId ≠ q.pairId then 3
        else if p.twinMask ≠ q.twinMask ∨ p.leadMask ^^^ q.leadMask ≠ p.twinMask then 4
        else if p.tbFollower = q.tbFollower then 5 else 0) ∧
    (s.sweetpeaOk = true → 64 ≤ s.swp.goodRun → s.swp.laneUp = false → Gives .laneUp s fun t =>
      t.swp = { s.swp with laneUp := true, laneUpAt := s.now, silentAt := none, lossLow := none, joinCode := t.swp.joinCode } ∧
      t.silent = { s.silent with swp := t.swp, mtb := t.mtb } ∧ t.jrn = s.jrn ∧ Raises s t [] [Ev.referenceLost]) ∧
    (s.sweetpeaOk = false → exec .laneUp s = .next s) ∧
    (s.swp.inPhase = true ↔ -50 ≤ s.swp.tbErr.toInt ∧ s.swp.tbErr.toInt ≤ 50) ∧
    (s.swp.inPhase = false → exec .tbLock s = .next s) ∧
    (s.swp.laneUp = true → s.swp.tbLock = false → s.swp.inPhase = true → Gives .tbLock s fun t =>
      t.swp = { s.swp with tbLock := true, joinCode := t.swp.joinCode } ∧
      (p.tbFollower = true → t.dev.tick = s.swp.partnerTick.toNat) ∧
      (p.tbFollower = false → t.dev = s.dev ∧ t.chans = s.chans) ∧
      (∀ n, (s.ch n).st.playing = false → t.ch n = s.ch n) ∧
      t.silent = { s.silent with swp := t.swp, dev := { s.dev with tick := t.dev.tick }, chans := t.chans } ∧
      t.evt = s.evt ∧ t.jrn = s.jrn) ∧
    (s.swp.laneUp = true → s.swp.tbLock = false → s.swp.laneUpAt + 384000 ≤ s.now →
      Does .tbLockTimeout s { s with swp := { s.swp with joinCode := 6 } } [] []) ∧
    (s.now < s.swp.laneUpAt + 384000 → exec .tbLockTimeout s = .next s) ∧
    (∀ q : TwinPlan, s.swp.partnerPlan = some q → s.swp.laneUp = true → s.swp.tbLock = true → s.swp.joined = false →
      p.pairId = q.pairId → p.twinMask = q.twinMask → p.leadMask ^^^ q.leadMask = p.twinMask → p.tbFollower ≠ q.tbFollower →
      Gives .twinJoin s fun t =>
        t.swp.joined = true ∧ t.swp.joinCode = 0 ∧
        (s.swp.soloAll = true → t.swp.lead = p.twinMask ∧ t.swp.solo = p.twinMask) ∧
        (s.swp.soloAll = false → s.swp.partnerLead &&& p.twinMask = p.twinMask → t.swp.lead = 0 ∧ t.swp.solo = p.twinMask) ∧
        (s.swp.soloAll = false → s.swp.partnerLead &&& p.twinMask ≠ p.twinMask → t.swp.lead = p.leadMask ∧ t.swp.solo = 0) ∧
        t.silent = { s.silent with
          swp := { s.swp with joined := true, joinCode := 0, lead := t.swp.lead, solo := t.swp.solo }
          dev := { s.dev with muteApplied := s.muted } } ∧
        Raises s t [Ev.twinJoined] [] ∧ Tells t (Ev.twinJoined, 0xFF, 0) ∧
        t.jrn = s.jrn.pushes [s.entry 0x13 0x08 0 0 0xFF (leBytes 8 t.swp.lead.toNat ++ leBytes 8 s.swp.twinHead.toNat)]) ∧
    (s.swp.joined = false → s.swp.waitOver = false → s.bld.acceptedAt + 576000 ≤ s.now →
      ((p.tbFollower = false ∨ (s.swp.drivenSince.isSome = true ∧ ∀ t0, s.swp.lastLow = some t0 → t0 + 192000 ≤ s.now)) →
        Gives .joinWaitExpiry s fun t =>
        t.silent = State.silent { s with swp := { s.swp with
          waitOver := true, soloAll := true, lead := p.twinMask, solo := p.twinMask } } ∧
        Raises s t (if p.twinMask = 0 then [] else [Ev.twinSolo]) [] ∧
        (∀ n : Chan, p.twinMask = bitOf n → Tells t (Ev.twinSolo, n.val, 0)) ∧
        t.jrn = s.jrn.pushes [s.entry 0x13 0x08 0 0 0xFF (leBytes 8 p.twinMask.toNat ++ leBytes 8 s.swp.twinHead.toNat)]) ∧
      (p.tbFollower = true → (∃ t0, s.swp.lastLow = some t0 ∧ s.now < t0 + 192000) → Does .joinWaitExpiry s
        { s with swp := { s.swp with waitOver := true } } [] []))

/-- A carried entry applies at its tick, a request (ORIGIN 1) on arrival, and nothing before (R251, Table 9-4). A state
change of KIND 0x01 moves each channel of the mask whose state has a row of Table 4-7 for it and leaves the others, and
those that R244 keeps from play; a half that a shutdown holds, or that is out of one, it takes at most to OFF (R318, R319).
A request is judged by the half that leads, journalled as M3's, and carried to both
halves, or refused: a command (0x02), a bank (0x03), a channel reset (0x06), a sweep (0x07), the QUIET of a half that has
ramped (0x01); a half that follows does nothing with it, but that a half in OFF learns of its rejoin from such a QUIET
(R260, R261). An entry of the lead acts on both halves: a bank request, which
the twin's device journals, a synchronising reset (0x04), a mute (0x05), a channel reset, a sweep.
Model's choices behind some of its clauses: assumptions 48 and 51. -/
def Obligations.CarriedCommandsApplyAtTheirTick : Prop :=
  ∀ s : State,
    (dueEntry s.dev.tick s.swp.applyQ = none → exec .carriedCommandApply s = .next s) ∧
    (∀ (n : Chan) (new : ChState),
      ((s.ch n).st = .rampUp → ((s.ch n).loop.uvHold = true ∨ (s.ch n).twin.outHeld = true) →
        s.carriedTo n new = if new = .rampDown ∨ new = .off then some .off else none) ∧
      ((s.ch n).st ≠ .rampUp →
        s.carriedTo n new = if carriedOk (s.ch n).st new = true ∧ s.barred n new = false then some new else none)) ∧
    (∀ (rx : Bool) (e : CmdEntry) (rest : List (Bool × CmdEntry)),
      dueEntry s.dev.tick s.swp.applyQ = some ((rx, e), rest) → e.origin = 0 → e.kind = 1 →
      let new := ChState.ofCode e.code.toNat
      (new ≠ .quiet → Gives .carriedCommandApply s fun t =>
        Journals s t ∧
        (new ≠ .retry → t.swp = { s.swp with
            applyQ := rest, rejoin := t.swp.rejoin, rejoinPlay := t.swp.rejoinPlay } ∧
          t.beyond = { s with swp := t.swp, fresh := t.fresh }.beyond) ∧
        (∀ n, (inMask e.mask n = false ∨ s.twinned n = false) → t.swp.rejoin[n] = s.swp.rejoin[n]) ∧
        (∀ n, inMask e.mask n = true → s.twinned n = true → new ≠ .rampUp → t.swp.rejoin[n] = .none) ∧
        (∀ n, inMask e.mask n = true → s.twinned n = true → ∀ x, s.carriedTo n new = some x →
          (t.ch n).st = x ∧ (new ≠ .retry → (t.ch n).lasting = (s.ch n).lasting)) ∧
        (∀ n, (inMask e.mask n = false ∨ s.twinned n = false ∨ s.carriedTo n new = none) →
          t.ch n = s.ch n)) ∧
      (new = .quiet → Gives .carriedCommandApply s fun t =>
        (∀ n, inMask e.mask n = true → s.twinned n = true → (s.ch n).st.playing = true → (s.ch n).loop.runPlay = false →
          (t.ch n).st = .quiet ∧ (t.ch n).loop.fading = .quiet) ∧
        (∀ n, (inMask e.mask n = false ∨ s.twinned n = false ∨ (s.ch n).st = .off ∨ (s.ch n).st = .tripped) →
          t.ch n = s.ch n) ∧ Journals s t)) ∧
    (∀ (rx : Bool) (e : CmdEntry) (rest : List (Bool × CmdEntry)),
      dueEntry s.dev.tick s.swp.applyQ = some ((rx, e), rest) → e.origin ≠ 0 →
      let u := { s with swp := { s.swp with applyQ := rest } }
      let notice := rx = true ∧ e.kind = 1 ∧ e.code.toNat = ChState.quiet.code
      (e.kind ≠ 6 → ¬ notice → (∀ n, inMask e.mask n = true → s.twinned n = true → s.follows n = true) →
        Does .carriedCommandApply s u [] []) ∧
      (∀ n : Chan, notice → e.mask = bitOf n → s.twinned n = true → s.follows n = true →
        ((s.ch n).st = .off → s.swp.rejoin[n] = .none → Does .carriedCommandApply s
          { u with swp := { u.swp with rejoin := u.swp.rejoin.set n.val (.out (s.now + rejoinWait)) } } []
          [s.entry 0x13 0x08 0 0 n.val s.twinData]) ∧
        (((s.ch n).st ≠ .off ∨ s.swp.rejoin[n] ≠ .none) → Does .carriedCommandApply s u [] [])) ∧
      (∀ n : Chan, e.mask = bitOf n → s.joinedTwin n = true → s.follows n = false →
        let sends (kind code : Nat) : State := u.sends (cmdEntry kind code 0 0 (bitOf n))
        (∀ k : ChCmd, e.kind = 2 → e.code.toNat = k.bit → (k = .clear → (s.ch n).twin.partnerHiz = true) →
          u.settled n → (s.ch n).loop.heldCmds = [] →
          (∀ new, s.judge n k = some new → Gives .carriedCommandApply s fun now =>
            let t := if s.undecided n then now.runHeld n else now
            t.swp = (sends 1 new.code).swp ∧ (∀ j, (t.ch j).st = (s.ch j).st) ∧ (∀ j, j ≠ n → t.ch j = s.ch j) ∧
            Raises s t [] [] ∧ t.jrn = s.jrn.pushes [s.writeEntry .m3 (0x10 + n.val) 0x04 [1#8 <<< k.bit] 0 0]) ∧
          (s.judge n k = none → s.undecided n = false → Does .carriedCommandApply s u [(Ev.channelCommandRefused, n.val, 0)]
            [s.writeEntry .m3 (0x10 + n.val) 0x04 [1#8 <<< k.bit] 1 0])) ∧
        (∀ g : ChanCfg, e.kind = 3 → s.cfg n = some g → g.dfn.fadeEn = true → (s.ch n).fg.phase = .idle →
          let bank := decide (e.code ≠ 0)
          Does .carriedCommandApply s (sends 3 bank.toNat) []
            [s.entry 3 0x06 (if (s.ch n).fgk.active = bank then 5 else 0) 0 n.val (fgData bank (s.ch n).fgk)]) ∧
        (e.kind = 6 → Does .carriedCommandApply s (sends 6 0) []
          (if rx then [s.writeEntry .m3 0x01 0x10 (leBytes 8 e.mask.toNat) 0 0] else [])) ∧
        (e.kind = 7 → s.identOk n = true → Does .carriedCommandApply s
          ((sends 7 0).modCh n fun k => { k with keep := { k.keep with idAtStartDone := true } }) []
          [s.entry 3 0x0E 0 0 n.val [] (some 0)]) ∧
        (e.kind = 7 → s.identOk n = false → Does .carriedCommandApply s u [(Ev.identificationRefused, n.val, 0)]
          [s.entry 3 0x0E 1 0 n.val [] (some 0)]) ∧
        (e.kind = 1 → e.code.toNat = ChState.quiet.code → (s.ch n).twin.partnerState.toNat = ChState.rampUp.code →
          Does .carriedCommandApply s (sends 1 ChState.quiet.code) [] []))) ∧
    (∀ (rx : Bool) (e : CmdEntry) (rest : List (Bool × CmdEntry)),
      dueEntry s.dev.tick s.swp.applyQ = some ((rx, e), rest) → e.origin = 0 →
      let u := { s with swp := { s.swp with applyQ := rest } }
      let mine (n : Chan) : Bool := inMask e.mask n && s.twinned n
      (∀ (n : Chan) (g : ChanCfg), e.kind = 3 → e.mask = bitOf n → s.twinned n = true → s.cfg n = some g →
        g.dfn.fadeEn = true → (s.ch n).fg.phase = .idle →
        let bank := decide (e.code ≠ 0)
        let es (out : Nat) : List JEntry :=
          if rx then [s.entry 3 0x06 out 0 n.val (fgData bank (s.ch n).fgk)] else []
        ((s.ch n).fgk.active = bank → Does .carriedCommandApply s u [] (es 5)) ∧
        ((s.ch n).fgk.active ≠ bank → Gives .carriedCommandApply s fun t =>
          t.beyond = u.beyond ∧ (∀ j, j ≠ n → t.ch j = s.ch j) ∧ t.ch n = { s.ch n with fg := (t.ch n).fg } ∧
          (t.ch n).fg.phase = .preroll ∧ (t.ch n).fg.incoming = bank ∧ (t.ch n).fg.pos = 0 ∧ Raises s t [] [] ∧
          t.jrn = s.jrn.pushes (es 0))) ∧
      (e.kind = 4 → s.widerReset = false → Gives .carriedCommandApply s fun t =>
        t.stm = { Streams.reset with wide := true, ratio := nominalRatio t.mtb.rate.toNat, newest := s.stm.newest } ∧
        t.mtb.lagNow = s.mtb.lag ∧ (∀ n, (t.ch n).fg.phase = .settle ∧ (t.ch n).fg.waitStart = true) ∧ t.swp = u.swp ∧
        Raises s t [Ev.synchronisingReset] [] ∧ t.jrn = s.jrn.pushes
          [s.entry (if rx then 3 else 0x16) 0x07 0 e.cause.toNat 0xFF [BitVec.ofNat 8 e.cause.toNat]]) ∧
      (e.kind = 5 → e.code = 1 → Gives .carriedCommandApply s fun t =>
        t.dev.twinMute = (s.dev.twinMute || rx) ∧ t.dev.muteApplied = (s.dev.muteApplied || ! rx) ∧ t.swp = u.swp ∧ (∀ n, s.twinned n = false → t.ch n = s.ch n) ∧
        (∀ n, s.twinned n = true → (s.ch n).st.playing = true → (t.ch n).loop.fading = .mute) ∧
        Raises s t [Ev.mute] [Ev.identificationResult] ∧ Tells t (Ev.mute, 0xFF, 1) ∧ Journals s t) ∧
      (e.kind = 5 → e.code = 0 → rx = false → Gives .carriedCommandApply s fun t => t.dev.muteApplied = false) ∧
      (e.kind = 5 → e.code = 0 → rx = true → (∃ n, s.twinned n = true ∧ (s.ch n).loop.fading = .mute) →
        Does .carriedCommandApply s { u with dev := { u.dev with twinReleasing := true } } [] []) ∧
      (e.kind = 5 → e.code = 0 → rx = true → s.muted = false → s.dev.muteResume = false → (∀ n, (s.ch n).st ≠ .retry) →
        (∀ n, (s.ch n).loop.fading ≠ .mute) → Gives .carriedCommandApply s fun t =>
          t.dev.twinMute = false ∧ (∀ n, s.twinned n = true → (t.ch n).prot.muted = false) ∧
          (∀ n, s.twinned n = false → t.ch n = s.ch n) ∧ Raises s t [Ev.mute] [] ∧ Tells t (Ev.mute, 0xFF, 0)) ∧
      (e.kind = 6 → Gives .carriedCommandApply s fun t =>
        (∀ n, mine n = true → (t.ch n).loop.resetPending = true ∧ ((s.ch n).loop.resetPending = false →
          ((s.ch n).st.playing = true ∨ (s.ch n).st = .quiet ∨ (s.ch n).st = .retry) → (t.ch n).st = .rampDown)) ∧
        (∀ n, mine n = false → t.ch n = s.ch n) ∧ t.swp = u.swp ∧ Journals s t ∧
        (rx = true → JournalsFirst s t (s.writeEntry .m3 0x01 0x10 (leBytes 8 e.mask.toNat) 0 0))) ∧
      (e.kind = 7 → Gives .carriedCommandApply s fun t =>
        (∀ n, mine n = true → (s.ch n).ident.running = false → t.ch n = { s.ch n with
          ident := { ChIdent.reset with running := true }, keep := { (s.ch n).keep with idAtStartDone := true } }) ∧
        (∀ n, (mine n = false ∨ (s.ch n).ident.running = true) → t.ch n = s.ch n) ∧ t.swp = u.swp ∧
        Raises s t [] [Ev.identificationStart] ∧ Journals s t))

/-- The twin disappears (R242, R253, R255, R257): four missed frames take the lane down; a device that hears the life
line and is the TB follower halts with cause LANE, any other goes on alone; a half whose partner turns
high-impedance plays solo, and the half that is out gives the lead up, with an entry (R346); a share clamp that acts for 100 ms is reported once
(R248, R424).
Model's choices behind some of its clauses: assumptions 15, 26, 50 and 51. -/
def Obligations.TwinLossIsDecided : Prop :=
  ∀ (s : State) (p : TwinPlan), s.plan = some p →
    ((s.swp.laneUp = true ∨ s.swp.joined = true) → s.swp.silentAt = none → 4 ≤ s.swp.missRun → Gives .twinSilent s fun t =>
      t.swp = { s.swp with
        laneUp := false, goodRun := 0, silentAt := some s.dev.tick, lossLow := none, tbLock := s.swp.tbLock && ! p.tbFollower,
        joinCode := t.swp.joinCode } ∧
      t.silent = { s.silent with swp := t.swp, mtb := t.mtb, pace := t.pace, fresh := s.fresh + 1 } ∧
      t.pace.mxMaster = 3 ∧ t.pace.mxKind = 2 ∧
      Raises s t [Ev.burstCut] [Ev.referenceLost] ∧ JournalsLast s t (s.entry 3 0x10 7 0 0xFF
        (mxData t.pace (Config.freeBits 32 s.fresh).toNat))) ∧
    (∀ low : Bool, s.swp.lossLow ≠ some low → exec (.twinLossDecision low) s = .next s) ∧
    (s.swp.joined = true → s.swp.lossLow = some true → p.tbFollower = true → Gives (.twinLossDecision true) s fun t =>
      t.dev.state = .halt ∧ t.dev.haltCause = .lane ∧ t.swp.joined = false ∧ t.swp.lastLoss = 2 ∧
      t.swp.losses = satInc s.swp.losses ∧ (∀ n, (s.ch n).st.live = true → (t.ch n).st = .off ∧ (t.ch n).quietBridge) ∧
      t.bld.build = s.bld.build ∧ Raises s t [Ev.halt, Ev.twinLost] [Ev.identificationResult, Ev.buildRefused] ∧ Journals s t) ∧
    (∀ low : Bool, s.swp.joined = true → s.swp.lossLow = some low → (low = false ∨ p.tbFollower = false) →
      Gives (.twinLossDecision low) s fun t =>
        t.dev = s.dev ∧ t.swp.joined = false ∧ t.swp.soloAll = true ∧ t.swp.lead = p.twinMask ∧ t.swp.solo = p.twinMask ∧
        t.swp.lastLoss = (if low then 2 else 1) ∧ t.swp.losses = satInc s.swp.losses ∧ t.swp.outQ = [] ∧
        (∀ n, (s.twinned n = false ∨ inMask s.swp.lead n = true) → t.ch n = s.ch n) ∧
        (∀ n, (t.ch n).st = (s.ch n).st ∧ (t.ch n).stage = (s.ch n).stage) ∧
        Raises s t [Ev.twinLost] [] ∧ Tells t (Ev.twinLost, 0xFF, if low then 2 else 1) ∧ Journals s t) ∧
    (∀ n : Chan, s.swp.joined = true → s.twinned n = true → s.used n = true → (s.ch n).twin.partnerHiz = true → ((s.ch n).st.playing = true ∨ (s.ch n).st = .quiet) →
      inMask s.swp.solo n = false → Gives (.soloTakeover n) s fun t =>
        t.swp = { s.swp with lead := setMask s.swp.lead n true, solo := setMask s.swp.solo n true } ∧ OnlyChans s { t with swp := s.swp } (fun j => decide (j = n)) ∧
        (inMask s.swp.lead n = true → t.ch n = { s.ch n with twin := { (s.ch n).twin with roleNew := true } }) ∧
        (∀ c, inMask s.swp.lead n = false → s.cfg n = some c → c.dfn.law ≠ 0 → 0 ≤ c.lawP 0x0012 →
          (t.ch n).loop.integ = clampR (-c.lawP 0x0012) (c.lawP 0x0012) (s.sigmaL n) ∧ (t.ch n).loop.tLeft = 64 ∧
          (t.ch n).st = (s.ch n).st) ∧
        Raises s t [Ev.twinSolo] [] ∧ Tells t (Ev.twinSolo, n.val, 0) ∧ Journals s t) ∧
    (∀ n : Chan, s.swp.joined = true → s.twinned n = true → s.swp.tx.length = 1016 →
      (byteAt s.swp.tx (208 + n.val)).getLsbD 7 = true → (s.ch n).stage.bridge = 0 → (s.ch n).twin.partnerHiz = false →
      (ChState.ofCode (s.ch n).twin.partnerState.toNat).playing = true → inMask (s.leadGone n).swp.lead n = false ∧
      (inMask s.swp.lead n = true →
        (s.leadGone n).jrn = s.jrn.pushes [s.entry 0x13 0x08 0 0 n.val (s.leadGone n).twinData])) ∧
    (∀ n : Chan, 19200 ≤ (s.ch n).twin.satRun → (s.ch n).twin.shareFaulted = false → Does (.shareFault n) s
      (s.modCh n fun k => { k with twin := { k.twin with shareFaulted := true } }) [(Ev.shareFault, n.val, 0)]
      [s.entry 0x10 0x08 0 0 n.val s.twinData]) ∧
    (∀ n : Chan, (s.ch n).twin.shareFaulted = true → exec (.shareFault n) s = .next s)

/-- Farewell and rejoin (R260, R261): FAREWELL proposes the handover 16 ticks ahead, or is refused, on a device that is not
joined or has a farewell, a rejoin or a held patch pending, or plays a channel whose partner half is out; at the handover the
leads change sides; 16 ticks later the leaver halts with cause FAREWELL and the twin plays alone. REJOIN begins on
each marked channel that qualifies and is refused on the others; once the solo half stands in QUIET it enables the out
half, and a half that leaves its way, or that waits in vain for its ENABLE, ends it (assumption 51). A half that stays alone after a PVDD shutdown returns and plays solo
(R319).
Model's choices behind some of its clauses: assumption 51. -/
def Obligations.FarewellAndRejoin : Prop :=
  ∀ (s : State) (p : TwinPlan) (m : Master), s.plan = some p → mayWrite m = true →
    (s.farewellBad = true ↔ s.swp.joined = false ∨ s.swp.farewell.isSome = true ∨ s.ldr.heldPatch.isSome = true ∨
      ∃ n : Chan, s.swp.rejoin[n] ≠ .none ∨ (s.twinned n = true ∧ (s.ch n).twin.partnerHiz = true ∧
        ((s.ch n).st.playing = true ∨ (s.ch n).st = .quiet))) ∧
    (∀ n : Chan,
      let own := (s.ch n).st
      let twin := ChState.ofCode (s.ch n).twin.partnerState.toNat
      s.rejoinOk n = true ↔ s.joinedTwin n = true ∧ s.mutedAt n = false ∧
        (((own.playing = true ∨ own = .quiet) ∧ twin = .off) ∨ (own = .off ∧ (twin.playing = true ∨ twin = .quiet)))) ∧
    (s.farewellBad = false → Does (.farewell m) s
      { s with swp := { s.swp with
          farewellSent := true, farewell := some { leaving := true, handover := s.dev.tick + 16, done := false },
          slowQ := s.swp.slowQ ++ [(0x04, leBytes 4 (s.dev.tick + 16))] } } []
      [s.writeEntry m 0x06 0x04 [0x01] 0 0, s.entry 0x13 0x08 0 0 0xFF s.twinData]) ∧
    (s.farewellBad = true → Does (.farewell m) s s [(Ev.farewellRefused, 0xFF, 0)]
      [s.entry m.num 0x08 1 0 0xFF s.twinData]) ∧
    (∀ f : Farewell, s.swp.farewell = some f → f.done = false → tickReached s.dev.tick f.handover = true →
      (f.leaving = true → Gives .farewellHandover s fun t =>
        t.swp = { s.swp with farewell := some { f with done := true }, lead := s.swp.lead &&& ~~~ p.twinMask } ∧
        (∀ n, t.ch n = if s.twinned n && inMask s.swp.lead n
          then { s.ch n with twin := { (s.ch n).twin with roleNew := true } } else s.ch n) ∧
        t.silent = { s.silent with swp := t.swp, chans := t.chans } ∧ t.evt = s.evt ∧ t.jrn = s.jrn.pushes
          [s.entry 0x13 0x08 0 0 0xFF (leBytes 8 t.swp.lead.toNat ++ leBytes 8 s.swp.twinHead.toNat)]) ∧
      (f.leaving = false → Gives .farewellHandover s fun t =>
        t.swp.farewell = some { f with done := true } ∧
        (∀ n, s.used n = true → s.twinned n = true → inMask t.swp.lead n = true) ∧ t.dev = s.dev ∧
        (∀ n, (t.ch n).st = (s.ch n).st) ∧ Journals s t ∧ t.evt = s.evt)) ∧
    (∀ f : Farewell, s.swp.farewell = some f → f.done = true → tickReached s.dev.tick (f.handover + 16) = true →
      (f.leaving = true → Gives .farewellHalt s fun t =>
        t.dev.state = .halt ∧ t.dev.haltCause = .farewell ∧ t.swp.joined = false ∧ t.swp.farewell = none ∧
        (∀ n, (s.ch n).st.live = true → (t.ch n).st = .off ∧ (t.ch n).quietBridge) ∧ t.bld.build = s.bld.build ∧
        Raises s t [Ev.halt] [Ev.identificationResult, Ev.buildRefused] ∧ Journals s t) ∧
      (f.leaving = false → Gives .farewellHalt s fun t =>
        t.dev = s.dev ∧ t.swp.joined = false ∧ t.swp.farewell = none ∧ t.swp.lastLoss = 3 ∧ t.swp.soloAll = true ∧
        t.swp.lead = p.twinMask ∧ t.swp.solo = p.twinMask ∧ (∀ n, (t.ch n).st = (s.ch n).st) ∧ Journals s t ∧ t.evt = s.evt)) ∧
    (s.swp.joined = false → Gives (.rejoin m) s fun t => t.silent = s.silent ∧ t.jrn = s.jrn ∧
      Raises s t (if s.swp.rejoinMask = 0 then [] else [Ev.rejoinRefused]) [] ∧
      ∀ n : Chan, s.swp.rejoinMask = bitOf n → Tells t (Ev.rejoinRefused, n.val, 0)) ∧
    (s.swp.joined = true → Gives (.rejoin m) s fun t =>
      (∀ n : Chan, inMask s.swp.rejoinMask n = true → s.rejoinOk n = true → s.swp.rejoin[n] = .none →
        (s.ch n).st ≠ .off → (t.ch n).diag.pilotOn = false ∧ t.swp.rejoin[n] = .fadeOut (s.now + 68)) ∧
      (∀ n : Chan, inMask s.swp.rejoinMask n = true → s.rejoinOk n = true → s.swp.rejoin[n] = .none →
        (s.ch n).st = .off → t.swp.rejoin[n] = .out (s.now + 320)) ∧
      (∀ n : Chan, (inMask s.swp.rejoinMask n = false ∨ s.rejoinOk n = false ∨ s.swp.rejoin[n] ≠ .none) →
        t.swp.rejoin[n] = s.swp.rejoin[n] ∧ t.ch n = s.ch n) ∧
      (∀ n : Chan, (t.ch n).st = (s.ch n).st) ∧ t.dev = s.dev ∧ t.bld = s.bld ∧ Journals s t ∧
      Raises s t [] [Ev.rejoinRefused]) ∧
    (∀ n : Chan, s.swp.joined = true → s.swp.rejoinMask = bitOf n → (s.rejoinOk n = false ∨ s.swp.rejoin[n] ≠ .none) →
      Does (.rejoin m) s s [(Ev.rejoinRefused, n.val, 0)] [s.writeEntry m 0x06 0x04 [0x02] 0 0]) ∧
    (∀ (n : Chan) (t0 : Nat), s.swp.rejoin[n] = .fadeOut t0 →
      ((s.ch n).st.playing = false → (s.ch n).st ≠ .quiet → (s.rejoinTick n).swp.rejoin[n] = .none) ∧
      (s.joinedTwin n = true → (s.ch n).st = .quiet → (s.ch n).loop.fading = .none → t0 ≤ s.now →
        ChState.ofCode (s.ch n).twin.partnerState.toNat = .off →
        (s.rejoinTick n).swp.rejoin[n] = .enable (s.now + 192) ∧
        (s.rejoinTick n).swp.outQ = (s.sends (cmdEntry 0x01 ChState.rampUp.code 0 0 (bitOf n))).swp.outQ)) ∧
    (∀ (n : Chan) (t0 : Nat), s.swp.rejoin[n] = .out t0 → (s.ch n).st = .off → t0 ≤ s.now →
      (s.rejoinTick n).swp.rejoin[n] = .none) ∧
    (∀ n : Chan, s.used n = true → (s.ch n).st = .rampUp → (s.ch n).loop.uvResume = true →
      (s.ch n).twin.uvRampDone = true → (s.ch n).loop.runPlay = false → 1920 ≤ (s.ch n).twin.uvWait → (s.ch n).loop.resume = .quiet → Gives (.uvSoloReturn n) s fun t =>
        (t.ch n).st = .quiet ∧ (t.ch n).loop.uvResume = false ∧ (t.ch n).twin.uvRampDone = false ∧
        t.swp = { s.swp with lead := setMask s.swp.lead n true, solo := setMask s.swp.solo n true } ∧
        (∀ j, j ≠ n → t.ch j = s.ch j) ∧ Raises s t [Ev.twinSolo] [Ev.identificationResult] ∧
        Tells t (Ev.twinSolo, n.val, 0) ∧ Journals s t)

/-! ## The Lenex link -/

/-- A downstream frame (R267 to R271, R276): a CRC failure breaks the runs and counts; a format or authentication
failure counts, is reported and marks the window, the sixteenth mark distrusts the port; a stale frame counts and
breaks the READY run without a rejection. Nothing outside the port changes, but that the sixteenth mark ends the
session, with what hangs on it, and may trigger a switch.
Model's choices behind some of its clauses: assumptions 54 and 56. -/
def Obligations.BadFramesAreCountedAndDiscarded : Prop :=
  ∀ (s : State) (p : Port) (f : RawFrame), s.dev.held = .running → (s.port p).lane ≠ .down →
    let l := s.port p
    let d := parseDown f.bytes
    (crcOk f.bytes = false → Gives (.lenexFrame p f) s fun t =>
      (t.port p).errCrc = satInc l.errCrc ∧ (t.port p).accRun = 0 ∧ (t.port p).crcRun = 0 ∧
      (t.port p).newest = l.newest ∧ (t.port p).rejWin = l.rejWin ∧
      Raises s t [Ev.ofPort p Ev.frameCrc] [] ∧ t.silent = (s.setPort p (t.port p)).silent ∧ t.jrn = s.jrn) ∧
    (∀ (ev : Nat) (fmt : Bool), crcOk f.bytes = true →
      ((ev = Ev.frameFormat ∧ fmt = true ∧ formatOk f d = false) ∨
       (ev = Ev.frameAuth ∧ fmt = false ∧ formatOk f d = true ∧ { l with crcRun := l.crcRun + 1 }.auth d = .fails)) →
      (((true :: l.rejWin).take 1024).filter id).length < 16 → Gives (.lenexFrame p f) s fun t =>
        (t.port p).errFormat = (if fmt then satInc l.errFormat else l.errFormat) ∧
        (t.port p).errAuth = (if fmt then l.errAuth else satInc l.errAuth) ∧
        (t.port p).accRun = 0 ∧ (t.port p).crcRun = l.crcRun + 1 ∧ (t.port p).newest = l.newest ∧
        (t.port p).rejWin = (true :: l.rejWin).take 1024 ∧ Raises s t [Ev.ofPort p ev] [] ∧
        t.silent = (s.setPort p (t.port p)).silent ∧ t.jrn = s.jrn) ∧
    (∀ (ev : Nat) (fmt : Bool), crcOk f.bytes = true →
      ((ev = Ev.frameFormat ∧ fmt = true ∧ formatOk f d = false) ∨
       (ev = Ev.frameAuth ∧ fmt = false ∧ formatOk f d = true ∧ { l with crcRun := l.crcRun + 1 }.auth d = .fails)) →
      16 ≤ (((true :: l.rejWin).take 1024).filter id).length → Gives (.lenexFrame p f) s fun t =>
        (t.port p).errFormat = (if fmt then satInc l.errFormat else l.errFormat) ∧
        (t.port p).errAuth = (if fmt then l.errAuth else satInc l.errAuth) ∧ (t.port p).newest = l.newest ∧
        (t.port p).untrusted = l.pendSess.isNone ∧ (t.port p).rejWin = [] ∧ (t.port p).pendSess = none ∧
        (t.port p).session.map (fun x => (x.num, x.key)) = l.pendSess.map (fun x => (x.num, x.key)) ∧
        Raises s t [Ev.ofPort p ev, Ev.ofPort p Ev.portUntrusted]
          [Ev.sessionEnded, Ev.sessionEstablished, Ev.buildRefused] ∧ Journals s t ∧
        t.silent = { (s.setPort p (t.port p)).silent with link := t.link, ldr := t.ldr, bld := t.bld } ∧
        t.bld.build = s.bld.build) ∧
    (crcOk f.bytes = true → formatOk f d = true → { l with crcRun := l.crcRun + 1 }.auth d = .current →
      (s.setPort p { l with crcRun := l.crcRun + 1 }).stale p d.frame = true →
      Gives (.lenexFrame p f) s fun t =>
        (t.port p).errStale = satInc l.errStale ∧ (t.port p).accRun = 0 ∧ (t.port p).newest = l.newest ∧
        (t.port p).rejWin = (false :: l.rejWin).take 1024 ∧ t.evt = s.evt ∧ t.jrn = s.jrn ∧
        t.silent = (s.setPort p (t.port p)).silent)

/-- An accepted frame of a session on a port that does not play (R269, R272, R279): the port takes its counter, rate,
stream count and samples, the run towards READY grows, the arrival joins those that the difference of the ports is taken from
(R80), and no other block changes but READY's own consequences.
A frame admitted without a session updates the newest counter and runs its request, and is never accepted (R269,
R270): samples, tracker and the READY run stay.
Model's choices behind some of its clauses: assumptions 7, 36, 54 and 69. -/
def Obligations.AcceptedAndAdmittedFrames : Prop :=
  (∀ (s : State) (p : Port) (f : RawFrame) (x : Session), s.dev.held = .running → (s.port p).lane ≠ .down →
    let l := s.port p
    let d := parseDown f.bytes
    crcOk f.bytes = true → formatOk f d = true → l.session = some x →
    (d.session = x.num ∧ d.tag = frameTag x 0 (x.wrapFor d.frame) d.frame d.aad) →
    (∀ n, l.newest = some n → 0 < (d.frame - n).toInt) → s.link.active ≠ some p → d.req.op = 0 → d.bulkLen = 0 →
    x.frames + 1 ≠ 2 ^ 31 →
    Gives (.lenexFrame p f) s fun t =>
      (t.port p).newest = some d.frame ∧ (t.port p).frame = d.frame ∧ (t.port p).rate = BitVec.ofNat 3 d.rate ∧
      (t.port p).streams = d.streams ∧ (t.port p).accRun = l.accRun + 1 ∧
      (t.port p).shadow = ((d.frame, d.samples) :: l.shadow).take 8 ∧
      (∃ y, (t.port p).session = some y ∧ y.newest = some d.frame ∧ y.frames = x.frames + 1 ∧ y.key = x.key ∧ y.num = x.num) ∧
      (t.port p).errStale = l.errStale ∧ t.stm = s.stm ∧ t.chans = s.chans ∧ t.mtb = s.mtb ∧
      (t.port p).stamps = ((d.frame, 1024 * s.now + f.stamp.val) :: l.stamps).take 64 ∧
      t.silent = { (s.setPort p (t.port p)).silent with link := t.link } ∧
      t.link = { s.link with
        arrSum := t.link.arrSum, arrCount := t.link.arrCount, inputLost := t.link.inputLost,
        pendSwitch := t.link.pendSwitch } ∧ t.evt = s.evt ∧ t.jrn = s.jrn) ∧
  (∀ (s : State) (p : Port) (f : RawFrame), s.dev.held = .running → (s.port p).lane ≠ .down →
    crcOk f.bytes = true → formatOk f (parseDown f.bytes) = true → (s.port p).session = none →
    (∀ n, (s.port p).newest = some n → 0 < ((parseDown f.bytes).frame - n).toInt) →
    (s.link.active = some p → s.stm.unread (parseDown f.bytes).frame = true) →
    exec (.lenexFrame p f) s = .next (s.standbyAfter (((s.modPort p fun l =>
      { ({ l with crcRun := l.crcRun + 1 } : LinkPort).count false with
        newest := some (parseDown f.bytes).frame, accRun := 0 }).mbSlice p (parseDown f.bytes).req).sendUp p)))

/-- The lane (R264, R265, R278, R289): carrier makes a lane that is DOWN LOCKING; clock recovery turns the transmitter
on; 64 good frames lock it;
a loss of lock or of the carrier takes it down, empties the port's queues, ends its readouts, is reported, and
triggers a switch away from an active port with AUTO set: at once where the other port is READY, else pending.
A reset of a port (R265, R290) clears its lane, session, exchange, rejection window and mailbox, keeps its error
counters and AUTO, and leaves the other port alone.
Model's choices behind some of its clauses: assumptions 25 and 53. -/
def Obligations.LanesFallAndPortsReset : Prop :=
  (∀ (s : State) (p : Port),
    let l := s.port p
    let away (cause : BitVec 3) : Link :=
      if s.link.active = some p ∧ l.auto = true then
        (if (s.port p.other).isReady then { s.link with dueSwitch := some cause }
         else { s.link with pendSwitch := some cause })
      else s.link
    (s.dev.held = .running → l.lane ≠ .locked → s.dev.gone.contains (.link p) = false → Does (.clockRecoveryLock p) s
      (s.modPort p fun l => { l with lane := .locking, carrier := true, txOn := true, crcRun := 0 }) [] []) ∧
    (∀ on : BitVec 2, (l.carrier = true ∨ (on.getLsbD p.num = true ∧ s.dev.gone.contains (.link p) = false)) →
      ((s.carriers on).port p).carrier = true ∧
        ((s.carriers on).port p).lane = if l.lane = .down then .locking else l.lane) ∧
    (l.lane = .locking → 64 ≤ l.crcRun → Gives (.laneLocked p) s fun t =>
      (t.port p).hush = { l.hush with lane := .locked } ∧ (t.port p.other).hush = (s.port p.other).hush ∧
      t.silent = { (s.setPort p (t.port p)).silent with mtb := t.mtb, link := t.link } ∧
      t.link = { s.link with inputLost := t.link.inputLost, pendSwitch := t.link.pendSwitch } ∧
      Raises s t [] [Ev.referenceLost] ∧ t.jrn = s.jrn) ∧
    (l.carrier = true → Gives (.carrierLoss p) s fun t =>
      (t.port p).hush = { (l.fall .down).hush with carrier := false, txOn := false } ∧
      (t.port p).session = l.session ∧ (t.port p).rptQ = [] ∧ (t.port p).jrnRead = none ∧ (t.port p).trcRead = none ∧
      t.link = away 0b001 ∧ Raises s t [Ev.ofPort p Ev.carrierLost] [Ev.referenceLost] ∧ t.jrn = s.jrn ∧
      t.silent = { (s.setPort p (t.port p)).silent with mtb := t.mtb, link := t.link }) ∧
    (l.lane = .locked → Gives (.lockLoss p) s fun t =>
      (t.port p).hush = (l.fall .locking).hush ∧ (t.port p).session = l.session ∧
      t.link = away 0b010 ∧ Raises s t [Ev.ofPort p Ev.lockLost] [Ev.referenceLost] ∧ t.jrn = s.jrn ∧
      t.silent = { (s.setPort p (t.port p)).silent with mtb := t.mtb, link := t.link }) ∧
    (l.lane = .locking → Does (.lockLoss p) s (s.modPort p fun l => { l with crcRun := 0 }) [] []) ∧
    (l.lane = .down → exec (.lockLoss p) s = .next s)) ∧
  (∀ (s : State) (m : Master) (p : Port), mayWrite m = true → Gives (.lnkReset m p) s fun t =>
    (t.port p).lane = .down ∧ (t.port p).txOn = false ∧ (t.port p).session = none ∧ (t.port p).pendSess = none ∧
    (t.port p).counter = 0 ∧ (t.port p).untrusted = false ∧ (t.port p).rejWin = [] ∧ (t.port p).mbValid = false ∧
    (t.port p).mbSeq = 0 ∧ (t.port p).resp = .reset ∧ (t.port p).ex = Exchange.reset ∧ (t.port p).rptQ = [] ∧ (t.port p).jrnRead = none ∧
    (t.port p).auto = (s.port p).auto ∧ (t.port p).errCrc = (s.port p).errCrc ∧ (t.port p).errAuth = (s.port p).errAuth ∧
    (t.port p).errFormat = (s.port p).errFormat ∧ (t.port p).errStale = (s.port p).errStale ∧
    (t.port p).switchCount = (s.port p).switchCount ∧ (t.port p.other).hush = (s.port p.other).hush ∧
    t.chans = s.chans ∧ t.dev = s.dev ∧ t.fuse = s.fuse ∧ Journals s t ∧
    Raises s t [] [Ev.sessionEnded, Ev.buildRefused, Ev.referenceLost, Ev.burstCut] ∧
    t.silent = { (s.setPort p (t.port p)).silent with
      link := t.link, ldr := t.ldr, bld := t.bld, mtb := t.mtb, pace := t.pace, fresh := t.fresh } ∧
    (m = p.master → t.pace = s.pace ∧ t.fresh = s.fresh))

/-- The active port (R277 to R281): the first READY port becomes active, port A first; a TAKE on a READY port waits for
the boundary and is refused elsewhere; a boundary with a TAKE or a trigger switches to the other port; 1 s without
an accepted frame loses the input and takes playing channels to QUIET.
Model's choices behind some of its clauses: assumption 53. -/
def Obligations.PortsAreChosen : Prop :=
  ∀ (s : State) (p : Port),
    (s.link.active = none → (s.port p).isReady = true → (p = .a ∨ (s.port .a).isReady = false) → s.swp.joined = false →
      s.dev.held = .running → Gives (.portFirstActivation p) s fun t =>
        t.link = { s.link with
          active := some p, pendSwitch := none, dueSwitch := none, pendTake := none, silent := 0, inputLost := false,
          arrOffset := 0 } ∧
        t.stm.wide = true ∧ t.stm.placed = false ∧ Raises s t [Ev.synchronisingReset] [Ev.referenceLost] ∧ Journals s t ∧
        t.dev = s.dev ∧ t.fuse = s.fuse ∧ t.bld = s.bld ∧ (t.port p).hush = (s.port p).hush) ∧
    (∀ m : Master, mayWrite m = true →
      let v : Byte := BitVec.ofNat 8 (1 + (if (s.port p).auto then 4 else 0))
      ((s.port p).isReady = true → s.link.active ≠ some p → Does (.take m p) s
        { s with link := { s.link with pendTake := some p } } [] [s.writeEntry m (4 + p.num) 0x04 [v] 0 0]) ∧
      ((s.port p).isReady = true → s.link.active = some p → Does (.take m p) s s []
        [s.writeEntry m (4 + p.num) 0x04 [v] 0 0]) ∧
      ((s.port p).isReady = false → Does (.take m p) s s [(Ev.ofPort p Ev.portTakeRefused, 0xFF, 0)]
        [s.entry m.num 0x09 1 5 p.num (linkData 5 (match s.link.active with
          | some q => portByte q
          | none => noPort) (portByte p) 0)])) ∧
    (∀ q : Port, s.link.active = some p →
      ((s.link.pendTake = some q ∧ q ≠ p) ∨
       (s.link.pendTake = none ∧ s.link.dueSwitch.isSome = true ∧ q = p.other ∧ (s.port q).isReady = true) ∨
       (s.link.pendTake = none ∧ s.link.dueSwitch = none ∧ s.link.pendSwitch.isSome = true ∧ q = p.other ∧
        (s.port p).isReady = false ∧ (s.port q).isReady = true)) → Gives .portSwitch s fun t =>
      let cause : BitVec 3 := if s.link.pendTake.isSome then 5 else (s.link.dueSwitch <|> s.link.pendSwitch).getD 0
      t.link.active = some q ∧ t.link.pendSwitch = none ∧ t.link.dueSwitch = none ∧
      ((s.port q).rate = s.mtb.rate → t.link.arrOffset = s.link.removed q) ∧ t.link.pendTake = none ∧ t.link.silent = 0 ∧
      (t.port p).lastCause = cause ∧ (t.port p).missing = 0 ∧ (t.port q).switchCount = satInc (s.port q).switchCount ∧
      (t.port q).session = (s.port q).session ∧ t.dev = s.dev ∧
      Raises s t [Ev.portSwitch] [Ev.buildRefused, Ev.referenceLost, Ev.synchronisingReset] ∧ Journals s t) ∧
    (s.link.active = some p → s.link.pendTake = none → s.link.dueSwitch = none → s.link.pendSwitch.isSome = true →
      (s.port p).isReady = true →
      Does .portSwitch s { s with link := { s.link with pendSwitch := none } } [] []) ∧
    (s.link.active = some p → 192000 ≤ s.link.silent → s.link.inputLost = false → (∀ n, s.joinedTwin n = false) →
      Gives .inputLost s fun t =>
        t.link = { s.link with inputLost := true } ∧ t.beyond = { s with link := t.link }.beyond ∧
        (∀ n, s.used n = true → (s.ch n).st.playing = true → (t.ch n).st = .quiet ∧ (t.ch n).loop.fading = .quiet) ∧
        (∀ n, (s.ch n).st.playing = false → t.ch n = s.ch n) ∧ Journals s t ∧
        Raises s t [Ev.inputLost] [Ev.identificationResult, Ev.channelCommandRefused])

/-! ## The mailbox and sessions -/

/-- A mailbox request runs once, when its SEQ is new (R283 to R285): the port's response carries its SEQ, operation and
status; without a session it answers NO_SESSION and reports it; a repeated SEQ changes nothing, and a port whose lane is
DOWN brings no request.
The operations inside a session (R284, R307, R349, R372): JOURNAL and TRACE start a readout that no other runs
beside, one whose next entry was overwritten being over, CANCEL ends it, ATTEST hands its nonce to the keeper or is
refused with the code that SEC_LAST shows; READ and WRITE act through the port's own master, and a WRITE
whose burst a reset cuts answers CUT; an accepted STANDBY follows the answer (R325).
Model's choices behind some of its clauses: assumption 55. -/
def Obligations.MailboxRequestsTakeEffectOnce : Prop :=
  (∀ (s : State) (p : Port) (seq : Byte) (c : Instr),
    ((∃ addr len, c = .mbRead p seq addr len) ∨ (∃ addr data, c = .mbWrite p seq addr data) ∨
      (∃ first count, c = .mbJournal p seq first count) ∨ (∃ data, c = .mbTrace p seq data) ∨
      (∃ data, c = .mbAttest p seq data) ∨ c = .mbCancel p seq) →
    ((s.port p).mbValid = true → (s.port p).mbSeq = seq → exec c s = .next s) ∧
    ((s.port p).lane = .down → exec c s = .next s) ∧
    (((s.port p).mbValid = false ∨ (s.port p).mbSeq ≠ seq) → (s.port p).lane ≠ .down → s.standbyHeld →
      (s.port p).session = none → Gives c s fun t =>
        (t.port p).mbValid = true ∧ (t.port p).mbSeq = seq ∧ (t.port p).resp.seq = seq ∧ (t.port p).resp.status = 4 ∧
        (t.port p).resp.data = [] ∧ Raises s t [Ev.ofPort p Ev.mailboxError] [] ∧
        Tells t (Ev.ofPort p Ev.mailboxError, 0xFF, 4) ∧ t.jrn = s.jrn ∧
        t.silent = { (s.setPort p (t.port p)).silent with fresh := s.fresh + 1 })) ∧
  (∀ (s : State) (p : Port) (seq : Byte) (x : Session),
    ((s.port p).mbValid = false ∨ (s.port p).mbSeq ≠ seq) → (s.port p).session = some x → (s.port p).lane ≠ .down →
    s.standbyHeld →
    let l := s.port p
    (∀ (first : BitVec 64) (count : BitVec 32), (l.dropStale s.jrn).readout = false → s.jrn.failed = false →
      let start := max first.toNat s.jrn.oldest.toNat
      let n := min count.toNat (s.jrn.next.toNat - start)
      Gives (.mbJournal p seq first count) s fun t =>
        (t.port p).jrnRead = (if n = 0 then none else some (start, start + n)) ∧
        (t.port p).resp = { seq := seq, op := 4, len := 8, status := 0, addr := 0, arg := BitVec.ofNat 32 n,
                            data := leBytes 8 start } ∧
        t.silent = { (s.setPort p { l with
          jrnRead := (t.port p).jrnRead, mbValid := true, mbSeq := seq, resp := (t.port p).resp }).silent with
          fresh := s.fresh + 1 } ∧ t.evt = s.evt ∧ t.jrn = s.jrn) ∧
    (∀ data : List Byte, data.length ≤ 52 → l.readout = false → Gives (.mbTrace p seq data) s fun t =>
      (t.port p).resp.status = 0 ∧ (t.port p).resp.arg = (s.traceReq p (slice data 0 data.length)).2 ∧
      (t.port p).trcRead = ((s.traceReq p (slice data 0 data.length)).1.port p).trcRead ∧
      (t.port p).mbSeq = seq ∧ t.evt = s.evt ∧ t.jrn = s.jrn ∧
      t.silent = { (s.setPort p (t.port p)).silent with fresh := s.fresh + 1 }) ∧
    (∀ (c : Instr), ((∃ first count, c = .mbJournal p seq first count) ∨ (∃ data : List Byte, data.length ≤ 52 ∧ c = .mbTrace p seq data)) →
      (l.dropStale s.jrn).readout = true → Gives c s fun t =>
        (t.port p).resp.status = 5 ∧ (t.port p).jrnRead = l.jrnRead ∧ (t.port p).trcRead = l.trcRead ∧
        Raises s t [Ev.ofPort p Ev.mailboxError] [] ∧ t.jrn = s.jrn) ∧
    (∀ data : List Byte, data.length ≤ 52 → s.keeper.ok = true → s.jrn.failed = false → l.attest = none → l.attestQ = [] →
      Gives (.mbAttest p seq data) s fun t =>
        (t.port p).attest = some (BitVec.ofNat 256 (beNat (slice (slice data 0 data.length) 0 32))) ∧
        (t.port p).resp.status = 0 ∧ (t.port p).resp.arg = 0 ∧ t.evt = s.evt ∧ t.jrn = s.jrn ∧
        t.keeper = { s.keeper with lastCode := 0, lastSource := BitVec.ofNat 8 p.master.num } ∧
        t.silent = { (s.setPort p (t.port p)).silent with fresh := s.fresh + 1, keeper := t.keeper }) ∧
    (∀ (data : List Byte) (code : Nat), data.length ≤ 52 →
      ((s.keeper.ok = false ∧ code = secKeeper) ∨ (s.keeper.ok = true ∧ s.jrn.failed = true ∧ code = secJournal) ∨
       (s.keeper.ok = true ∧ s.jrn.failed = false ∧ (l.attest ≠ none ∨ l.attestQ ≠ []) ∧ code = secBusy)) →
      Gives (.mbAttest p seq data) s fun t =>
        (t.port p).attest = l.attest ∧ (t.port p).attestQ = l.attestQ ∧ (t.port p).resp.status = 0 ∧
        (t.port p).resp.arg = BitVec.ofNat 32 code ∧ t.keeper.lastCode = BitVec.ofNat 8 code ∧ t.jrn = s.jrn ∧
        Raises s t (if s.keeper.ok then [] else [Ev.securityRefused]) [] ∧
        t.silent = { (s.setPort p (t.port p)).silent with fresh := s.fresh + 1, keeper := t.keeper }) ∧
    (Gives (.mbCancel p seq) s fun t =>
      (t.port p).jrnRead = none ∧ (t.port p).trcRead = none ∧ (t.port p).resp.status = 0 ∧ t.evt = s.evt ∧ t.jrn = s.jrn ∧
      t.silent = { (s.setPort p (t.port p)).silent with fresh := s.fresh + 1 }) ∧
    (∀ (addr : BitVec 32) (len : Byte), 1 ≤ len.toNat → len.toNat ≤ 52 →
      (∀ i, i < len.toNat → canRead p.master (targetOf (addr.toNat + i)) = true) → Gives (.mbRead p seq addr len) s fun t =>
        (t.port p).resp.status = 0 ∧ (t.port p).resp.seq = seq ∧ (t.port p).resp.addr = addr ∧
        (t.port p).resp.data = (List.range len.toNat).map (fun i => s.readByte p.master (addr.toNat + i)) ∧
        t.evt = s.evt ∧ t.jrn = s.jrn ∧ t.silent = { (s.setPort p (t.port p)).silent with fresh := t.fresh, flx := t.flx }) ∧
    (∀ (addr : BitVec 32) (data : List Byte), 1 ≤ data.length → data.length ≤ 52 →
      let w := s.busWrite p.master addr.toNat (slice data 0 data.length)
      (w.2.2 = true ∨ w.2.1 = false) →
      (w.1.dev.state = .standby → w.1.dev.held = .running → Gives (.mbWrite p seq addr data) s fun t =>
        t.dev.held = .standby ∧ t.dev.state = .standby) ∧
      (w.1.standbyHeld → Gives (.mbWrite p seq addr data) s fun t =>
        (t.port p).resp.status = (if w.2.2 then 6 else 0) ∧ (t.port p).mbSeq = seq ∧ (t.port p).resp.seq = seq ∧ (t.port p).resp.addr = addr ∧ t.evt = w.1.evt ∧
        t.jrn = w.1.jrn ∧ t.silent = { (w.1.setPort p (t.port p)).silent with fresh := w.1.fresh + 1 })))

/-- Session messages (R302 to R306) on a device whose keeper runs: START opens an exchange with fresh values and drops a
pending session; READ gives a fragment of the response, STATUS the exchange's result, OFFER stores a fragment and the
last one starts the verification; END ends the session and any pending one.
Model's choices behind some of its clauses: assumptions 5 and 56. -/
def Obligations.SessionMessagesDriveTheExchange : Prop :=
  ∀ (s : State) (p : Port) (seq : Byte), ((s.port p).mbValid = false ∨ (s.port p).mbSeq ≠ seq) → (s.port p).lane ≠ .down →
    s.standbyHeld → s.keeper.ok = true → s.keeper.failed = false →
    let l := s.port p
    (s.keeper.rngFail = false → Gives (.sessionStart p seq) s fun t =>
      (t.port p).ex.phase = .startPending ∧ (t.port p).pendSess = none ∧ (t.port p).session = l.session ∧
      (t.port p).ex.frags = [] ∧ (t.port p).resp.arg = 0x0B ∧ (t.port p).resp.status = 0 ∧ t.evt = s.evt ∧ t.jrn = s.jrn ∧
      t.silent = { (s.setPort p (t.port p)).silent with fresh := s.fresh + 3 }) ∧
    (∀ (idx cnt : Byte) (data : List Byte), l.ex.phase = .startReady → idx.toNat < cnt.toNat → data.length ≤ 52 →
      52 * idx.toNat + data.length ≤ 1024 → (l.ex.cnt = 0 ∨ l.ex.cnt = cnt.toNat) → Gives (.sessionOffer p seq idx cnt data) s fun t =>
        (t.port p).ex.cnt = cnt.toNat ∧ (t.port p).resp.status = 0 ∧
        (t.port p).ex.frags = (l.ex.frags.filter fun g => g.1 != idx.toNat) ++ [(idx.toNat, slice data 0 data.length)] ∧
        ((t.port p).ex.phase = if idx.toNat + 1 = cnt.toNat then .verifying else .startReady) ∧
        ((t.port p).resp.arg = if idx.toNat + 1 = cnt.toNat then 0x0B else 0) ∧ (t.port p).session = l.session ∧
        t.silent = { (s.setPort p (t.port p)).silent with fresh := s.fresh + 1 } ∧ t.evt = s.evt ∧ t.jrn = s.jrn) ∧
    (∀ idx : Byte, l.ex.response ≠ [] → idx.toNat < 5 → Gives (.sessionRead p seq idx) s fun t =>
      (t.port p).resp.data = (l.ex.response.drop (52 * idx.toNat)).take 52 ∧ (t.port p).resp.arg = 0x0500 ∧
      (t.port p).ex = l.ex ∧ t.silent = { (s.setPort p (t.port p)).silent with fresh := s.fresh + 1 } ∧
      t.evt = s.evt ∧ t.jrn = s.jrn) ∧
    (l.ex.phase = .done → l.ex.code = 0 → Gives (.sessionStatus p seq) s fun t =>
      (t.port p).resp.arg = BitVec.ofNat 32 (65536 * l.ex.num.toNat) ∧
      (t.port p).resp.data = beBytes 16 l.ex.confirm.toNat ∧
      (t.port p).ex = l.ex ∧ t.silent = { (s.setPort p (t.port p)).silent with fresh := s.fresh + 1 } ∧ t.evt = s.evt ∧ t.jrn = s.jrn) ∧
    (∀ x : Session, l.session = some x → Gives (.sessionEnd p seq) s fun t =>
      (t.port p).session = none ∧ (t.port p).pendSess = none ∧ (t.port p).ex = Exchange.reset ∧ (t.port p).accRun = 0 ∧
      (t.port p).rptQ = [] ∧ (t.port p).resp.status = 0 ∧ (t.port p.other).hush = (s.port p.other).hush ∧
      Raises s t [Ev.sessionEnded] [Ev.buildRefused] ∧ Journals s t ∧ t.chans = s.chans ∧ t.dev = s.dev)

/-- The keeper's part of an exchange (R302 to R307): it forms the START response; a verified OFFER makes a session, in
force at once on a port that has none and pending beside one; a failed check is refused and keeps the session; a
pending session lapses, or the first frame that carries its number and tag brings it into force in place of the older
one, whose queues and readouts end; 2^32 frames end a session; the signed report joins the record queue, unless the
keeper has failed.
Model's choices behind some of its clauses: assumptions 5 and 56. -/
def Obligations.SessionsComeIntoForceAndEnd : Prop :=
  ∀ (s : State) (p : Port),
    let l := s.port p
    (l.ex.phase = .startPending → s.keeper.ok = true → Does (.sessionStartReady p) s
      (s.modPort p fun l => { l with ex := { l.ex with phase := .startReady, response := startResponse p l.ex, code := 0 } }) [] []) ∧
    (l.ex.phase = .verifying → s.keeper.ok = true →
     match checkOffer s.fuse s.rbCounter p l.ex with
     | .ok leaf =>
      let y := newSession p l.ex leaf (nextSigma l.counter)
      Gives (.sessionVerifyComplete p) s fun t =>
        (t.port p).counter = nextSigma l.counter ∧ (t.port p).ex.phase = .done ∧ (t.port p).ex.code = 0 ∧
        (t.port p).ex.num = y.num ∧ (t.port p).ex.confirm = y.confirm ∧ t.keeper.lastCode = 0 ∧
        (l.session = none → (t.port p).session = some y ∧ (t.port p).pendSess = none ∧ (t.port p).untrusted = false ∧
          Raises s t [Ev.sessionEstablished] [] ∧ Tells t (Ev.sessionEstablished, p.num, 0)) ∧
        (l.session ≠ none → (t.port p).session = l.session ∧ (t.port p).pendSess = some y ∧ t.evt = s.evt ∧ t.jrn = s.jrn) ∧
        t.silent = { (s.setPort p (t.port p)).silent with keeper := t.keeper } ∧ Journals s t
     | .error code => code < 32 → Does (.sessionVerifyComplete p) s
        ({ s with keeper := { s.keeper with lastCode := BitVec.ofNat 8 code, lastSource := BitVec.ofNat 8 p.master.num } }.modPort p
          fun l => { l with ex := { l.ex with phase := .done, code := BitVec.ofNat 8 code, dD := 0 } })
        [(Ev.securityRefused, 0xFF, code)]
        [s.entry p.master.num 0x0A 1 code 0xFF (secData (portCode p) l.sigma s.rbCounter) (some 0)]) ∧
    Does (.sessionLapse p) s (s.modPort p fun l => { l with pendSess := none }) [] [] ∧
    (∀ x : Session, l.session = some x → 4294967296 ≤ x.frames → Gives (.sessionFrameLimit p) s fun t =>
      (t.port p).session = l.pendSess ∧ (t.port p).pendSess = none ∧
      Raises s t [Ev.sessionEnded] [Ev.sessionEstablished, Ev.buildRefused] ∧ Tells t (Ev.sessionEnded, p.num, 7) ∧
      Journals s t ∧ (t.port p.other).hush = (s.port p.other).hush ∧ t.chans = s.chans ∧ t.dev = s.dev) ∧
    (∀ (f : RawFrame) (x y : Session), s.dev.held = .running → l.lane ≠ .down →
      let d := parseDown f.bytes
      crcOk f.bytes = true → formatOk f d = true → l.session = some x →
      { l with crcRun := l.crcRun + 1 }.auth d = .cutover y → (∀ n, l.newest = some n → 0 < (d.frame - n).toInt) →
      s.link.active ≠ some p → d.req.op = 0 → d.bulkLen = 0 → Gives (.lenexFrame p f) s fun t =>
        (∃ z, (t.port p).session = some z ∧ z.num = y.num ∧ z.key = y.key ∧ z.newest = some d.frame) ∧
        (t.port p).pendSess = none ∧ (t.port p).rptQ = [] ∧ (t.port p).jrnRead = none ∧ (t.port p).trcRead = none ∧
        (t.port p).attest = none ∧ t.stm = s.stm ∧ t.chans = s.chans ∧ t.ldr = s.ldr ∧
        Raises s t [Ev.sessionEstablished] [Ev.sessionAge] ∧ Tells t (Ev.sessionEstablished, p.num, 0) ∧ Journals s t) ∧
    (∀ n : BitVec 256, l.attest = some n → s.keeper.failed = true → Gives (.attestReportReady p) s fun t =>
      (t.port p).attest = none ∧ (t.port p).attestQ = l.attestQ ∧ t.keeper.lastCode = 9 ∧
      Raises s t [Ev.securityRefused] [] ∧ t.jrn = s.jrn) ∧
    (∀ n : BitVec 256, l.attest = some n → s.keeper.failed = false → Does (.attestReportReady p) s
      (s.modPort p fun l => { l with attest := none, attestQ := [s.attestBody p n ++
        beBytes 96 (Config.ecdsaSign (idScalar "FL64 ID SIGN") (Config.sha384 (s.attestBody p n))).toNat] }) [] [])

/-! ## Security and trust -/

/-- The boot (R291 to R293, R334, R343): a complete boot leads to UNBUILT with the firmware in working RAM, the keeper
ready and REMAP set, and journals the keeper, the cause of the boot and the new state; a failed one halts with cause BOOT and the step that failed, the firmware copied once step 3 is done, and journals the failure and the HALT; later failures of the keeper and of the DRBG are latched once.
Model's choices behind some of its clauses: assumptions 10, 45, 49 and 59. -/
def Obligations.BootEndsInUnbuiltOrHalt : Prop :=
  ∀ s : State,
    (s.dev.held = .running → s.dev.state = .boot →
      (Gives (.bootComplete .ok) s fun t =>
        t.dev = { s.dev with state := .unbuilt } ∧ t.keeper.ok = true ∧ t.keeper.step = 7 ∧ t.mx.remap = true ∧
        t.ram = Mem.writes s.ram 0 Config.firmware ∧ t.mx.park = s.mx.park ∧
        Raises s t [Ev.keeperReady] [] ∧ Tells t (Ev.keeperReady, 0xFF, 0) ∧
        (∃ j : Journal, j.startedFrom s.jrn true ∧ t.jrn = j.pushes
          [s.entry 0 0x0F 0 0 0xFF [0, s.fuse.life.setWidth 8] (some (first16 Config.fwDigest)),
           s.entry 0x14 0x0B 0 0 0xFF (s.supplyData 0), s.devEntry 0 .boot .unbuilt s.dev.haltCause 0 0]) ∧
        t.silent = { s.silent with dev := t.dev, keeper := t.keeper, mx := t.mx, ram := t.ram, fresh := t.fresh }) ∧
      (∀ (r : BootResult) (step fail : Nat),
        ((r = .fuse ∧ step = 1 ∧ fail = 1) ∨ (r = .selftest ∧ step = 2 ∧ fail = 2) ∨ (r = .firmware ∧ step = 3 ∧ fail = 3) ∨
         (r = .identity ∧ step = 5 ∧ fail = 4)) → Gives (.bootComplete r) s fun t =>
          t.dev.state = .halt ∧ t.dev.haltCause = .boot ∧ t.keeper.step = BitVec.ofNat 3 step ∧
          t.keeper.fail = BitVec.ofNat 8 fail ∧ t.keeper.ok = s.keeper.ok ∧ t.mx.remap = decide (5 ≤ step) ∧
          t.ram = (if 3 ≤ step then Mem.writes s.ram 0 Config.firmware else s.ram) ∧
          Raises s t [Ev.bootFailed, Ev.halt] [Ev.identificationResult, Ev.buildRefused] ∧ t.fuse = s.fuse ∧
          (∃ (j : Journal) (es : List JEntry), j.startedFrom s.jrn (decide (3 ≤ step)) ∧ t.jrn = j.pushes
            (s.entry 0 0x0F 1 fail 0xFF [BitVec.ofNat 8 fail, s.fuse.life.setWidth 8] (some (first16 Config.fwDigest)) ::
              es ++ [s.devEntry 0 .boot .halt .boot HaltCause.boot.code (maskOf fun n => (s.ch n).st.live)])) ∧
          (∀ n, (s.ch n).st.live = true → (t.ch n).quietBridge))) ∧
    (s.keeper.ok = true → Does .keeperFailed s { s with keeper := { s.keeper with ok := false, failed := true } }
      [(Ev.keeperFailed, 0xFF, 0)] [s.entry 0x14 0x0A 0 secKeeper 0xFF (secData 0 0 s.rbCounter) (some 0)]) ∧
    (s.keeper.ok = true → s.keeper.rngFail = false → Does .drbgHealthFailure s
      { s with keeper := { s.keeper with rngFail := true } } [(Ev.rngFailed, 0xFF, 0)]
      [s.entry 0 0x0A 0 secRng 0xFF (secData 0 0 s.rbCounter) (some 0)])

/-- Enrollment (R298, R299): ENROLL_ARM opens a window on an unowned, unbuilt device and is refused with the code of the
first condition that fails; data fill the buffer up to 196 bytes; ENROLL_GO of the same master hands it to the check,
one of another master is out of sequence, and a wrong length ends the window;
a good key is burnt into owner slot 0, or slot 1 where slot 0 does not read back or VAUX left its range meanwhile, and ends with
code FUSE where neither does, nothing being programmed with VAUX out of its range; a keeper that has failed refuses both with code KEEPER (R293); the window can expire.
Model's choices behind some of its clauses: assumption 57. -/
def Obligations.EnrollmentBurnsTheOwnerKey : Prop :=
  ∀ (s : State) (m : Master), mayWrite m = true →
    s.enrollBad =
      (if s.keeper.failed then some 9
       else if s.fuse.life ≠ 0b01 ∨ s.dev.state ≠ .unbuilt ∨ s.vauxRange = false ∨ s.win.enrollOpen.isSome = true ∨
         s.win.enrollCheck.isSome = true ∨ s.keeper.ok = false then some 1
       else if s.keeper.rngFail then some 10 else none) ∧
    (s.enrollBad = none → Gives (.enrollArm m) s fun t =>
      t.win = { s.win with enrollOpen := some m, enrollBuf := [], overflow := false, nonce := t.win.nonce } ∧
      t.silent = { s.silent with win := t.win, fresh := s.fresh + 1 } ∧ t.evt = s.evt ∧
      t.jrn = s.jrn.pushes [s.writeEntry m 0x07 0x04 [0x01] 0 0]) ∧
    (∀ code, s.enrollBad = some code → Does (.enrollArm m) s
      { s with win := { s.win with enrollOpen := none },
               keeper := { s.keeper with lastCode := BitVec.ofNat 8 code, lastSource := BitVec.ofNat 8 m.num } }
      [(Ev.securityRefused, 0xFF, code)] [s.entry m.num 0x0A 1 code 0xFF (secData 0 0 s.rbCounter) (some 0)]) ∧
    (∀ d : BitVec 32,
      (s.win.enrollBuf.length + 4 ≤ 196 → Does (.enrollDataWrite m d) s
        { s with win := { s.win with enrollBuf := s.win.enrollBuf ++ leBytes 4 d.toNat } } [] []) ∧
      (196 < s.win.enrollBuf.length + 4 → Does (.enrollDataWrite m d) s { s with win := { s.win with overflow := true } } [] [])) ∧
    (s.keeper.failed = false → s.win.enrollOpen = some m → s.win.overflow = false → 196 ≤ s.win.enrollBuf.length →
      Does (.enrollGo m) s
        { s with win := { s.win with enrollOpen := none, enrollCheck := some (m, s.win.enrollBuf, s.win.nonce) } } []
        [s.writeEntry m 0x07 0x04 [0x02] 0 0]) ∧
    (s.keeper.failed = false → s.win.enrollOpen ≠ some m → Does (.enrollGo m) s
      { s with keeper := { s.keeper with lastCode := 2, lastSource := BitVec.ofNat 8 m.num } }
      [(Ev.securityRefused, 0xFF, 2)] [s.entry m.num 0x0A 1 2 0xFF (secData 0 0 s.rbCounter) (some 0)]) ∧
    (s.keeper.failed = false → s.win.enrollOpen = some m → (s.win.overflow = true ∨ s.win.enrollBuf.length < 196) →
      Does (.enrollGo m) s
        { s with
          win := { s.win with enrollOpen := none }
          keeper := { s.keeper with lastCode := 3, lastSource := BitVec.ofNat 8 m.num } }
        [(Ev.securityRefused, 0xFF, 3)] [s.entry m.num 0x0A 1 3 0xFF (secData 0 0 s.rbCounter) (some 0)]) ∧
    (s.keeper.failed = true → Does (.enrollGo m) s
      { s with
        win := { s.win with enrollOpen := none }
        keeper := { s.keeper with lastCode := 9, lastSource := BitVec.ofNat 8 m.num } }
      [(Ev.securityRefused, 0xFF, 9)] [s.entry m.num 0x0A 1 9 0xFF (secData 0 0 s.rbCounter) (some 0)]) ∧
    (∀ (o : Master) (buf : List Byte) (nonce : BitVec 256) (slot0 slot1 : Bool), s.keeper.failed = true →
      s.win.enrollCheck = some (o, buf, nonce) → Does (.enrollComplete slot0 slot1) s
        { s with win := { s.win with enrollCheck := none },
                 keeper := { s.keeper with vauxCut := false, lastCode := 9, lastSource := BitVec.ofNat 8 o.num } }
        [(Ev.securityRefused, 0xFF, 9)] [s.entry o.num 0x0A 1 9 0xFF (secData 0 0 s.rbCounter) (some 0)]) ∧
    (∀ (o : Master) (buf : List Byte) (nonce : BitVec 256) (slot0 slot1 : Bool), s.keeper.failed = false →
      s.win.enrollCheck = some (o, buf, nonce) →
      let begun := s.vauxRange || s.keeper.vauxCut
      let ok0 := slot0 && s.vauxRange && ! s.keeper.vauxCut
      let ok1 := slot1 && s.vauxRange
      match enrollVerdict buf nonce with
      | .ok h => ((ok0 || ok1) = false → Does (.enrollComplete slot0 slot1) s
        { s with win := { s.win with enrollCheck := none },
                 fuse := { s.fuse with
                   owner0 := if begun then { used := true, valid := false, hash := h } else s.fuse.owner0
                   owner1 := if s.vauxRange then { used := true, valid := false, hash := h } else s.fuse.owner1 }
                 keeper := { s.keeper with vauxCut := false, lastCode := 8, lastSource := BitVec.ofNat 8 o.num } }
        [(Ev.securityRefused, 0xFF, 8)] [s.entry o.num 0x0A 1 8 0xFF (secData 0 0 s.rbCounter) (some 0)]) ∧
       ((ok0 || ok1) = true → Gives (.enrollComplete slot0 slot1) s fun t =>
        t.fuse.owner0 = { used := true, valid := ok0, hash := h } ∧
        t.fuse.owner1 = (if ok0 then s.fuse.owner1 else { used := true, valid := ok1, hash := h }) ∧
        t.fuse.rb = s.fuse.rb ∧ t.fuse.dbg = s.fuse.dbg ∧ t.win = { s.win with enrollCheck := none } ∧
        t.keeper = { s.keeper with vauxCut := false, lastCode := 0, lastSource := BitVec.ofNat 8 o.num } ∧
        t.portA.session = none ∧ t.portB.session = none ∧ t.portA.pendSess = none ∧ t.portB.pendSess = none ∧
        t.chans = s.chans ∧ t.dev = s.dev ∧ Raises s t [Ev.enrolled] [Ev.sessionEnded, Ev.buildRefused] ∧ Tells t (Ev.enrolled, 0xFF, 0) ∧
        JournalsLast s t (s.entry 0 0x0A 0 0 0xFF (secData 0 0 s.rbCounter) (some (first16 h))))
      | .error code => Does (.enrollComplete slot0 slot1) s
        { s with win := { s.win with enrollCheck := none },
                 keeper := { s.keeper with
                   vauxCut := false, lastCode := BitVec.ofNat 8 code, lastSource := BitVec.ofNat 8 o.num } }
        [(Ev.securityRefused, 0xFF, code)] [s.entry o.num 0x0A 1 code 0xFF (secData 0 0 s.rbCounter) (some 0)]) ∧
    Does .enrollWindowExpiry s { s with win := { s.win with enrollOpen := none } } [] []

/-- DBG_LOCK (R308, R309): LOCK_ARM opens a window for a link master with a session, LOCK_GO of the same master closes the
debug paths at once, the test-access port among them, and is reported, and either is refused with the code of the first condition that fails; the bits that
blow, with VAUX in its range, are or-ed into the fuses, and fewer than three blown afterwards end with code FUSE for the
procedure's master; an owned
device enters test mode by giving up its sessions, its build and its state, but for BOOT and HALT, which it stays in.
Model's choices behind some of its clauses: assumption 57. -/
def Obligations.DebugLockAndTestMode : Prop :=
  ∀ (s : State) (m : Master), mayWrite m = true →
    (s.lockOk m = true ↔ (∃ p : Port, p.master = m ∧ (s.port p).session.isSome = true) ∧ s.vauxRange = true ∧
      s.ldr.phase = .idle ∧ s.keeper.fuseBusy = false ∧ s.keeper.lockBusy = false ∧ s.win.enrollCheck = none) ∧
    (s.keeper.failed = false → s.lockOk m = true →
      Does (.lockArm m) s { s with win := { s.win with lockOpen := some m } } [] [s.writeEntry m 0x07 0x04 [0x04] 0 0] ∧
      (s.win.lockOpen = some m → Does (.lockGo m) s
        { s with
          win := { s.win with lockOpen := none }
          keeper := { s.keeper with lockNow := true, lockBusy := true, lockBy := m }
          trc := { s.trc with pinBusy := false, pinRead := none, pinWait := 0, pinSent := 0, pinData := [], pinOut := 0 } }
        [(Ev.debugLocked, 0xFF, 0)]
        [s.writeEntry m 0x07 0x04 [0x08] 0 0, s.entry m.num 0x0A 0 0 0xFF (secData 0 0 s.rbCounter) (some 0)])) ∧
    (∀ (c : Instr) (code : Nat),
      (((c = .lockArm m ∨ c = .lockGo m) ∧
          ((s.keeper.failed = true ∧ code = 9) ∨ (s.keeper.failed = false ∧ s.lockOk m = false ∧ code = 1))) ∨
       (c = .lockGo m ∧ s.keeper.failed = false ∧ s.lockOk m = true ∧ s.win.lockOpen ≠ some m ∧ code = 2)) →
      Does c s
        { s with keeper := { s.keeper with lastCode := BitVec.ofNat 8 code, lastSource := BitVec.ofNat 8 m.num } }
        [(Ev.securityRefused, 0xFF, code)] [s.entry m.num 0x0A 1 code 0xFF (secData 0 0 s.rbCounter) (some 0)]) ∧
    Does .lockWindowExpiry s { s with win := { s.win with lockOpen := none } } [] [] ∧
    (s.dbgLock = true → s.tstTdo = none ∧ ∀ l, s.tapTick l = s) ∧
    (∀ blown : Fin 4, s.keeper.lockBusy = true →
      let bits : BitVec 3 := if (s.vauxRange || s.keeper.vauxCut) = true then BitVec.ofNat 3 (2 ^ blown.val - 1) else 0
      let dbg := s.fuse.dbg ||| bits
      Does (.dbgLockFuseComplete blown) s
        { s with
          fuse := { s.fuse with dbg := dbg }
          keeper := { s.keeper with
            lockBusy := false, vauxCut := false, lastSource := BitVec.ofNat 8 s.keeper.lockBy.num
            lastCode := if dbg = 7 then 0 else 8 } } [] []) ∧
    ((s.dbgLock = true ∨ s.fuse.life ≠ 0b10 ∨ s.dev.held ≠ .running) → exec .testModeEntry s = .next s) ∧
    (s.dbgLock = false → s.fuse.life = 0b10 → s.dev.held = .running → Gives .testModeEntry s fun t =>
      let stays := s.dev.state = .boot ∨ s.dev.state = .halt ∨ s.dev.state = .unbuilt
      let told := s.entry 0 0x0A 0 0 0xFF (secData 0 0 s.rbCounter) (some 0)
      (stays → t.dev = s.dev ∧ JournalsLast s t told) ∧
      (¬ stays → t.dev = { s.dev with state := .unbuilt, disarming := false } ∧
        ∃ es : List JEntry, t.jrn = s.jrn.pushes
          (es ++ [s.devEntry 0 s.dev.state .unbuilt s.dev.haltCause 0 (movedChans s t), told])) ∧
      (∀ n, s.used n = true → (t.ch n).st = .off ∨
        ((t.ch n).st = .tripped ∧ (s.ch n).keep.tripCause.toNat = causeEngine)) ∧ t.keeper = { s.keeper with testSeen := true } ∧
      t.portA.session = none ∧ t.portB.session = none ∧ t.portA.pendSess = none ∧ t.portB.pendSess = none ∧ t.bld.build = none ∧ t.ldr.phase = .idle ∧ t.trc.state = .idle ∧
      t.flx.injOn = false ∧ t.fuse = s.fuse ∧
      Raises s t [Ev.testMode] [Ev.sessionEnded, Ev.buildRefused, Ev.referenceLost, Ev.identificationResult, Ev.diagnosticClass] ∧
      Tells t (Ev.testMode, 0xFF, 0))

/-! ## Supplies, power states and resets -/

/-- Device commands (R322 to R325, Table 12-4): each moves the device from the states of its row, journals the write and
the change with the channels that it moves, and does to the channels what the row says; RUN asks for a whole service kernel
(R39); what the tick decides on the channels comes first (R127): a due patch and the decisions on what is captured before
the transition, those of the running tick by the channel's command waiting for its end (assumption 81); STANDBY is complete once its entry is
written and the head stored; none touches fuses, supplies or the matrix.
A device command outside its states is refused: REFUSE holds the code, an event and an entry say so, and nothing else
changes (R322, R323); a write of several bits is refused as a whole.
Model's choices behind some of its clauses: assumptions 46, 49 and 73. -/
def Obligations.DeviceCommandsMoveTheDevice : Prop :=
  (∀ (s : State) (m : Master), mayWrite m = true → s.swp.joined = false →
    let armed := s.dev.state = .armed ∨ s.dev.state = .run
    let told (bit : Byte) (new : DevState) (moved : BitVec 64) : List JEntry :=
      [s.writeEntry m 0x00 0x28 [bit] 0 0, s.devEntry m.num s.dev.state new s.dev.haltCause 0 moved]
    let moved (t : State) : BitVec 64 := maskOf fun n => (t.ch n).st != (s.ch n).st ||
      ((t.ch n).loop.devPlay && ! (s.ch n).loop.devPlay) || (t.ch n).loop.heldCmds != (s.ch n).loop.heldCmds
    let journals (t : State) (bit : Byte) (new : DevState) : Prop :=
      ∃ es, t.jrn = s.jrn.pushes (told bit new (moved t) ++ es) ∧ ((∀ n, (s.ch n).ident.running = false) → es = [])
    let waits (t : State) (n : Chan) (k : ChCmd) : Prop := t.ch n = { s.ch n with
      loop := { (s.ch n).loop with heldCmds := (s.ch n).loop.heldCmds ++ [{ host := none, cmd := k }] } }
    let u := s.settleAll
    let calm := u = s
    (∀ c : Instr,
      (c = .arm m ∧ s.dev.state = .built ∧ s.pwr.vioOk = true) ∨
      (c = .run m ∧ s.dev.state = .armed ∧ s.dev.disarming = false ∧ s.muted = false ∧ s.kernelWhole = true ∧ u.kernelWhole = true) ∨
      (c = .hold m ∧ s.dev.state = .run ∧ s.dev.disarming = false) ∨ (c = .disarm m ∧ armed) →
      u.settleAll = u → u.dev = s.dev → u.pwr = s.pwr → exec c s = exec c u) ∧
    (s.dev.state = .built → s.pwr.vioOk = true → s.dev.disarming = false → calm → Gives (.arm m) s fun t =>
      t.dev = { s.dev with state := .armed } ∧ t.beyond = { s with dev := t.dev }.beyond ∧
      (∀ n, s.used n = true → (s.ch n).st = .off → s.undecided n = false → s.twinEnable n = true → (t.ch n).st = .rampUp) ∧
      (∀ n, s.used n = true → (s.ch n).st = .off → s.undecided n = true → waits t n .enable) ∧
      (∀ n, (s.used n = false ∨ (s.ch n).st ≠ .off) → t.ch n = s.ch n) ∧
      journals t 0x01 .armed) ∧
    (s.dev.state = .armed → s.dev.disarming = false → s.muted = false → s.kernelWhole = true → calm → Gives (.run m) s fun t =>
      t.dev = { s.dev with state := .run } ∧ t.beyond = { s with dev := t.dev }.beyond ∧
      (∀ n, s.used n = true → (s.ch n).st = .quiet → (s.ch n).ident.running = false → (s.ch n).ident.fitPending = false →
        s.identDue n = false → s.blockGone n = false → s.mutedAt n = false → s.mismatchBars n = false →
        (s.ch n).loop.fading ≠ .quiet → (t.ch n).st.playing = true) ∧
      (∀ n, s.used n = true → (s.ch n).st = .rampUp ∨ ((s.ch n).st = .quiet ∧
          ((s.ch n).ident.running = true ∨ (s.ch n).ident.fitPending = true ∨ s.identDue n = true)) →
        t.ch n = { s.ch n with loop := { (s.ch n).loop with runPlay := true, devPlay := true } }) ∧
      (∀ n, (s.used n = false ∨ ((s.ch n).st ≠ .quiet ∧ (s.ch n).st ≠ .rampUp)) → t.ch n = s.ch n) ∧
      t.jrn = s.jrn.pushes (told 0x02 .run (moved t))) ∧
    (s.dev.state = .run → s.dev.disarming = false → calm → Gives (.hold m) s fun t =>
      t.dev = { s.dev with state := .armed } ∧ t.beyond = { s with dev := t.dev }.beyond ∧
      (∀ n, s.used n = true → (s.ch n).st.playing = true → s.undecided n = false → (t.ch n).st = .quiet) ∧
      (∀ n, s.used n = true → (s.ch n).st.playing = true → s.undecided n = true → waits t n .quiet) ∧
      (∀ n, (s.ch n).st.playing = false → t.ch n = s.ch n) ∧ journals t 0x04 .armed) ∧
    (armed → calm → Gives (.disarm m) s fun t =>
      t.dev = { s.dev with disarming := true } ∧ t.beyond = { s with dev := t.dev }.beyond ∧
      (∀ n, s.used n = true → ((s.ch n).st = .quiet ∨ (s.ch n).st.playing = true ∨ (s.ch n).st = .retry ∨
          ((s.ch n).st = .rampUp ∧ (s.ch n).loop.uvHold = false)) →
        (s.undecided n = true → waits t n .stop) ∧
        (s.undecided n = false → (t.ch n).st = .rampDown ∧ ((s.ch n).st.playing = true → (t.ch n).loop.fading = .stop) ∧
        (t.ch n).lasting = (s.ch n).lasting)) ∧
      (∀ n, s.used n = true → (s.ch n).st = .rampUp → (s.ch n).loop.uvHold = true → s.undecided n = false →
        (t.ch n).st = .off ∧ (t.ch n).quietBridge) ∧
      (∀ n, (s.used n = false ∨ (s.ch n).st.live = false ∨ (s.ch n).st = .rampDown) → t.ch n = s.ch n) ∧
      journals t 0x08 s.dev.state) ∧
    (s.dev.disarming = true → s.allDown = true → Does .disarmComplete s
      { s with dev := { s.dev with state := .built, disarming := false } } []
      [s.devEntry 0x10 s.dev.state .built s.dev.haltCause 0 0]) ∧
    (s.dev.state = .built → Gives (.discard m) s fun t =>
      t.dev = { s.dev with state := .unbuilt } ∧ t.bld.build = none ∧
      (∀ n, (t.ch n).st = .off ∨ (t.ch n).st = (s.ch n).st) ∧ t.fuse = s.fuse ∧ t.pwr = s.pwr ∧ t.mx = s.mx ∧
      ∃ es fs : List JEntry, t.jrn = s.jrn.pushes (es ++ told 0x10 .unbuilt (moved t) ++ fs) ∧
        (s.ldr.patchBusy = false → es = []) ∧ ((∀ n, (s.ch n).ident.running = false ∧ (s.ch n).ident.fitPending = false ∧ (s.ch n).diag.cls = 0) →
          s.flx.injOn = false → s.swp.playsPart = false → fs = [])) ∧
    ((s.dev.state = .unbuilt ∨ s.dev.state = .built ∨ armed) → Gives (.halt m) s fun t =>
      t.dev = { s.dev with state := .halt, disarming := false, haltCause := .host, muteTook := 0 } ∧
      (∀ n, (s.ch n).st.live = true → (t.ch n).st = .off ∧ (t.ch n).quietBridge) ∧
      (∀ n, (s.ch n).st.live = false → t.ch n = s.ch n) ∧ t.bld.build = s.bld.build ∧ t.fuse = s.fuse ∧
      Raises s t [Ev.halt] [Ev.identificationResult, Ev.buildRefused] ∧ Tells t (Ev.halt, 0xFF, 5) ∧
      ∃ es, t.jrn = s.jrn.pushes (s.writeEntry m 0x00 0x28 [0x20] 0 0 :: es ++
        [s.devEntry m.num s.dev.state .halt .host 5 (maskOf fun n => (s.ch n).st.live)]) ∧
        ((∀ n, (s.ch n).ident.running = false) → s.ldr.phase = .idle → es = [])) ∧
    (s.dev.state = .halt → s.dev.haltCause ≠ .boot → Does (.haltClear m) s
      { s with dev := { s.dev with
          state := if s.bld.build.isSome then .built else .unbuilt, haltCause := .none } } []
      [s.writeEntry m 0x00 0x28 [0x40] 0 0,
       s.entry m.num 0x02 0 0 0xFF [6, if s.bld.build.isSome then 3 else 2, 0]]) ∧
    ((s.dev.state = .unbuilt ∨ s.dev.state = .built ∨ s.dev.state = .halt) → s.standbyBusy = false → s.dev.held = .running →
      Gives (.standby m) s fun t =>
        t.dev = { Dev.reset with held := .standby, state := .standby } ∧ t.fuse = s.fuse ∧ t.bld = Bld.reset ∧
        t.jrn = Journal.reset ∧ t.chans = State.reset.chans ∧ t.pending = s.pending ∧
        t.twp = { Twp.reset with pins := s.twp.pins } ∧ t.tap = Tap.reset ∧
        t.pwr = { Pwr.reset with
          vauxOk := s.pwr.vauxOk, vddinOk := s.pwr.vddinOk, vioOk := s.pwr.vioOk, pvddOk := s.pwr.pvddOk
          uv := s.pwr.uv, ov := s.pwr.ov, shutAt := s.pwr.shutAt, outAt := s.pwr.outAt, pvddHigh := s.pwr.pvddHigh } ∧
        ∃ es : List JEntry,
          let u := State.jrnFlush { s with jrn := s.jrn.pushes (told 0x80 .standby 0 ++ es ++
            [s.entry 0x14 0x0B 0 8 0xFF (s.supplyData 0)]) }
          t.snow = { s.snow with stored := some (u.jrn.head, u.jrn.chain) })) ∧
  ((∀ s : State,
    (s.standbyBusy = true ↔ s.ldr.phase ≠ .idle ∨ s.ldr.patchCheck = true ∨ s.ldr.accepted.isSome = true ∨
      s.ldr.heldPatch.isSome = true ∨ s.win.enrollOpen.isSome = true ∨ s.win.enrollCheck.isSome = true ∨
      s.keeper.fuseBusy = true ∨ s.keeper.lockBusy = true) ∧
    (s.kernelWhole = true ↔ s.pwr.vauxOk = true ∧ s.pwr.vddinOk = true ∧ s.pwr.vioOk = true ∧ s.pwr.pvddOk = true ∧
      s.keeper.failed = false ∧ (∃ p : Port, s.dev.gone.contains (.link p) = false) ∧
      ∃ n : Chan, s.used n = true ∧ (s.die n.die).lost = false ∧ (s.die n.die).shutdown = false ∧
        ¬ ((s.ch n).st = .tripped ∧ (s.ch n).keep.tripCause.toNat = causeEngine))) ∧
  ∀ (s : State) (m : Master) (c : Instr) (bit : Byte) (code : Nat), mayWrite m = true → s.standbyHeld →
    ((c = .arm m ∧ bit = 0x01 ∧ s.dev.state ≠ .built ∧ s.dev.disarming = false ∧ code = 1) ∨
     (c = .arm m ∧ bit = 0x01 ∧ s.dev.state = .built ∧ s.pwr.vioOk = false ∧ code = 6) ∨
     (c = .run m ∧ bit = 0x02 ∧ s.dev.state ≠ .armed ∧ code = 1) ∨
     (c = .run m ∧ bit = 0x02 ∧ s.dev.state = .armed ∧ s.dev.disarming = false ∧ s.muted = true ∧ code = 3) ∨
     (c = .run m ∧ bit = 0x02 ∧ s.dev.state = .armed ∧ s.dev.disarming = false ∧ s.muted = false ∧ s.kernelWhole = false ∧
       code = 1) ∨
     (c = .hold m ∧ bit = 0x04 ∧ s.dev.state ≠ .run ∧ code = 1) ∨
     (s.dev.disarming = true ∧ code = 4 ∧
       ((c = .arm m ∧ bit = 0x01 ∧ s.dev.state ≠ .built) ∨ (c = .run m ∧ bit = 0x02 ∧ s.dev.state = .armed) ∨
        (c = .hold m ∧ bit = 0x04 ∧ s.dev.state = .run))) ∨
     (c = .disarm m ∧ bit = 0x08 ∧ s.dev.state ≠ .armed ∧ s.dev.state ≠ .run ∧ code = 1) ∨
     (c = .discard m ∧ bit = 0x10 ∧ s.dev.state ≠ .built ∧ code = 1) ∨
     (c = .haltClear m ∧ bit = 0x40 ∧ s.dev.state ≠ .halt ∧ code = 1) ∨
     (c = .haltClear m ∧ bit = 0x40 ∧ s.dev.state = .halt ∧ s.dev.haltCause = .boot ∧ code = 5) ∨
     (c = .halt m ∧ bit = 0x20 ∧ (s.dev.state = .standby ∨ s.dev.state = .boot ∨ s.dev.state = .halt) ∧ code = 1) ∨
     (c = .standby m ∧ bit = 0x80 ∧ s.dev.state ≠ .unbuilt ∧ s.dev.state ≠ .built ∧ s.dev.state ≠ .halt ∧ code = 1) ∨
     (c = .standby m ∧ bit = 0x80 ∧ (s.dev.state = .unbuilt ∨ s.dev.state = .built ∨ s.dev.state = .halt) ∧
       s.standbyBusy = true ∧ code = 4) ∨
     (c = .registerWrite m 0x30000028 [bit] ∧ bit ≠ 0 ∧ (∀ i : Fin 8, bit ≠ 1#8 <<< i.val) ∧ code = 2)) →
    Does c s { s with dev := { s.dev with refuse := BitVec.ofNat 4 code } } [(Ev.deviceCommandRefused, 0xFF, code)]
      [s.writeEntry m 0x00 0x28 [bit] 1 code])

/-- Resets (R329 to R334, Table 12-8): a reset that reaches the core die leaves every block at its reset value but the
always-on causes, the fuses, the levels of PVDD and of the ADDR pins and, for a pin reset, the journal, where the end of an
injection is written, the events, the trace RAM and the test-access port (assumptions 58, 65, 87); release starts the boot with
tick 0; a soft reset clears the loader, the windows, trace and injection alone; STANDBY wakes into the boot, by its address or
by a pin reset, with the journal continued from the stored head; the change to BOOT is journalled where the journal lives on.
A channel reset (R332): the write is journalled, as refused where no channel of the mask is in use, an unused channel is
reported, a used one starts to ramp down or waits; it applies from OFF, TRIPPED or a held RAMP_UP, or as its RAMP_DOWN ends,
clears what Table 12-8 says, keeps the settings, and journals the channel once; a wider reset in progress governs.
Model's choices behind some of its clauses: assumptions 10, 14, 45, 46, 49, 58 and 65. -/
def Obligations.ResetsClearWhatTheirRowSays : Prop :=
  (∀ s : State,
    let fuses (t : State) : Prop := t.fuse = s.fuseCut ∧
      (s.keeper.fuseBusy = false → s.keeper.lockBusy = false → s.win.enrollCheck = none → t.fuse = s.fuse)
    let pwr := { Pwr.reset with pvddHigh := s.pwr.pvddHigh }
    let kept := if s.flx.injOn then
        s.jrn.pushes [s.entry 0x10 0x01 0 0 s.flx.injCh.val [0x0B, 0x04, 1] (some (regDigest 0x0B 0x04 [0]))]
      else s.jrn
    let boots (t : State) (j : Journal) : Prop := t.jrn = j.pushes
      [t.devEntry 0x14 s.dev.state .boot .none 0 (movedChans s t)]
    (Gives .powerOnReset s fun t =>
      t.dev = Dev.reset ∧ t.snow = Snow.reset ∧ t.pwr = pwr ∧ t.pace = Pace.reset ∧ t.mx = Matrix.reset ∧ t.bld = Bld.reset ∧
      t.jrn = Journal.reset ∧ t.evt = Events.reset ∧ t.ram6 = TrcRam.reset ∧ t.chans = State.reset.chans ∧
      t.dies = State.reset.dies ∧ t.portA = LinkPort.reset ∧ t.portB = LinkPort.reset ∧ t.swp = Twin.reset ∧
      t.twp = { Twp.reset with pins := s.twp.pins } ∧ t.tap = Tap.reset ∧ t.ram = [] ∧ t.pending = s.pending ∧ t.now = s.now ∧ fuses t) ∧
    (∀ vaux : Bool, s.dev.held ≠ .por → (s.dev.held = .standby → vaux = true) → Gives (.brownOutReset vaux) s fun t =>
      t.dev = { Dev.reset with held := .bor } ∧ t.snow = { s.snow with
        borVaux := s.snow.borVaux || vaux, borVddin := s.snow.borVddin || ! vaux
        borCount := satInc s.snow.borCount } ∧
      t.jrn = Journal.reset ∧ t.evt = Events.reset ∧ t.chans = State.reset.chans ∧ t.bld = Bld.reset ∧ fuses t) ∧
    (s.dev.held = .running → s.pwr.vioOk = true → Gives .pinReset s fun t =>
      t.dev = { Dev.reset with held := .pin } ∧ t.snow = { s.snow with pin := true } ∧
      (s.dev.state = .boot → t.jrn = kept) ∧ (s.dev.state ≠ .boot → boots t kept) ∧ fuses t ∧
      t.evt.flags = s.evt.flags ∧ t.evt.history = s.evt.history ∧ t.evt.amask = s.evt.amask ∧ t.ram6 = s.ram6 ∧
      t.chans = State.reset.chans ∧ t.bld = Bld.reset ∧ t.pwr = pwr ∧ t.tap = s.tap ∧
      t.twp = { Twp.reset with pins := s.twp.pins } ∧ t.flx = Flx.reset) ∧
    (s.dev.held = .standby → s.dev.state = .standby → s.pwr.vioOk = true → Gives .pinReset s fun t =>
      t.dev = { Dev.reset with held := .pin } ∧ t.snow = { s.snow with pin := true } ∧ t.evt = Events.reset ∧
      t.ram6 = TrcRam.reset ∧ t.chans = State.reset.chans ∧ fuses t ∧
      ∀ h c, s.snow.stored = some (h, c) →
        boots t { Journal.reset with next := h + 1, head := h, chain := c, continued := true }) ∧
    (s.dev.held = .por ∨ s.dev.held = .bor ∨ s.pwr.vioOk = false → exec .pinReset s = .next s) ∧
    (∀ vio pvdd : Bool, s.dev.held = .por ∨ s.dev.held = .bor ∨ s.dev.held = .pin → Does (.resetRelease vio pvdd) s
      { s with
        dev := { s.dev with held := .running, state := .boot, tick := 0 }
        pwr := { s.pwr with
          vauxOk := true, vddinOk := true, vioOk := vio, pvddOk := pvdd, uv := ! pvdd && ! s.pwr.pvddHigh
          ov := ! pvdd && s.pwr.pvddHigh, pvddHigh := ! pvdd && s.pwr.pvddHigh, shutAt := s.now, outAt := s.now } } [] []) ∧
    (s.dev.held = .standby → s.pwr.vioOk = false → exec .wake s = .next s) ∧
    (s.dev.held = .standby → s.pwr.vioOk = true → Gives .wake s fun t =>
      t = { s with
        dev := { s.dev with held := .running, state := .boot }
        snow := { s.snow with wake := true }
        twp := { s.twp with wakeHeld := true, wakeEvt := true }
        jrn := t.jrn } ∧
      ∀ h c, s.snow.stored = some (h, c) →
        t.jrn = ({ Journal.reset with next := h + 1, head := h, chain := c, continued := true } : Journal).pushes
          [s.devEntry 0x14 .standby .boot s.dev.haltCause 0 0]) ∧
    (∀ m : Master, mayWrite m = true → s.dev.held ≠ .running → exec (.soft m) s = .next s) ∧
    (∀ m : Master, mayWrite m = true → s.dev.held = .running → Gives (.soft m) s fun t =>
      t.ldr = Loader.reset ∧ t.win = { SecWin.reset with enrollCheck := s.win.enrollCheck } ∧
      t.pace = { Pace.reset with
        mxMaster := t.pace.mxMaster, mxTarget := t.pace.mxTarget, mxKind := t.pace.mxKind, mxBeats := t.pace.mxBeats } ∧
      { t.trc with evtHit := false } = Trc.reset ∧ t.flx = Flx.reset ∧ t.portA.trcRead = none ∧ t.portB.trcRead = none ∧ t.chans = s.chans ∧ t.dies = s.dies ∧
      t.dev = s.dev ∧ t.fuse = s.fuse ∧ t.pwr = s.pwr ∧ t.bld.build = s.bld.build ∧ t.swp = s.swp ∧ t.mtb = s.mtb ∧
      JournalsFirst s t (s.writeEntry m 0x01 0x0C [0x01] 0 0) ∧ Raises s t [] [Ev.buildRefused, Ev.burstCut])) ∧
  (∀ (s : State) (m : Master) (mask : BitVec 64), mayWrite m = true →
    (s.dev.held ≠ .running → exec (.chReset m mask) s = .next s) ∧
    (s.dev.held = .running → (∀ n, s.joinedTwin n = false) → Gives (.chReset m mask) s fun t =>
      t.beyond = s.beyond ∧
      (∀ n, inMask mask n = true → s.used n = true → (t.ch n).loop.resetPending = true) ∧
      (∀ n, inMask mask n = true → s.used n = true → (s.ch n).loop.resetPending = false → (s.ch n).st = .quiet → (t.ch n).st = .rampDown) ∧
      (∀ n, inMask mask n = true → s.used n = true → (s.ch n).st = .off → (t.ch n).st = .off) ∧
      (∀ n, (inMask mask n = false ∨ s.used n = false) → t.ch n = s.ch n) ∧
      (∀ n, inMask mask n = true → s.used n = false → t.evt.flags.getLsbD Ev.channelCommandRefused = true) ∧
      Raises s t [] [Ev.channelCommandRefused, Ev.identificationResult] ∧
      JournalsFirst s t (s.writeEntry m 0x01 0x10 (leBytes 8 mask.toNat) (if mask &&& s.chMask = 0 then 1 else 0) 0)) ∧
    (∀ n : Chan, s.dev.held = .running → inMask s.chMask n = false → Does (.chReset m (bitOf n)) s s
      [(Ev.channelCommandRefused, n.val, 0)] [s.writeEntry m 0x01 0x10 (leBytes 8 (bitOf n).toNat) 1 0]) ∧
    (∀ (i : Instr) (n : Chan) (c : ChanCfg), s.cfg n = some c → (s.ch n).loop.resetPending = true →
      ((i = .channelResetApply n ∧ ((s.ch n).st = .off ∨ (s.ch n).st = .tripped ∨
          ((s.ch n).st = .rampUp ∧ (s.ch n).loop.uvHold = true))) ∨
        (i = .rampComplete n ∧ (s.ch n).st = .rampDown ∧ (s.ch n).stage.rampDone = true)) →
      Gives i s fun t =>
        (t.ch n).st = (if (s.ch n).st = .tripped then .tripped else .off) ∧ (t.ch n).quietBridge ∧
        (t.ch n).loop = ChLoop.reset ∧ (t.ch n).learn = ChLearn.reset ∧ (t.ch n).ident = ChIdent.reset ∧
        (t.ch n).diag = ChDiag.reset ∧ (t.ch n).twin = ChTwin.reset ∧ (t.ch n).cls = ChCls.reset ∧
        (t.ch n).issue.tc = c.protP 0x0210 ∧ (t.ch n).issue.cap = true ∧ (t.ch n).prot = { ChProt.reset with
          tc := c.protP 0x0210, tm := c.protP 0x0210, coilCap := true, la := c.lookahead } ∧
        (t.ch n).fg.phase = .settle ∧ (t.ch n).keep.tripCause = (s.ch n).keep.tripCause ∧
        (t.ch n).keep.holdOpen = (s.ch n).keep.holdOpen ∧ (t.ch n).keep.cal = (s.ch n).keep.cal ∧
        (t.ch n).fgk.fadeLen = (s.ch n).fgk.fadeLen ∧ (∀ j, j ≠ n → t.ch j = s.ch j) ∧
        t.silent = { s.silent with chans := t.chans, coef := t.coef } ∧
        (∃ es, t.jrn = s.jrn.pushes (es ++ [s.entry 0x10 0x03 0 0 n.val (chData (s.ch n).st (t.ch n).st (t.ch n))]) ∧
          ((s.ch n).ident.running = false → (s.ch n).ident.fitPending = false → (s.ch n).diag.cls = 0 → es = [])) ∧
        Raises s t [] [Ev.identificationResult, Ev.diagnosticClass]))

/-- Supplies (R316 to R320): a PVDD shutdown counts, is reported and holds every channel high-impedance with its state to
resume, trips and OFF apart; its end, after 1,920 ticks inside the release thresholds, releases them, but a half that its
partner plays for, which enters OFF; VIO's loss and return count, are reported and mute,
a return while a mute fade runs releases at its end, and one while MUTE_N reads low leaves the mute to the pin; the warning level
takes a value up to 0x34 and refuses another.
Model's choices behind some of its clauses: assumptions 45 and 46. -/
def Obligations.SuppliesHoldAndRecover : Prop :=
  ∀ s : State, s.dev.held = .running →
    (∀ (c : Instr) (ov : Bool), (c = .pvddUndervoltageShutdown ∧ ov = false ∧ s.pwr.uv = true) ∨
        (c = .pvddOvervoltageShutdown ∧ ov = true ∧ s.pwr.ov = true) →
      exec c s = .next { s with pwr := { s.pwr with pvddHigh := ov, outAt := s.now } }) ∧
    (∀ (c : Instr) (ov : Bool), (c = .pvddUndervoltageShutdown ∧ ov = false ∧ s.pwr.uv = false) ∨
        (c = .pvddOvervoltageShutdown ∧ ov = true ∧ s.pwr.ov = false) →
      Gives c s fun t =>
        t.pwr = { s.pwr with
          uv := s.pwr.uv || ! ov, ov := s.pwr.ov || ov, pvddHigh := ov, pvddOk := false, uvs := if ov then s.pwr.uvs else satInc s.pwr.uvs,
          ovs := if ov then satInc s.pwr.ovs else s.pwr.ovs, shutAt := s.now, outAt := s.now, dipUv := s.pwr.dipUv || s.pwr.warn } ∧
        (∀ n, ((s.ch n).st = .off ∨ (s.ch n).st = .tripped) → t.ch n = s.ch n) ∧
        (∀ n, (s.ch n).st = .rampDown → (s.ch n).loop.resetPending = false → (t.ch n).st = .off ∧ (t.ch n).quietBridge) ∧
        (∀ n, (s.ch n).st.live = true → (s.ch n).st ≠ .rampDown → (s.ch n).st ≠ .rampUp → (s.ch n).loop.uvHold = false →
          (t.ch n).st = .rampUp ∧ (t.ch n).loop.uvHold = true ∧ (t.ch n).loop.uvResume = true ∧
          (t.ch n).loop.resume = (s.ch n).st ∧ (t.ch n).quietBridge ∧
          (t.ch n).loop.fading = (s.ch n).loop.fading ∧ (t.ch n).loop.tLeft = (s.ch n).loop.tLeft ∧
          (t.ch n).prot.muted = (s.ch n).prot.muted ∧ (t.ch n).lasting = (s.ch n).lasting) ∧
        ((∀ n, (s.ch n).loop.resetPending = false) → t.beyond = { s with pwr := t.pwr }.beyond) ∧
        JournalsLast s t (t.entry 0x14 0x0B 0 0 0xFF (t.supplyData 0)) ∧
        Raises s t [Ev.pvddShutdown] [Ev.identificationResult, Ev.diagnosticClass] ∧ Tells t (Ev.pvddShutdown, 0xFF, 0)) ∧
    ((s.pwr.uv = false ∧ s.pwr.ov = false) ∨ s.now < s.pwr.outAt + 1920 → exec .pvddRecovered s = .next s) ∧
    ((s.pwr.uv = true ∨ s.pwr.ov = true) → s.pwr.outAt + 1920 ≤ s.now → Gives .pvddRecovered s fun t =>
      t.pwr = { s.pwr with uv := false, ov := false, pvddHigh := false, pvddOk := true } ∧
      (∀ n, (s.ch n).loop.uvHold = true → (s.ch n).twin.outHeld = true → (t.ch n).st = .off ∧ (t.ch n).quietBridge) ∧
      (∀ n, (s.ch n).st = .rampUp → (s.ch n).loop.uvHold = true → (s.ch n).twin.outHeld = false → t.ch n = { s.ch n with
        loop := { (s.ch n).loop with uvHold := false }, stage := { (s.ch n).stage with rampDone := false, fbBad := false } }) ∧
      (∀ n, (s.ch n).loop.uvHold = false → t.ch n = s.ch n) ∧
      t.beyond = { s with pwr := t.pwr }.beyond ∧
      JournalsFirst s t (s.entry 0x14 0x0B 0 0 0xFF (s.supplyData (s.now - s.pwr.shutAt))) ∧
      ((∀ n, (s.ch n).twin.outHeld = false) →
        t.jrn = s.jrn.pushes [s.entry 0x14 0x0B 0 0 0xFF (s.supplyData (s.now - s.pwr.shutAt))] ∧
        Raises s t [Ev.pvddRecovered] [] ∧ Tells t (Ev.pvddRecovered, 0xFF, 0))) ∧
    (s.pwr.vioOk = true → s.dev.state ≠ .armed → s.dev.state ≠ .run → Does .vioLoss s
      { s with
        pwr := { s.pwr with vioOk := false, vioLosses := satInc s.pwr.vioLosses }
        twp := { s.twp with wakeHeld := false, ackDue := false, readDue := none, acked := false }
        dev := { s.dev with vioReleasing := false } } [(Ev.vio, 0xFF, 0)]
      [s.entry 0x14 0x0B 0 0 0xFF (s.supplyData 0)]) ∧
    (s.pwr.vioOk = true → (s.dev.state = .armed ∨ s.dev.state = .run) → s.muted = false → s.swp.joined = false →
      Gives .vioLoss s fun t =>
        t.pwr = { s.pwr with vioOk := false, vioLosses := satInc s.pwr.vioLosses, vioMute := true } ∧
        t.twp.wakeHeld = false ∧ t.twp.ackDue = false ∧ t.twp.readDue = none ∧ t.twp.acked = false ∧ t.flx.injOn = false ∧
        t.dev.muteBy = 0x14 ∧
        (∀ n, (s.ch n).st.playing = true → (t.ch n).loop.fading = .mute) ∧ Raises s t [Ev.vio, Ev.mute] [Ev.identificationResult] ∧
        JournalsFirst s t (s.entry 0x14 0x0B 0 0 0xFF (s.supplyData 0))) ∧
    (s.pwr.vioOk = false →
      let back := { s.pwr with vioOk := true }
      let good := { s.pwr with vioOk := true, vioMute := false }
      (s.pwr.vioMute = false → Does .vioReturn s { s with pwr := back } [(Ev.vio, 0xFF, 0)]
        [s.entry 0x14 0x0B 0 0 0xFF (s.supplyData 0)]) ∧
      (s.pwr.vioMute = true → s.muteFades = true → Does .vioReturn s
        { s with pwr := back, dev := { s.dev with vioReleasing := true } } [(Ev.vio, 0xFF, 0)]
        [s.entry 0x14 0x0B 0 0 0xFF (s.supplyData 0)]) ∧
      (s.pwr.vioMute = true → s.muteFades = false → (s.dev.mutePin = true ∨ s.dev.muteRaw = true) → Does .vioReturn s
        { s with pwr := good, dev := { s.dev with vioReleasing := false, mutePin := true, muteBy := 0x15 } } [(Ev.vio, 0xFF, 0)]
        [s.entry 0x14 0x0B 0 0 0xFF (s.supplyData 0)]) ∧
      (s.pwr.vioMute = true → s.muteFades = false → s.dev.mutePin = false → s.dev.muteRaw = false → s.swp.joined = false →
        s.dev.muteResume = false → Gives .vioReturn s fun t =>
          t.pwr = good ∧ (∀ n, (s.ch n).st ≠ .retry →
            t.ch n = { s.ch n with prot := { (s.ch n).prot with muted := false } }) ∧
          Raises s t [Ev.vio, Ev.mute] [Ev.identificationStart] ∧ Journals s t)) ∧
    (∀ (m : Master) (v : Byte), mayWrite m = true →
      (v.toNat % 64 ≤ 0x34 → Does (.pvddWarnWrite m v) s { s with pwr := { s.pwr with warnLevel := v.setWidth 6 } } []
        [s.writeEntry m 0x01 0x06 [v] 0 0]) ∧
      (0x34 < v.toNat % 64 → Does (.pvddWarnWrite m v) s s [(Ev.warningLevelRefused, 0xFF, 0)] []))

/-! ## Events, masks and the journal -/

/-- Flags and masks (R337, R339, R362): an occurrence sets its flag whatever the masks; a clear, of one byte of flags or of
all, takes every flag named but those raised in the running tick and is not journalled; a reset clears them; a mask write changes one byte of one map and is journalled; ANSWERED clears when a flag other than that of the
alert-response source becomes alerting. -/
def Obligations.FlagsAndMasksChangeAlone : Prop :=
  ∀ (s : State) (m : Master), mayWrite m = true →
    (∀ (src idx arg : Nat) (q : Option (BitVec 64)), src < 256 → (s.raise src idx arg q).evt.flags.getLsbD src = true) ∧
    exec (.clrAll m) s = .next { s with evt := { s.evt with flags := s.evt.flags &&& s.evt.raised } } ∧
    (∀ (g : Fin 32) (v : Byte), Gives (.registerWrite m (BitVec.ofNat 32 (0x30000220 + g.val)) [v]) s fun t =>
      (∀ j : Fin 256, t.evt.flags.getLsbD j.val = (s.evt.flags.getLsbD j.val &&
        ! (decide (j.val / 8 = g.val) && v.getLsbD (j.val % 8) && ! s.evt.raised.getLsbD j.val))) ∧
      t = { s with evt := { s.evt with flags := t.evt.flags } }) ∧
    (Gives .powerOnReset s fun t => t.evt.flags = 0) ∧
    (∀ (g : Fin 32) (v : Byte), Gives (.evtMaskWrite m true g v) s fun t =>
      (∀ j : Fin 256, t.evt.umask.getLsbD j.val =
        if j.val / 8 = g.val then v.getLsbD (j.val % 8) else s.evt.umask.getLsbD j.val) ∧
      t = { s with
        evt := { s.evt with umask := t.evt.umask }
        jrn := s.jrn.pushes [s.writeEntry m 0x02 (0x60 + g.val) [v] 0 0] }) ∧
    (∀ (g : Fin 32) (v : Byte), Gives (.evtMaskWrite m false g v) s fun t =>
      (∀ j : Fin 256, t.evt.amask.getLsbD j.val =
        if j.val / 8 = g.val then v.getLsbD (j.val % 8) else s.evt.amask.getLsbD j.val) ∧
      (t.twp.answered = true ↔ s.twp.answered = true ∧ ∀ j : Fin 256, j.val ≠ Ev.alertResponse →
        s.evt.flags.getLsbD j.val = true → t.evt.amask.getLsbD j.val = false → s.evt.amask.getLsbD j.val = false) ∧
      t = { s with
        evt := { s.evt with amask := t.evt.amask }
        twp := { s.twp with answered := t.twp.answered }
        jrn := s.jrn.pushes [s.writeEntry m 0x02 (0x40 + g.val) [v] 0 0] })

/-- The journal (R342 to R344, R347, R348, R350): an entry waits in a queue of 1,024 or is dropped and counted; after drops a
gap entry with their number stands before the next one; entries are written in the order in which they wait, each with the
next SEQ and a chain value over the last one, and a gap entry is reported as it is written; a banked read is loaded with
the entry of the SEQ, or with the outcome that says why there is none.
Model's choices behind some of its clauses: assumptions 29 and 78. -/
def Obligations.JournalWritesAndReads : Prop :=
  ∀ s : State,
    (∀ (j : Journal) (e : JEntry),
      let need := if j.gap = 0 then 1 else 2
      (j.failed = true → j.push e = { j with dropped := satInc j.dropped }) ∧
      (j.failed = false → 1024 < j.queue.length + need →
        j.push e = { j with dropped := satInc j.dropped, gap := j.gap + 1 }) ∧
      (j.failed = false → j.queue.length + need ≤ 1024 → ∃ g : JEntry,
        g.kind = 0x11 ∧ g.src = 0x17 ∧ g.result = 0 ∧ g.index = 0xFF ∧ g.data = leBytes 4 j.gap ∧
        j.push e = { j with queue := j.queue ++ (if j.gap = 0 then [e] else [g, e]), gap := 0 })) ∧
    (∀ (e : JEntry) (rest : List JEntry), s.jrn.started = true → s.jrn.failed = false → s.jrn.queue = e :: rest →
      let body := e.body s.jrn.next
      let chain := first16 (Config.sha384 (beBytes 16 s.jrn.chain.toNat ++ body))
      let j : Journal := { s.jrn with
        queue := rest
        ents := ((s.jrn.next, body ++ beBytes 16 chain.toNat) :: s.jrn.ents).take 16384
        head := s.jrn.next, next := s.jrn.next + 1, chain := chain }
      (e.kind ≠ 0x11 → exec .journalEntryWrite s = .next { s with jrn := j }) ∧
      (e.kind = 0x11 → Gives .journalEntryWrite s fun t =>
        t.jrn = j ∧ Raises s t [Ev.journalGap] [] ∧ Tells t (Ev.journalGap, 0xFF, 0) ∧ t.silent = s.silent)) ∧
    ((s.jrn.started = false ∨ s.jrn.failed = true ∨ s.jrn.queue = []) → exec .journalEntryWrite s = .next s) ∧
    (∀ (m : Master) (q : BitVec 64) (stat : BitVec 2) (bytes : List Byte), mayWrite m = true →
      ((s.jrn.failed = true ∧ stat = 3 ∧ bytes = []) ∨
       (s.jrn.failed = false ∧ s.jrn.entry q = some bytes ∧ stat = 0) ∨
       (s.jrn.failed = false ∧ s.jrn.entry q = none ∧ bytes = [] ∧ stat = if q < s.jrn.next then 1 else 2)) →
      exec (.jrnRdSeqWrite m q) s =
        .next (s.setBank m { s.bank m with rdSeq := q, rdStat := stat, rdEntry := bytes }))

/-! ## The two-wire port -/

/-- Transactions of the two-wire port (R351, R353 to R358): the straps name its address, which waits for the commit of the
transaction before; the first byte written sets the
pointer and later ones are staged; a read phase serves the byte at the pointer, from a snapshot or through M4, and waits for it while the
matrix serves no burst of M4 or a commit is in flight; a STOP commits, at once or once the matrix
serves the port; whatever ends otherwise writes nothing and is counted.
Stretches, the wake and alert responses (R353, R356, R358 to R361): a stretch of 1 ms and a stuck bus reset the port and cut
the commit in flight, are counted
and reported; the wake releases the held address; a port that sends its whole address byte has answered, and one that loses
drives no more of it; staged bytes go stale without VIO too.
Model's choices behind some of its clauses: assumptions 64 and 65. -/
def Obligations.TwoWirePortServes : Prop :=
  (∀ s : State, s.twpRuns = true → s.standbyHeld →
    (∀ (a : BitVec 7) (rd rep : Bool) (strap : BitVec 3), Gives (.twpAddress a rd strap rep) s fun t =>
      let mine := a = 0x58 + strap.setWidth 7
      t = { s with twp := t.twp } ∧ t.twp.addr = strap ∧ t.twp.pins = some strap ∧ t.twp.readDue = none ∧ t.twp.snap = none ∧ t.twp.pointer = s.twp.pointer ∧
      t.twp.window = s.twp.window ∧ t.twp.trans = s.twp.trans ∧ t.twp.answered = s.twp.answered ∧
      let silent := rep = true ∧ s.twp.mute = true
      t.twp.flight = s.twp.flight ∧ t.twp.mute = (rep && s.twp.mute) ∧
      (mine → ¬ silent → t.twp.acked = s.twp.flight.isNone ∧ t.twp.ackDue = s.twp.flight.isSome ∧
        t.twp.phase = if rd then .read else .pointer) ∧
      (¬ mine ∨ silent → t.twp.phase = .deaf ∧ t.twp.ackDue = false ∧
        (t.twp.acked = true ↔ ¬ silent ∧ a = 0x0C ∧ rd = true ∧ s.takesPart = true)) ∧
      (mine → rep = true → rd = true → t.twp.staged = s.twp.staged ∧ t.twp.unfinished = s.twp.unfinished) ∧
      (¬ (mine ∧ rep = true ∧ rd = true) → t.twp.staged = [] ∧
        t.twp.unfinished = if s.twp.staged = [] then s.twp.unfinished else satInc s.twp.unfinished) ∧
      t.twp.txWindow = if rep then s.twp.txWindow else s.twp.window) ∧
    (∀ b : Byte,
      (s.twp.phase = .pointer → exec (.twpWriteByte b) s =
        .next { s with twp := { s.twp with pointer := b, phase := .write } }) ∧
      (s.twp.phase = .write → Gives (.twpWriteByte b) s fun t =>
        t.twp.staged.lookup s.twp.pointer = some b ∧
        (∀ o, o ≠ s.twp.pointer → t.twp.staged.lookup o = s.twp.staged.lookup o) ∧
        t = { s with twp := { s.twp with staged := t.twp.staged, pointer := s.twp.pointer + 1 } })) ∧
    (∀ ack : Bool,
      (s.twp.mute = true → exec (.twpReadByte ack) s = .next { s with twp := { s.twp with out := 0xFF } }) ∧
      (s.twp.mute = false → s.twp.phase = .read →
        ((s.twp.held = true ∨ s.twp.flight.isSome = true) → s.twpNeedsBus = true →
          exec (.twpReadByte ack) s = .next { s with twp := { s.twp with readDue := some ack } }) ∧
        (s.twpServes s.twp.window.toNat = false → exec (.twpReadByte ack) s = .next { s with twp := { s.twp with
          out := if s.twp.pointer = 0 then s.twp.window else 0
          pointer := s.twp.pointer + 1, phase := if ack then .read else .deaf, readDue := none } }) ∧
        (∀ o n : Nat, s.twp.held = false → s.twp.flight = none → s.twpServes s.twp.window.toNat = true → s.twp.snap = none →
          s.twp.pointer ≠ 0 → regAt (s.winRegs .m4 s.twp.window.toNat) s.twp.pointer.toNat = some (o, n) →
          let r := s.busRead .m4 (0x30000000 + 256 * s.twp.window.toNat + o) n
          exec (.twpReadByte ack) s = .next { r.1 with twp := { r.1.twp with
            snap := some (o, r.2.1), out := r.2.1.getD (s.twp.pointer.toNat - o) 0, pointer := r.1.twp.pointer + 1
            phase := if ack then .read else .deaf, readDue := none } }) ∧
        (∀ (o : Nat) (l : List Byte) (b : Byte), s.twpServes s.twp.window.toNat = true → s.twp.snap = some (o, l) → o ≤ s.twp.pointer.toNat →
          l[s.twp.pointer.toNat - o]? = some b → exec (.twpReadByte ack) s = .next { s with twp := { s.twp with
            out := b, pointer := s.twp.pointer + 1, phase := if ack then .read else .deaf, readDue := none } }) ∧
        (s.twp.snap = none → s.twp.pointer = 0 → s.twpServes s.twp.window.toNat = true →
          exec (.twpReadByte ack) s = .next { s with twp := { s.twp with
            out := s.twp.window, pointer := 1, phase := if ack then .read else .deaf, readDue := none } }))) ∧
    (s.twp.staged = [] → exec .twpStop s = .next { s with twp := { s.twp with phase := .idle, readDue := none, snap := none } }) ∧
    (s.twp.staged ≠ [] → s.twp.flight.isSome = true → exec .twpStop s = .next { s with twp := { s.twp with
      staged := [], unfinished := satInc s.twp.unfinished, phase := .idle, readDue := none, snap := none } }) ∧
    (s.twp.staged ≠ [] → s.twp.flight = none → s.twp.held = true → exec .twpStop s = .next { s with twp := { s.twp with
      staged := [], flight := some (s.twp.txWindow, s.twp.staged), phase := .idle, readDue := none, snap := none } }) ∧
    (∀ (x : TickIn) (w v : Byte), x.wf = true → s.twp.flight = some (w, [(0, v)]) → Gives (.tickBoundary x) s fun t =>
      t.twp.held = x.m4Held ∧ t.twp.staged = s.twp.staged ∧
      (s.twp.readDue = none ∨ x.m4Held = true → t.twp.pointer = s.twp.pointer ∧ t.twp.readDue = s.twp.readDue) ∧
      (x.m4Held = true → t.twp.flight = s.twp.flight ∧ t.twp.trans = s.twp.trans ∧ t.twp.window = s.twp.window ∧
        t.twp.acked = s.twp.acked ∧ t.twp.ackDue = s.twp.ackDue) ∧
      (x.m4Held = false → s.twp.readDue = none → t.twp.flight = none ∧ t.twp.trans = s.twp.trans + 1 ∧
        t.twp.window = (if s.twpServes v.toNat then v else s.twp.window) ∧
        t.twp.acked = (s.twp.acked || s.twp.ackDue) ∧ t.twp.ackDue = false ∧
        t.twp.txWindow = if s.twp.ackDue then t.twp.window else s.twp.txWindow)) ∧
    (∀ (x : TickIn) (ack : Bool), x.wf = true → s.twp.flight = none → s.twp.phase = .read → s.twp.readDue = some ack →
      Gives (.tickBoundary x) s fun t =>
        (x.m4Held = true → t.twp.readDue = some ack ∧ t.twp.pointer = s.twp.pointer ∧ t.twp.phase = .read) ∧
        (x.m4Held = false → t.twp.readDue = none ∧ t.twp.pointer = s.twp.pointer + 1 ∧
          t.twp.phase = if ack then .read else .deaf)) ∧
    (∀ v : Byte, s.twp.staged = [(0, v)] → s.twp.flight = none → s.twp.held = false → exec .twpStop s = .next { s with twp := { s.twp with
      window := if s.twpServes v.toNat then v else s.twp.window
      staged := [], trans := s.twp.trans + 1, phase := .idle, readDue := none, snap := none } }) ∧
    (∀ o v : Byte, o ≠ 0 → s.twp.staged = [(o, v)] → s.twp.flight = none → s.twp.held = false →
      let r : State := { s with twp := { s.twp with staged := [] } }
      let u := if s.twpServes s.twp.txWindow.toNat then
        (r.busWrite .m4 (0x30000000 + 256 * s.twp.txWindow.toNat + o.toNat) [v]).1 else r
      exec .twpStop s = .next (State.standbyEnd { u with twp := { u.twp with
        trans := u.twp.trans + 1, phase := .idle, readDue := none, snap := none } })) ∧
    exec .twpIdleTimeout s = .next { s with twp := { s.twp with
      staged := [], unfinished := if s.twp.staged = [] then s.twp.unfinished else satInc s.twp.unfinished } }) ∧
  (∀ s : State, s.standbyHeld →
    (s.dev.held = .running → s.twp.clocked = true → s.dev.gone.contains .twoWire = false →
      exec .twpIdleTimeout s = .next { s with twp := { s.twp with
        staged := [], unfinished := if s.twp.staged = [] then s.twp.unfinished else satInc s.twp.unfinished } }) ∧
    (∀ (c : Instr) (cap ack : Bool), s.twpRuns = true → (s.twp.flight = none ∨ ∃ w v : Byte, s.twp.flight = some (w, [(0, v)])) →
      ((c = .stretchCap ack ∧ cap = true) ∨ (c = .sdaRelease ∧ cap = false ∧ ack = false)) →
      Gives c s fun t =>
        t.twp.phase = .deaf ∧ t.twp.staged = [] ∧ t.twp.snap = none ∧ t.twp.flight = none ∧ t.twp.ackDue = false ∧ t.twp.readDue = none ∧
        t.twp.unfinished = (if s.twp.staged = [] then s.twp.unfinished else satInc s.twp.unfinished) ∧
        t.twp.caps = (if cap then satInc s.twp.caps else s.twp.caps) ∧
        t.twp.sdaReleases = (if cap then s.twp.sdaReleases else satInc s.twp.sdaReleases) ∧
        t.twp.pointer = s.twp.pointer ∧ t.twp.window = s.twp.window ∧ t.twp.trans = s.twp.trans ∧
        (cap = true → (ack = true → t.twp.acked = false ∧ t.twp.mute = s.twp.mute) ∧
          (ack = false → t.twp.mute = true ∧ t.twp.acked = s.twp.acked)) ∧
        Raises s t [if cap then Ev.stretchCap else Ev.sdaRelease] [Ev.burstCut] ∧
        Tells t (if cap then Ev.stretchCap else Ev.sdaRelease, 0xFF, 0) ∧ Journals s t ∧
        t.silent = { s.silent with
          twp := t.silent.twp, fresh := t.fresh
          pace := { s.pace with
            mxMaster := t.pace.mxMaster, mxTarget := t.pace.mxTarget, mxKind := t.pace.mxKind, mxBeats := t.pace.mxBeats } }) ∧
    (s.twp.wakeHeld = true → exec .wakeStretchCap s = .next { s with
      snow := { s.snow with wakeStretch := 0x01F4 }, twp := { s.twp with wakeHeld := false, acked := false } }) ∧
    (∀ rd : Bool, s.dev.held = .running → s.twp.clocked = false →
      (s.twp.wakeHeld = false → s.twp.wakeEvt = false →
        exec (.twpPortClocked rd) s = .next { s with twp := { s.twp with clocked := true, wakeEvt := false } }) ∧
      ((s.twp.wakeHeld = false ∨ s.pwr.vioOk = false) → s.twp.wakeEvt = true → Does (.twpPortClocked rd) s
        { s with twp := { s.twp with clocked := true, wakeHeld := false, wakeEvt := false } } [(Ev.wake, 0xFF, 0)] []) ∧
      (s.twp.wakeHeld = true → s.pwr.vioOk = true → s.twp.wakeEvt = true → Gives (.twpPortClocked rd) s fun t =>
        t.twp.clocked = true ∧ t.twp.wakeHeld = false ∧ t.twp.wakeEvt = false ∧ t.twp.acked = true ∧
        t.twp.addr = s.twp.levels ∧ t.twp.window = s.twp.window ∧ t.twp.txWindow = s.twp.window ∧
        t.twp.phase = (if rd then .read else .pointer) ∧ t.snow = { s.snow with wakeStretch := t.snow.wakeStretch } ∧
        t.snow.wakeStretch.toNat < 0x1F4 ∧ t.silent = { s.silent with twp := t.silent.twp, snow := t.snow, fresh := s.fresh + 1 } ∧
        Raises s t [Ev.wake] [] ∧ Tells t (Ev.wake, 0xFF, 0) ∧ t.jrn = s.jrn)) ∧
    (∀ wins : Bool, s.twpRuns = true → s.twp.araEn = true → s.alerting ≠ 0 → s.twp.answered = false → Gives (.alertResponse wins) s fun t =>
      let own : Byte := (0x58 + s.twp.levels.setWidth 8) <<< 1
      t.twp.addr = s.twp.levels ∧ t.twp.readDue = none ∧ t.twp.acked = true ∧ t.twp.staged = [] ∧ t.twp.phase = .deaf ∧
      t.evt.amask = s.evt.amask ∧ t.silent = { s.silent with twp := t.silent.twp, fresh := s.fresh + 1 } ∧ t.jrn = s.jrn ∧
      (wins = false → t.evt = s.evt ∧ t.twp.answered = false ∧ ∃ i : Fin 8, own.getLsbD i.val = true ∧
        ∀ j : Fin 8, t.twp.out.getLsbD j.val = (own.getLsbD j.val || decide (j < i))) ∧
      (wins = true → t.twp.out = own ∧ Raises s t [Ev.alertResponse] [] ∧ Tells t (Ev.alertResponse, 0xFF, 0) ∧
        ((∀ p, (t.port p).evtDrop = (s.port p).evtDrop) → t.twp.answered = true))))

/-! ## Trace, injection, capture -/

/-- Trace runs (R367, R369 to R371): an accepted ARM starts a run in the other buffer at the next boundary; the lowest condition
that holds is the trigger; the last sample completes the run; STOP ends it without COMPLETE; a refused ARM sets
CFG_REFUSED alone, and so does one after a failure has removed the trace (R39).
The pin stream (R373): PIN_GO streams a buffer that is no recording target while DBG_LOCK is not in force, and is
refused with CFG_REFUSED otherwise; each edge of TRC_CLK puts out one nibble of the block being sent, which up to its FLAGS
follows the errors of the trace RAM (R370); the lines are 0 between blocks, for a gap that stays open, and after the end.
Model's choices behind some of its clauses: assumptions 61 and 67.
Model's choices behind some of its clauses: assumptions 61 and 67. -/
def Obligations.TraceAndPinStreamRun : Prop :=
  (∀ (s : State) (m : Master), mayWrite m = true →
    (s.dev.gone.contains .trace = false → s.trc.state = .idle → (∃ i : Fin 16, (s.trc.slots[i]).getLsbD 6 = true) →
      s.readingOut s.nextTarget = false →
      Does (.trcArm m) s { s with trc := { s.trc with armPending := true } } [] [s.writeEntry m 0x0A 0x04 [0x01] 0 0]) ∧
    ((s.dev.gone.contains .trace = true ∨ s.trc.state ≠ .idle ∨ (∀ i : Fin 16, (s.trc.slots[i]).getLsbD 6 = false) ∨ s.readingOut s.nextTarget = true) →
      exec (.trcArm m) s = .next { s with trc := { s.trc with cfgRefused := true } }) ∧
    (s.trc.armPending = true → s.trc.state = .idle → Gives .traceRunStart s fun t =>
      let b := match s.ram6.lastDone with
        | some d => ! d
        | none => false
      t.trc.state = .armed ∧ t.trc.armPending = false ∧ t.trc.target = b ∧ t.trc.slots = s.trc.slots ∧
      t.ram6.lastRun = s.ram6.lastRun + 1 ∧
      t.ram6.buf b = { TrcBuf.reset with
        run := s.ram6.lastRun + 1, decim := s.trc.decim, mean := s.trc.mean, slots := s.trc.slots.toList } ∧
      t.ram6.buf (! b) = s.ram6.buf (! b) ∧ t = { s with trc := t.trc, ram6 := t.ram6 }) ∧
    Does (.trcTrig m) s { s with trc := { s.trc with manualTrig := s.trc.manualTrig || decide (s.trc.state = .armed) } } []
      [s.writeEntry m 0x0A 0x04 [0x02] 0 0] ∧
    (∀ src : Nat, s.trc.state = .armed →
      ((s.trc.manualTrig = true ∧ src = 1) ∨
       (s.trc.manualTrig = false ∧ s.trc.evtEn = true ∧ s.trc.evtHit = true ∧ src = 2) ∨
       (s.trc.manualTrig = false ∧ (s.trc.evtEn && s.trc.evtHit) = false ∧ s.trc.thrEn = true ∧ s.trc.thrHit = true ∧ src = 3) ∨
       (s.trc.manualTrig = false ∧ (s.trc.evtEn && s.trc.evtHit) = false ∧ (s.trc.thrEn && s.trc.thrHit) = false ∧
         s.trc.frameEn = true ∧ s.trc.frameHit = true ∧ src = 4)) → s.trc.trigLate = false → Gives .traceTrigger s fun t =>
        let b := s.ram6.buf s.trc.target
        let r := t.ram6.buf s.trc.target
        t.trc.state = .triggered ∧ t.trc.left = 65536 - s.trc.pre.toNat ∧ r.trigSrc = BitVec.ofNat 3 src ∧
        r.trigFrame = s.activeFrame ∧ r.trigPos = BitVec.ofNat 32 (min s.trc.pre.toNat b.count) ∧
        r.count = min s.trc.pre.toNat b.count ∧ r.run = b.run ∧
        (∀ w ∈ r.badWords, ∃ x ∈ b.badWords, x.1 = w.1 ∧ x.2 = w.2 + (b.count - r.count)) ∧ t.ram6.buf (! s.trc.target) = s.ram6.buf (! s.trc.target) ∧
        t.silent = { s.silent with trc := t.silent.trc, ram6 := t.ram6 } ∧ t.jrn = s.jrn ∧ Raises s t [Ev.traceTrigger] [] ∧
        Tells t (Ev.traceTrigger, 0xFF, 0)) ∧
    (s.trc.state = .triggered → s.trc.left = 0 → Does .traceComplete s
      { s with
        ram6 := { s.ram6.setBuf s.trc.target { s.ram6.buf s.trc.target with complete := true } with lastDone := some s.trc.target }
        trc := { s.trc with state := .idle } } [(Ev.traceComplete, 0xFF, 0)] []) ∧
    Does (.trcStop m) s
      { s with trc := { s.trc with state := .idle, armPending := false, manualTrig := false, left := 0 } } []
      [s.writeEntry m 0x0A 0x04 [0x04] 0 0]) ∧
  (∀ (s : State) (m : Master), mayWrite m = true →
    let busy := s.dev.gone.contains .trace = true ∨ s.dbgLock = true ∨ (s.trc.state ≠ .idle ∧ s.trc.target = s.trc.pinBuf) ∨ s.trc.pinBusy = true
    (¬ busy → ∃ gap : Nat, 1 ≤ gap ∧ gap ≤ 16 ∧ Does (.pinGo m) s
      { s with
        fresh := s.fresh + 1
        trc := { s.trc with
          pinBusy := true, pinFrom := s.trc.pinBuf, pinGap := gap, pinWait := 0, pinSent := 0, pinData := []
          pinRead := let b := s.ram6.buf s.trc.pinBuf
            if b.slotsOn = [] ∨ b.count = 0 then none
            else some { buf := s.trc.pinBuf, slots := b.slotsOn, first := 0, next := 0, stop := b.count } } } []
      [s.writeEntry m 0x0A 0x04 [0x08] 0 0]) ∧
    (busy → exec (.pinGo m) s = .next { s with trc := { s.trc with cfgRefused := true } }) ∧
    let ended := { s with trc := { s.trc with
      pinBusy := false, pinRead := none, pinWait := 0, pinSent := 0, pinData := [], pinOut := 0 } }
    Does (.pinStop m) s ended [] [s.writeEntry m 0x0A 0x04 [0x10] 0 0] ∧
    (s.pwr.vioOk = false ∨ s.dbgLock = true ∨ s.trc.pinBusy = false → exec .trcClkEdge s = .next s) ∧
    (s.trc.pinBusy = true → s.dbgLock = false → s.pwr.vioOk = true →
      (∀ w : Nat, s.trc.pinWait = w + 1 → exec .trcClkEdge s = .next { s with trc := { s.trc with pinWait := w, pinOut := 0 } }) ∧
      (s.trc.pinWait = 0 → s.trc.pinRead.bind (nextBlock s.ram6) = none → exec .trcClkEdge s = .next ended) ∧
      (∀ (blk : List Byte) (rest : Option TraceRead) (x : BitVec 4) (l : List (BitVec 4)), s.trc.pinWait = 0 →
        s.trc.pinRead.bind (nextBlock s.ram6) = some (blk, rest) →
        (if s.trc.pinSent ≤ 28 then (pinNibbles blk).drop s.trc.pinSent else s.trc.pinData) = x :: l →
        exec .trcClkEdge s = .next { s with trc := if l = [] then
            { s.trc with
              pinOut := x, pinRead := rest, pinWait := if rest.isSome then s.trc.pinGap else 0, pinSent := 0, pinData := [] }
          else { s.trc with pinOut := x, pinSent := s.trc.pinSent + 1, pinData := l } })))

/-- Injection and capture (R374, R376, R377): INJ_GO is refused with the REASON of the first case that holds, 3 under DBG_LOCK
with its event; an accepted injection starts at t = 0 as configured, plays its sine, noise or MLS, fades in over its first 64
ticks, steps with every tick, and ends with a high-impedance bridge or with its fade; INJ_STOP starts its fade of 64 ticks; CAP_GO is refused
with BUSY during a capture; a capture ends after 8,192 ticks; each read of FLX_CAP_DATA advances the index.
Model's choices behind some of its clauses: assumptions 59, 60 and 62. -/
def Obligations.InjectionsAndCapturesRun : Prop :=
  ∀ (s : State) (m : Master), mayWrite m = true →
    let n := s.flx.chan
    let ready := (s.dev.state = .armed ∨ s.dev.state = .run) ∧ ((s.ch n).st = .quiet ∨ (s.ch n).st.playing = true) ∧ s.muted = false ∧
      (s.ch n).ident.running = false ∧ s.flx.signal ≠ 3
    let both := s.joinedTwin n = false ∨ inMask s.swp.solo n = true
    let loud := s.flx.point ≠ 3 ∨ 40 ≤ s.flx.level.toNat
    (s.dbgLock = false → s.used n = true → s.flx.injOn = false → ready → both → loud → Gives (.injGo m) s fun t =>
      t.flx = { s.flx with
        injOn := true, injCh := n, injPoint := s.flx.point, injSignal := s.flx.signal, injOrder := s.flx.mlsOrder.toNat,
        injLevel := s.flx.level.toNat, injFreq := f32 s.flx.freq, injT := 0, injFade := none, mls := t.flx.mls, noise := t.flx.noise } ∧
      t = { s with flx := t.flx, fresh := s.fresh + 1, jrn := s.jrn.pushes [s.writeEntry m 0x0B 0x04 [0x01] 0 0] }) ∧
    (∀ code : Nat,
      ((s.dbgLock = true ∧ code = 3) ∨ (s.dbgLock = false ∧ s.used n = false ∧ code = 6) ∨
       (s.dbgLock = false ∧ s.used n = true ∧ s.flx.injOn = true ∧ code = 5) ∨
       (s.dbgLock = false ∧ s.used n = true ∧ s.flx.injOn = false ∧ ¬ ready ∧ code = 1) ∨
       (s.dbgLock = false ∧ s.used n = true ∧ s.flx.injOn = false ∧ ready ∧ ¬ both ∧ code = 2) ∨
       (s.dbgLock = false ∧ s.used n = true ∧ s.flx.injOn = false ∧ ready ∧ both ∧ ¬ loud ∧ code = 4)) →
      Does (.injGo m) s { s with flx := { s.flx with refused := true, reason := BitVec.ofNat 4 code } }
        (if code = 3 then [(Ev.injectionLocked, 0xFF, 0)] else [])
        [s.entry m.num 0x01 1 code n.val [0x0B, 0x04, 1, 0x01] (some (regDigest 0x0B 0x04 [0x01]))]) ∧
    (s.flx.injOn = true → s.flx.injFade = none → exec (.injStop m) s = .next { s with flx := { s.flx with injFade := some 64 } }) ∧
    ((s.flx.injOn = false ∨ s.flx.injFade ≠ none) → exec (.injStop m) s = .next s) ∧
    (∀ f : Flx,
      let amp := Config.pow10R (-(f.injLevel : Rat) / 40)
      let fin : Rat := (min f.injT 64 : Nat) / 64
      let fout : Rat := match f.injFade with
        | some j => (j : Rat) / 64
        | none => 1
      (f.injSignal = 0 → f.value = amp * Config.sinR (2 * Config.pi * f.injFreq * (f.injT : Rat) / fT) * fin * fout) ∧
      (f.injSignal = 1 → ∀ a b c d : BitVec 31, f.noise = [a, b, c, d] → f.value = amp * Config.sqrtR (3 / 2) *
        (((a.toNat + b.toNat + c.toNat + d.toNat : Nat) : Rat) / 2147483648 - 2) * fin * fout) ∧
      (f.injSignal = 2 → f.value =
        amp / Config.sqrtR 2 * (if f.mls.getLsbD (f.injOrder - 1) then 1 else -1) * fin * fout)) ∧
    (∀ (N a b : Nat) (r : BitVec 16) (i : Nat), i < N → (N, a, b) ∈ [(10, 10, 7), (11, 11, 9), (15, 15, 14)] →
      (mlsStep N r).getLsbD i = if i = 0 then r.getLsbD (a - 1) != r.getLsbD (b - 1) else r.getLsbD (i - 1)) ∧
    (∀ (N b c d : Nat) (r : BitVec 16) (i : Nat), i < N →
      (N, b, c, d) ∈ [(12, 6, 4, 1), (13, 4, 3, 1), (14, 5, 3, 1), (16, 15, 13, 4)] →
      (mlsStep N r).getLsbD i =
        if i = 0 then r.getLsbD (N - 1) != (r.getLsbD (b - 1) != (r.getLsbD (c - 1) != r.getLsbD (d - 1)))
        else r.getLsbD (i - 1)) ∧
    (s.flx.injOn = true →
      let k := s.ch s.flx.injCh
      let plays := (k.st = .quiet ∨ k.st.playing = true) ∧ k.ident.running = false
      let f := { s.flx with
        injT := s.flx.injT + 1, mls := mlsStep s.flx.injOrder s.flx.mls, noise := s.flx.noise.map noiseStep
        injFade := s.flx.injFade.map (· - 1) }
      (k.stage.bridge ≠ 0 → (∀ j, s.flx.injFade = some j → 1 < j) →
        (plays → s.injTick = { s with flx := f }) ∧
        (¬ plays → s.injTick = { s with flx := { f with injFade := some (f.injFade.getD 64) } })) ∧
      (k.stage.bridge = 0 ∨ s.flx.injFade = some 1 → s.injTick =
        { s with
          flx := { f with injOn := false, injFade := none }
          jrn := s.jrn.pushes
            [s.entry 0x10 0x01 0 0 s.flx.injCh.val [0x0B, 0x04, 1] (some (regDigest 0x0B 0x04 [0]))] })) ∧
    ((s.flx.capRun = true ∨ s.flx.capWait = true) →
      exec (.capGo m) s = .next { s with flx := { s.flx with refused := true, reason := 5 } }) ∧
    (s.flx.capRun = false → s.flx.capWait = false →
      exec (.capGo m) s = .next { s with flx := { s.flx with capWait := true, capCh := n } }) ∧
    (s.flx.capWait = true → (s.flx.capSync = false ∨ s.flx.injOn = false ∨ s.flx.injSignal ≠ 2 ∨ s.flx.injT = 0) →
      exec .captureStart s = .next { s with
        flx := { s.flx with capWait := false, capRun := true, capCount := 0 }, ram6 := { s.ram6 with capA := [], capB := [] } }) ∧
    (s.flx.capRun = true → 8192 ≤ s.flx.capCount → Does .captureComplete s
      { s with flx := { s.flx with capRun := false, capDone := true } } [(Ev.captureComplete, 0xFF, 0)] []) ∧
    exec (.flxCapDataRead m) s = .next { s with flx := { s.flx with capIdx := s.flx.capIdx + 1 } }

/-! ## The register map -/

/-- The coefficient peek (R388 to R391): a write of the whole of COEF_SEL starts a load of its context alone; at the boundary the
page that the load asked for is captured, whatever has become of COEF_SEL since, or the code of the first case that holds is shown with COUNT 0: no build, no such kind, no such channel,
no such object on the channel, an index at or beyond its item count. -/
def Obligations.CoefficientPagesLoad : Prop :=
  ∀ (s : State) (q : Fin 16),
    (∀ (m : Master) (v : BitVec 32), mayWrite m = true → Gives (.coefSelWrite m q v) s fun t =>
      t = { s with coef := t.coef } ∧ (∀ j : Fin 16, j ≠ q → t.coef[j] = s.coef[j]) ∧
      t.coef[q] = { s.coef[q] with sel := v &&& 0x0FFF0F7F, asked := v &&& 0x0FFF0F7F, state := .loading, code := 0, count := 0, words := [] }) ∧
    ((s.coef[q]).state = .loading → Gives (.coefPageCapture q) s fun t =>
      t = { s with coef := t.coef } ∧ (∀ j : Fin 16, j ≠ q → t.coef[j] = s.coef[j]) ∧ (t.coef[q]).sel = (s.coef[q]).sel ∧ (t.coef[q]).asked = (s.coef[q]).asked ∧
      (t.coef[q]).tick = BitVec.ofNat 32 s.dev.tick ∧
      (∀ (n : Nat) (w : List (BitVec 32)), s.page (s.coef[q]).asked = .ok (n, w) →
        (t.coef[q]).state = .valid ∧ (t.coef[q]).words = w ∧ (t.coef[q]).count = BitVec.ofNat 8 n ∧ n ≤ 60) ∧
      (∀ e : BitVec 8,
        let sel := (s.coef[q]).asked
        ((∃ b, s.bld.build = some b ∧ selKind sel = 10 ∧ b.streams.length ≤ selIndex sel ∧ e = 5) ∨
         (∃ b c, s.bld.build = some b ∧ 1 ≤ selKind sel ∧ selKind sel ≤ 9 ∧ s.cfg (selChan sel) = some c ∧
           ((chanItems b.streams c (s.ch (selChan sel)).issue.table (selKind sel) (selBank sel) = none ∧ e = 4) ∨
            (∃ l, chanItems b.streams c (s.ch (selChan sel)).issue.table (selKind sel) (selBank sel) = some l ∧
              l.length ≤ selIndex sel ∧ e = 5))) ∨
         (s.bld.build = none ∧ e = 1) ∨
         (s.bld.build.isSome = true ∧ (selKind sel = 0 ∨ 10 < selKind sel) ∧ e = 2) ∨
         (s.bld.build.isSome = true ∧ 1 ≤ selKind sel ∧ selKind sel ≤ 9 ∧
           s.used (selChan sel) = false ∧ e = 3)) →
        (t.coef[q]).state = .error ∧ (t.coef[q]).code = e ∧ (t.coef[q]).count = 0 ∧ (t.coef[q]).words = []))

/-- Register writes (R7, R9, R32): the bytes of a command's register have the command's effect, an absent window takes no write,
reads 0 and cannot be selected by the two-wire port, settings take their values, a write of a window's number is ignored
(R33), and a master that may not write the
register space is turned away, logged and reported. -/
def Obligations.RegisterWritesAreTheirCommands : Prop :=
  ∀ (s : State) (m : Master), s.standbyHeld →
    (mayWrite m = true →
      (∀ v, exec (.registerWrite m 0x30000010 [v]) s = exec (.sysMatrixWrite m v) s) ∧
      (∀ v, exec (.registerWrite m 0x30000106 [v]) s = exec (.pvddWarnWrite m v) s) ∧
      exec (.registerWrite m 0x3000010C [1]) s = exec (.soft m) s ∧
      exec (.registerWrite m 0x3000020C [1]) s = exec (.clrAll m) s ∧
      (∀ (v : Byte) (c : Instr), (v, c) ∈ [((0x01 : Byte), Instr.arm m), (0x02, .run m), (0x04, .hold m), (0x08, .disarm m), (0x10, .discard m),
          (0x20, .halt m), (0x40, .haltClear m), (0x80, .standby m)] → exec (.registerWrite m 0x30000028 [v]) s = exec c s) ∧
      (∀ (v : Byte) (c : Instr), (v, c) ∈ [((0x01 : Byte), Instr.trcArm m), (0x02, .trcTrig m), (0x04, .trcStop m), (0x08, .pinGo m), (0x10, .pinStop m)] →
        exec (.registerWrite m 0x30000A04 [v]) s = exec c s) ∧
      (∀ (v : Byte) (c : Instr), (v, c) ∈ [((0x01 : Byte), Instr.injGo m), (0x02, .injStop m), (0x04, .capGo m)] →
        exec (.registerWrite m 0x30000B04 [v]) s = exec c s) ∧
      (∀ (g : Fin 32) (v : Byte),
        exec (.registerWrite m (BitVec.ofNat 32 (0x30000240 + g.val)) [v]) s = exec (.evtMaskWrite m false g v) s ∧
        exec (.registerWrite m (BitVec.ofNat 32 (0x30000260 + g.val)) [v]) s = exec (.evtMaskWrite m true g v) s) ∧
      (∀ (n : Chan) (k : ChCmd) (v : Byte), v.toNat = 2 ^ k.bit →
        exec (.registerWrite m (BitVec.ofNat 32 (0x30001004 + 256 * n.val)) [v]) s = exec (k.instr m n) s) ∧
      (∀ v : BitVec 32, exec (.registerWrite m 0x30000B0C (leBytes 4 v.toNat)) s = .next { s with flx := { s.flx with freq := v } }) ∧
      (∀ v : BitVec 16, exec (.registerWrite m 0x30000118 (leBytes 2 v.toNat)) s = .next { s with pwr := { s.pwr with pvddMin := v } }) ∧
      (∀ w : Byte, (0x0E ≤ w.toNat ∧ w.toNat ≤ 0x0F) ∨ (0x58 ≤ w.toNat ∧ w.toNat ≤ 0x5F) ∨ 0x70 ≤ w.toNat →
        (∀ (o v : Byte), exec (.registerWrite m (BitVec.ofNat 32 (0x30000000 + 256 * w.toNat + o.toNat)) [v]) s = .next s ∧
          s.busRead m (0x30000000 + 256 * w.toNat + o.toNat) 1 = (s, [0], false)) ∧
        (s.twpRuns = true → s.twp.staged = [(0, w)] → s.twp.flight = none → s.twp.held = false → exec .twpStop s = .next { s with twp := { s.twp with
          staged := [], trans := s.twp.trans + 1, phase := .idle, readDue := none, snap := none } }))) ∧
    (canWrite m 3 = true → ∀ w v : Byte,
      exec (.registerWrite m (BitVec.ofNat 32 (0x30000000 + 256 * w.toNat)) [v]) s = .next s) ∧
    (canWrite m 3 = false → ∀ (w o v : Byte),
      let p := { s.pace with mxMaster := BitVec.ofNat 3 m.num, mxTarget := 3, mxKind := 1, mxBeats := 0 }
      Does (.registerWrite m (BitVec.ofNat 32 (0x30000000 + 256 * w.toNat + o.toNat)) [v]) s { s with pace := p }
        [(Ev.accessDenied, 0xFF, 0)]
        [s.entry m.num 0x10 2 0 0xFF (p.mxBytes ++ [0, 0] ++ leBytes 4 (0x30000000 + 256 * w.toNat + o.toNat))])

/-- A command of a register issued by a master without the right to write it, every one but M0, M1, M2 and M4, and M3 where
no rule keeps the register from it, changes nothing but SYS_MXLOG, which holds the
master, the target and the kind; the denial is journalled and reported (R32).
Model's choices behind some of its clauses: assumption 24. -/
def Obligations.MastersWithoutTheRightAreDenied : Prop :=
  ∀ (s : State) (m : Master) (n : Chan) (k : Die) (p : Port) (q : Fin 16) (c : Instr) (w off : Nat), regRight m w off = false →
    (c, w, off) ∈
      [ (Instr.enable m n, 0x10 + n.val, 0x04), (.play m n, 0x10 + n.val, 0x04), (.quiet m n, 0x10 + n.val, 0x04),
        (.stop m n, 0x10 + n.val, 0x04), (.clear m n, 0x10 + n.val, 0x04), (.openLoop m n, 0x10 + n.val, 0x04),
        (.closeLoop m n, 0x10 + n.val, 0x04), (.reqA m n, 0x10 + n.val, 0x40), (.reqB m n, 0x10 + n.val, 0x40),
        (.identStart m n, 0x10 + n.val, 0x60), (.identAbort m n, 0x10 + n.val, 0x60), (.rlClear m n, 0x10 + n.val, 0x7C),
        (.recal m n, 0x10 + n.val, 0xB0), (.startAll m, 0, 0x1C), (.syncReset m, 0x0C, 0x20),
        (.sdCtlWrite m k 0, 0x50 + k.val, 0x06), (.sdRampWrite m k 0, 0x50 + k.val, 0x08), (.take m p, 4 + p.num, 0x04),
        (.lnkReset m p, 4 + p.num, 0x04), (.bldBegin m, 8, 0x04), (.bldAbort m, 8, 0x04), (.bldPatchGo m, 8, 0x04),
        (.bldPatchClear m, 8, 0x04), (.arm m, 0, 0x28), (.run m, 0, 0x28), (.hold m, 0, 0x28), (.disarm m, 0, 0x28),
        (.discard m, 0, 0x28), (.halt m, 0, 0x28), (.haltClear m, 0, 0x28), (.standby m, 0, 0x28), (.soft m, 1, 0x0C),
        (.chReset m 0, 1, 0x10), (.pvddWarnWrite m 0, 1, 0x06), (.enrollArm m, 7, 0x04), (.enrollGo m, 7, 0x04),
        (.lockArm m, 7, 0x04), (.lockGo m, 7, 0x04), (.farewell m, 6, 0x04), (.rejoin m, 6, 0x04), (.clrAll m, 2, 0x0C),
        (.jrnRdSeqWrite m 0, 3, 0x20), (.trcArm m, 0x0A, 0x04), (.trcTrig m, 0x0A, 0x04), (.trcStop m, 0x0A, 0x04),
        (.pinGo m, 0x0A, 0x04), (.pinStop m, 0x0A, 0x04), (.injGo m, 0x0B, 0x04), (.injStop m, 0x0B, 0x04), (.capGo m, 0x0B, 0x04),
        (.coefSelWrite m q 0, 0x60 + q.val, 0x04) ] →
    let x := { s.pace with mxMaster := BitVec.ofNat 3 m.num, mxTarget := 3, mxKind := 1, mxBeats := 0 }
    Does c s { s with pace := x } [(Ev.accessDenied, 0xFF, 0)]
      [s.entry m.num 0x10 2 0 0xFF (x.mxBytes ++ [0, 0] ++ leBytes 4 (0x30000000 + 256 * w + off))]
end

