-- ==== Sys2Proof/Laws/State.lean ====
section
/-! SUPPORT. One lemma per field per update of the state: what an operation of Machine/Ops.lean leaves
alone. No later proof unfolds a record update. -/

namespace Sys2Proof.Machine

variable (s : State)


/-! ## modCh -/

@[simp] theorem modCh_pending (n : Chan) (f : Channel → Channel) : (s.modCh n f).pending = s.pending := rfl
@[simp] theorem modCh_now (n : Chan) (f : Channel → Channel) : (s.modCh n f).now = s.now := rfl
@[simp] theorem modCh_fresh (n : Chan) (f : Channel → Channel) : (s.modCh n f).fresh = s.fresh := rfl
@[simp] theorem modCh_dev (n : Chan) (f : Channel → Channel) : (s.modCh n f).dev = s.dev := rfl
@[simp] theorem modCh_fuse (n : Chan) (f : Channel → Channel) : (s.modCh n f).fuse = s.fuse := rfl
@[simp] theorem modCh_snow (n : Chan) (f : Channel → Channel) : (s.modCh n f).snow = s.snow := rfl
@[simp] theorem modCh_keeper (n : Chan) (f : Channel → Channel) : (s.modCh n f).keeper = s.keeper := rfl
@[simp] theorem modCh_win (n : Chan) (f : Channel → Channel) : (s.modCh n f).win = s.win := rfl
@[simp] theorem modCh_pwr (n : Chan) (f : Channel → Channel) : (s.modCh n f).pwr = s.pwr := rfl
@[simp] theorem modCh_mx (n : Chan) (f : Channel → Channel) : (s.modCh n f).mx = s.mx := rfl
@[simp] theorem modCh_pace (n : Chan) (f : Channel → Channel) : (s.modCh n f).pace = s.pace := rfl
@[simp] theorem modCh_ldr (n : Chan) (f : Channel → Channel) : (s.modCh n f).ldr = s.ldr := rfl
@[simp] theorem modCh_bld (n : Chan) (f : Channel → Channel) : (s.modCh n f).bld = s.bld := rfl
@[simp] theorem modCh_ram (n : Chan) (f : Channel → Channel) : (s.modCh n f).ram = s.ram := rfl
@[simp] theorem modCh_evt (n : Chan) (f : Channel → Channel) : (s.modCh n f).evt = s.evt := rfl
@[simp] theorem modCh_bank0 (n : Chan) (f : Channel → Channel) : (s.modCh n f).bank0 = s.bank0 := rfl
@[simp] theorem modCh_bank1 (n : Chan) (f : Channel → Channel) : (s.modCh n f).bank1 = s.bank1 := rfl
@[simp] theorem modCh_bank2 (n : Chan) (f : Channel → Channel) : (s.modCh n f).bank2 = s.bank2 := rfl
@[simp] theorem modCh_bank4 (n : Chan) (f : Channel → Channel) : (s.modCh n f).bank4 = s.bank4 := rfl
@[simp] theorem modCh_jrn (n : Chan) (f : Channel → Channel) : (s.modCh n f).jrn = s.jrn := rfl
@[simp] theorem modCh_portA (n : Chan) (f : Channel → Channel) : (s.modCh n f).portA = s.portA := rfl
@[simp] theorem modCh_portB (n : Chan) (f : Channel → Channel) : (s.modCh n f).portB = s.portB := rfl
@[simp] theorem modCh_link (n : Chan) (f : Channel → Channel) : (s.modCh n f).link = s.link := rfl
@[simp] theorem modCh_stm (n : Chan) (f : Channel → Channel) : (s.modCh n f).stm = s.stm := rfl
@[simp] theorem modCh_mtb (n : Chan) (f : Channel → Channel) : (s.modCh n f).mtb = s.mtb := rfl
@[simp] theorem modCh_dies (n : Chan) (f : Channel → Channel) : (s.modCh n f).dies = s.dies := rfl
@[simp] theorem modCh_twp (n : Chan) (f : Channel → Channel) : (s.modCh n f).twp = s.twp := rfl
@[simp] theorem modCh_swp (n : Chan) (f : Channel → Channel) : (s.modCh n f).swp = s.swp := rfl
@[simp] theorem modCh_ram6 (n : Chan) (f : Channel → Channel) : (s.modCh n f).ram6 = s.ram6 := rfl
@[simp] theorem modCh_trc (n : Chan) (f : Channel → Channel) : (s.modCh n f).trc = s.trc := rfl
@[simp] theorem modCh_flx (n : Chan) (f : Channel → Channel) : (s.modCh n f).flx = s.flx := rfl
@[simp] theorem modCh_coef (n : Chan) (f : Channel → Channel) : (s.modCh n f).coef = s.coef := rfl
@[simp] theorem modCh_tap (n : Chan) (f : Channel → Channel) : (s.modCh n f).tap = s.tap := rfl
@[simp] theorem modCh_wide (n : Chan) (f : Channel → Channel) : (s.modCh n f).wide = s.wide := rfl

/-! ## modDie -/

@[simp] theorem modDie_pending (k : Die) (f : DieState → DieState) : (s.modDie k f).pending = s.pending := rfl
@[simp] theorem modDie_now (k : Die) (f : DieState → DieState) : (s.modDie k f).now = s.now := rfl
@[simp] theorem modDie_fresh (k : Die) (f : DieState → DieState) : (s.modDie k f).fresh = s.fresh := rfl
@[simp] theorem modDie_dev (k : Die) (f : DieState → DieState) : (s.modDie k f).dev = s.dev := rfl
@[simp] theorem modDie_fuse (k : Die) (f : DieState → DieState) : (s.modDie k f).fuse = s.fuse := rfl
@[simp] theorem modDie_snow (k : Die) (f : DieState → DieState) : (s.modDie k f).snow = s.snow := rfl
@[simp] theorem modDie_keeper (k : Die) (f : DieState → DieState) : (s.modDie k f).keeper = s.keeper := rfl
@[simp] theorem modDie_win (k : Die) (f : DieState → DieState) : (s.modDie k f).win = s.win := rfl
@[simp] theorem modDie_pwr (k : Die) (f : DieState → DieState) : (s.modDie k f).pwr = s.pwr := rfl
@[simp] theorem modDie_mx (k : Die) (f : DieState → DieState) : (s.modDie k f).mx = s.mx := rfl
@[simp] theorem modDie_pace (k : Die) (f : DieState → DieState) : (s.modDie k f).pace = s.pace := rfl
@[simp] theorem modDie_ldr (k : Die) (f : DieState → DieState) : (s.modDie k f).ldr = s.ldr := rfl
@[simp] theorem modDie_bld (k : Die) (f : DieState → DieState) : (s.modDie k f).bld = s.bld := rfl
@[simp] theorem modDie_ram (k : Die) (f : DieState → DieState) : (s.modDie k f).ram = s.ram := rfl
@[simp] theorem modDie_evt (k : Die) (f : DieState → DieState) : (s.modDie k f).evt = s.evt := rfl
@[simp] theorem modDie_bank0 (k : Die) (f : DieState → DieState) : (s.modDie k f).bank0 = s.bank0 := rfl
@[simp] theorem modDie_bank1 (k : Die) (f : DieState → DieState) : (s.modDie k f).bank1 = s.bank1 := rfl
@[simp] theorem modDie_bank2 (k : Die) (f : DieState → DieState) : (s.modDie k f).bank2 = s.bank2 := rfl
@[simp] theorem modDie_bank4 (k : Die) (f : DieState → DieState) : (s.modDie k f).bank4 = s.bank4 := rfl
@[simp] theorem modDie_jrn (k : Die) (f : DieState → DieState) : (s.modDie k f).jrn = s.jrn := rfl
@[simp] theorem modDie_portA (k : Die) (f : DieState → DieState) : (s.modDie k f).portA = s.portA := rfl
@[simp] theorem modDie_portB (k : Die) (f : DieState → DieState) : (s.modDie k f).portB = s.portB := rfl
@[simp] theorem modDie_link (k : Die) (f : DieState → DieState) : (s.modDie k f).link = s.link := rfl
@[simp] theorem modDie_stm (k : Die) (f : DieState → DieState) : (s.modDie k f).stm = s.stm := rfl
@[simp] theorem modDie_mtb (k : Die) (f : DieState → DieState) : (s.modDie k f).mtb = s.mtb := rfl
@[simp] theorem modDie_chans (k : Die) (f : DieState → DieState) : (s.modDie k f).chans = s.chans := rfl
@[simp] theorem modDie_twp (k : Die) (f : DieState → DieState) : (s.modDie k f).twp = s.twp := rfl
@[simp] theorem modDie_swp (k : Die) (f : DieState → DieState) : (s.modDie k f).swp = s.swp := rfl
@[simp] theorem modDie_ram6 (k : Die) (f : DieState → DieState) : (s.modDie k f).ram6 = s.ram6 := rfl
@[simp] theorem modDie_trc (k : Die) (f : DieState → DieState) : (s.modDie k f).trc = s.trc := rfl
@[simp] theorem modDie_flx (k : Die) (f : DieState → DieState) : (s.modDie k f).flx = s.flx := rfl
@[simp] theorem modDie_coef (k : Die) (f : DieState → DieState) : (s.modDie k f).coef = s.coef := rfl
@[simp] theorem modDie_tap (k : Die) (f : DieState → DieState) : (s.modDie k f).tap = s.tap := rfl
@[simp] theorem modDie_wide (k : Die) (f : DieState → DieState) : (s.modDie k f).wide = s.wide := rfl

/-! ## modPort -/

@[simp] theorem modPort_pending (p : Port) (f : LinkPort → LinkPort) : (s.modPort p f).pending = s.pending := by cases p <;> rfl
@[simp] theorem modPort_now (p : Port) (f : LinkPort → LinkPort) : (s.modPort p f).now = s.now := by cases p <;> rfl
@[simp] theorem modPort_fresh (p : Port) (f : LinkPort → LinkPort) : (s.modPort p f).fresh = s.fresh := by cases p <;> rfl
@[simp] theorem modPort_dev (p : Port) (f : LinkPort → LinkPort) : (s.modPort p f).dev = s.dev := by cases p <;> rfl
@[simp] theorem modPort_fuse (p : Port) (f : LinkPort → LinkPort) : (s.modPort p f).fuse = s.fuse := by cases p <;> rfl
@[simp] theorem modPort_snow (p : Port) (f : LinkPort → LinkPort) : (s.modPort p f).snow = s.snow := by cases p <;> rfl
@[simp] theorem modPort_keeper (p : Port) (f : LinkPort → LinkPort) : (s.modPort p f).keeper = s.keeper := by cases p <;> rfl
@[simp] theorem modPort_win (p : Port) (f : LinkPort → LinkPort) : (s.modPort p f).win = s.win := by cases p <;> rfl
@[simp] theorem modPort_pwr (p : Port) (f : LinkPort → LinkPort) : (s.modPort p f).pwr = s.pwr := by cases p <;> rfl
@[simp] theorem modPort_mx (p : Port) (f : LinkPort → LinkPort) : (s.modPort p f).mx = s.mx := by cases p <;> rfl
@[simp] theorem modPort_pace (p : Port) (f : LinkPort → LinkPort) : (s.modPort p f).pace = s.pace := by cases p <;> rfl
@[simp] theorem modPort_ldr (p : Port) (f : LinkPort → LinkPort) : (s.modPort p f).ldr = s.ldr := by cases p <;> rfl
@[simp] theorem modPort_bld (p : Port) (f : LinkPort → LinkPort) : (s.modPort p f).bld = s.bld := by cases p <;> rfl
@[simp] theorem modPort_ram (p : Port) (f : LinkPort → LinkPort) : (s.modPort p f).ram = s.ram := by cases p <;> rfl
@[simp] theorem modPort_evt (p : Port) (f : LinkPort → LinkPort) : (s.modPort p f).evt = s.evt := by cases p <;> rfl
@[simp] theorem modPort_bank0 (p : Port) (f : LinkPort → LinkPort) : (s.modPort p f).bank0 = s.bank0 := by cases p <;> rfl
@[simp] theorem modPort_bank1 (p : Port) (f : LinkPort → LinkPort) : (s.modPort p f).bank1 = s.bank1 := by cases p <;> rfl
@[simp] theorem modPort_bank2 (p : Port) (f : LinkPort → LinkPort) : (s.modPort p f).bank2 = s.bank2 := by cases p <;> rfl
@[simp] theorem modPort_bank4 (p : Port) (f : LinkPort → LinkPort) : (s.modPort p f).bank4 = s.bank4 := by cases p <;> rfl
@[simp] theorem modPort_jrn (p : Port) (f : LinkPort → LinkPort) : (s.modPort p f).jrn = s.jrn := by cases p <;> rfl
@[simp] theorem modPort_link (p : Port) (f : LinkPort → LinkPort) : (s.modPort p f).link = s.link := by cases p <;> rfl
@[simp] theorem modPort_stm (p : Port) (f : LinkPort → LinkPort) : (s.modPort p f).stm = s.stm := by cases p <;> rfl
@[simp] theorem modPort_mtb (p : Port) (f : LinkPort → LinkPort) : (s.modPort p f).mtb = s.mtb := by cases p <;> rfl
@[simp] theorem modPort_chans (p : Port) (f : LinkPort → LinkPort) : (s.modPort p f).chans = s.chans := by cases p <;> rfl
@[simp] theorem modPort_dies (p : Port) (f : LinkPort → LinkPort) : (s.modPort p f).dies = s.dies := by cases p <;> rfl
@[simp] theorem modPort_twp (p : Port) (f : LinkPort → LinkPort) : (s.modPort p f).twp = s.twp := by cases p <;> rfl
@[simp] theorem modPort_swp (p : Port) (f : LinkPort → LinkPort) : (s.modPort p f).swp = s.swp := by cases p <;> rfl
@[simp] theorem modPort_ram6 (p : Port) (f : LinkPort → LinkPort) : (s.modPort p f).ram6 = s.ram6 := by cases p <;> rfl
@[simp] theorem modPort_trc (p : Port) (f : LinkPort → LinkPort) : (s.modPort p f).trc = s.trc := by cases p <;> rfl
@[simp] theorem modPort_flx (p : Port) (f : LinkPort → LinkPort) : (s.modPort p f).flx = s.flx := by cases p <;> rfl
@[simp] theorem modPort_coef (p : Port) (f : LinkPort → LinkPort) : (s.modPort p f).coef = s.coef := by cases p <;> rfl
@[simp] theorem modPort_tap (p : Port) (f : LinkPort → LinkPort) : (s.modPort p f).tap = s.tap := by cases p <;> rfl
@[simp] theorem modPort_wide (p : Port) (f : LinkPort → LinkPort) : (s.modPort p f).wide = s.wide := by cases p <;> rfl

/-! ## setPort -/

@[simp] theorem setPort_pending (p : Port) (l : LinkPort) : (s.setPort p l).pending = s.pending := by cases p <;> rfl
@[simp] theorem setPort_now (p : Port) (l : LinkPort) : (s.setPort p l).now = s.now := by cases p <;> rfl
@[simp] theorem setPort_fresh (p : Port) (l : LinkPort) : (s.setPort p l).fresh = s.fresh := by cases p <;> rfl
@[simp] theorem setPort_dev (p : Port) (l : LinkPort) : (s.setPort p l).dev = s.dev := by cases p <;> rfl
@[simp] theorem setPort_fuse (p : Port) (l : LinkPort) : (s.setPort p l).fuse = s.fuse := by cases p <;> rfl
@[simp] theorem setPort_snow (p : Port) (l : LinkPort) : (s.setPort p l).snow = s.snow := by cases p <;> rfl
@[simp] theorem setPort_keeper (p : Port) (l : LinkPort) : (s.setPort p l).keeper = s.keeper := by cases p <;> rfl
@[simp] theorem setPort_win (p : Port) (l : LinkPort) : (s.setPort p l).win = s.win := by cases p <;> rfl
@[simp] theorem setPort_pwr (p : Port) (l : LinkPort) : (s.setPort p l).pwr = s.pwr := by cases p <;> rfl
@[simp] theorem setPort_mx (p : Port) (l : LinkPort) : (s.setPort p l).mx = s.mx := by cases p <;> rfl
@[simp] theorem setPort_pace (p : Port) (l : LinkPort) : (s.setPort p l).pace = s.pace := by cases p <;> rfl
@[simp] theorem setPort_ldr (p : Port) (l : LinkPort) : (s.setPort p l).ldr = s.ldr := by cases p <;> rfl
@[simp] theorem setPort_bld (p : Port) (l : LinkPort) : (s.setPort p l).bld = s.bld := by cases p <;> rfl
@[simp] theorem setPort_ram (p : Port) (l : LinkPort) : (s.setPort p l).ram = s.ram := by cases p <;> rfl
@[simp] theorem setPort_evt (p : Port) (l : LinkPort) : (s.setPort p l).evt = s.evt := by cases p <;> rfl
@[simp] theorem setPort_bank0 (p : Port) (l : LinkPort) : (s.setPort p l).bank0 = s.bank0 := by cases p <;> rfl
@[simp] theorem setPort_bank1 (p : Port) (l : LinkPort) : (s.setPort p l).bank1 = s.bank1 := by cases p <;> rfl
@[simp] theorem setPort_bank2 (p : Port) (l : LinkPort) : (s.setPort p l).bank2 = s.bank2 := by cases p <;> rfl
@[simp] theorem setPort_bank4 (p : Port) (l : LinkPort) : (s.setPort p l).bank4 = s.bank4 := by cases p <;> rfl
@[simp] theorem setPort_jrn (p : Port) (l : LinkPort) : (s.setPort p l).jrn = s.jrn := by cases p <;> rfl
@[simp] theorem setPort_link (p : Port) (l : LinkPort) : (s.setPort p l).link = s.link := by cases p <;> rfl
@[simp] theorem setPort_stm (p : Port) (l : LinkPort) : (s.setPort p l).stm = s.stm := by cases p <;> rfl
@[simp] theorem setPort_mtb (p : Port) (l : LinkPort) : (s.setPort p l).mtb = s.mtb := by cases p <;> rfl
@[simp] theorem setPort_chans (p : Port) (l : LinkPort) : (s.setPort p l).chans = s.chans := by cases p <;> rfl
@[simp] theorem setPort_dies (p : Port) (l : LinkPort) : (s.setPort p l).dies = s.dies := by cases p <;> rfl
@[simp] theorem setPort_twp (p : Port) (l : LinkPort) : (s.setPort p l).twp = s.twp := by cases p <;> rfl
@[simp] theorem setPort_swp (p : Port) (l : LinkPort) : (s.setPort p l).swp = s.swp := by cases p <;> rfl
@[simp] theorem setPort_ram6 (p : Port) (l : LinkPort) : (s.setPort p l).ram6 = s.ram6 := by cases p <;> rfl
@[simp] theorem setPort_trc (p : Port) (l : LinkPort) : (s.setPort p l).trc = s.trc := by cases p <;> rfl
@[simp] theorem setPort_flx (p : Port) (l : LinkPort) : (s.setPort p l).flx = s.flx := by cases p <;> rfl
@[simp] theorem setPort_coef (p : Port) (l : LinkPort) : (s.setPort p l).coef = s.coef := by cases p <;> rfl
@[simp] theorem setPort_tap (p : Port) (l : LinkPort) : (s.setPort p l).tap = s.tap := by cases p <;> rfl
@[simp] theorem setPort_wide (p : Port) (l : LinkPort) : (s.setPort p l).wide = s.wide := by cases p <;> rfl

/-! ## setBank -/

@[simp] theorem setBank_pending (m : Master) (b : Bank) : (s.setBank m b).pending = s.pending := by cases m <;> rfl
@[simp] theorem setBank_now (m : Master) (b : Bank) : (s.setBank m b).now = s.now := by cases m <;> rfl
@[simp] theorem setBank_fresh (m : Master) (b : Bank) : (s.setBank m b).fresh = s.fresh := by cases m <;> rfl
@[simp] theorem setBank_dev (m : Master) (b : Bank) : (s.setBank m b).dev = s.dev := by cases m <;> rfl
@[simp] theorem setBank_fuse (m : Master) (b : Bank) : (s.setBank m b).fuse = s.fuse := by cases m <;> rfl
@[simp] theorem setBank_snow (m : Master) (b : Bank) : (s.setBank m b).snow = s.snow := by cases m <;> rfl
@[simp] theorem setBank_keeper (m : Master) (b : Bank) : (s.setBank m b).keeper = s.keeper := by cases m <;> rfl
@[simp] theorem setBank_win (m : Master) (b : Bank) : (s.setBank m b).win = s.win := by cases m <;> rfl
@[simp] theorem setBank_pwr (m : Master) (b : Bank) : (s.setBank m b).pwr = s.pwr := by cases m <;> rfl
@[simp] theorem setBank_mx (m : Master) (b : Bank) : (s.setBank m b).mx = s.mx := by cases m <;> rfl
@[simp] theorem setBank_pace (m : Master) (b : Bank) : (s.setBank m b).pace = s.pace := by cases m <;> rfl
@[simp] theorem setBank_ldr (m : Master) (b : Bank) : (s.setBank m b).ldr = s.ldr := by cases m <;> rfl
@[simp] theorem setBank_bld (m : Master) (b : Bank) : (s.setBank m b).bld = s.bld := by cases m <;> rfl
@[simp] theorem setBank_ram (m : Master) (b : Bank) : (s.setBank m b).ram = s.ram := by cases m <;> rfl
@[simp] theorem setBank_evt (m : Master) (b : Bank) : (s.setBank m b).evt = s.evt := by cases m <;> rfl
@[simp] theorem setBank_jrn (m : Master) (b : Bank) : (s.setBank m b).jrn = s.jrn := by cases m <;> rfl
@[simp] theorem setBank_portA (m : Master) (b : Bank) : (s.setBank m b).portA = s.portA := by cases m <;> rfl
@[simp] theorem setBank_portB (m : Master) (b : Bank) : (s.setBank m b).portB = s.portB := by cases m <;> rfl
@[simp] theorem setBank_link (m : Master) (b : Bank) : (s.setBank m b).link = s.link := by cases m <;> rfl
@[simp] theorem setBank_stm (m : Master) (b : Bank) : (s.setBank m b).stm = s.stm := by cases m <;> rfl
@[simp] theorem setBank_mtb (m : Master) (b : Bank) : (s.setBank m b).mtb = s.mtb := by cases m <;> rfl
@[simp] theorem setBank_chans (m : Master) (b : Bank) : (s.setBank m b).chans = s.chans := by cases m <;> rfl
@[simp] theorem setBank_dies (m : Master) (b : Bank) : (s.setBank m b).dies = s.dies := by cases m <;> rfl
@[simp] theorem setBank_twp (m : Master) (b : Bank) : (s.setBank m b).twp = s.twp := by cases m <;> rfl
@[simp] theorem setBank_swp (m : Master) (b : Bank) : (s.setBank m b).swp = s.swp := by cases m <;> rfl
@[simp] theorem setBank_ram6 (m : Master) (b : Bank) : (s.setBank m b).ram6 = s.ram6 := by cases m <;> rfl
@[simp] theorem setBank_trc (m : Master) (b : Bank) : (s.setBank m b).trc = s.trc := by cases m <;> rfl
@[simp] theorem setBank_flx (m : Master) (b : Bank) : (s.setBank m b).flx = s.flx := by cases m <;> rfl
@[simp] theorem setBank_coef (m : Master) (b : Bank) : (s.setBank m b).coef = s.coef := by cases m <;> rfl
@[simp] theorem setBank_tap (m : Master) (b : Bank) : (s.setBank m b).tap = s.tap := by cases m <;> rfl
@[simp] theorem setBank_wide (m : Master) (b : Bank) : (s.setBank m b).wide = s.wide := by cases m <;> rfl

/-! ## jot -/

@[simp] theorem jot_pending (src kind out code idx : Nat) (data : List Byte) (dig : Option (BitVec 128)) : (s.jot src kind out code idx data dig).pending = s.pending := rfl
@[simp] theorem jot_now (src kind out code idx : Nat) (data : List Byte) (dig : Option (BitVec 128)) : (s.jot src kind out code idx data dig).now = s.now := rfl
@[simp] theorem jot_fresh (src kind out code idx : Nat) (data : List Byte) (dig : Option (BitVec 128)) : (s.jot src kind out code idx data dig).fresh = s.fresh := rfl
@[simp] theorem jot_dev (src kind out code idx : Nat) (data : List Byte) (dig : Option (BitVec 128)) : (s.jot src kind out code idx data dig).dev = s.dev := rfl
@[simp] theorem jot_fuse (src kind out code idx : Nat) (data : List Byte) (dig : Option (BitVec 128)) : (s.jot src kind out code idx data dig).fuse = s.fuse := rfl
@[simp] theorem jot_snow (src kind out code idx : Nat) (data : List Byte) (dig : Option (BitVec 128)) : (s.jot src kind out code idx data dig).snow = s.snow := rfl
@[simp] theorem jot_keeper (src kind out code idx : Nat) (data : List Byte) (dig : Option (BitVec 128)) : (s.jot src kind out code idx data dig).keeper = s.keeper := rfl
@[simp] theorem jot_win (src kind out code idx : Nat) (data : List Byte) (dig : Option (BitVec 128)) : (s.jot src kind out code idx data dig).win = s.win := rfl
@[simp] theorem jot_pwr (src kind out code idx : Nat) (data : List Byte) (dig : Option (BitVec 128)) : (s.jot src kind out code idx data dig).pwr = s.pwr := rfl
@[simp] theorem jot_mx (src kind out code idx : Nat) (data : List Byte) (dig : Option (BitVec 128)) : (s.jot src kind out code idx data dig).mx = s.mx := rfl
@[simp] theorem jot_pace (src kind out code idx : Nat) (data : List Byte) (dig : Option (BitVec 128)) : (s.jot src kind out code idx data dig).pace = s.pace := rfl
@[simp] theorem jot_ldr (src kind out code idx : Nat) (data : List Byte) (dig : Option (BitVec 128)) : (s.jot src kind out code idx data dig).ldr = s.ldr := rfl
@[simp] theorem jot_bld (src kind out code idx : Nat) (data : List Byte) (dig : Option (BitVec 128)) : (s.jot src kind out code idx data dig).bld = s.bld := rfl
@[simp] theorem jot_ram (src kind out code idx : Nat) (data : List Byte) (dig : Option (BitVec 128)) : (s.jot src kind out code idx data dig).ram = s.ram := rfl
@[simp] theorem jot_evt (src kind out code idx : Nat) (data : List Byte) (dig : Option (BitVec 128)) : (s.jot src kind out code idx data dig).evt = s.evt := rfl
@[simp] theorem jot_bank0 (src kind out code idx : Nat) (data : List Byte) (dig : Option (BitVec 128)) : (s.jot src kind out code idx data dig).bank0 = s.bank0 := rfl
@[simp] theorem jot_bank1 (src kind out code idx : Nat) (data : List Byte) (dig : Option (BitVec 128)) : (s.jot src kind out code idx data dig).bank1 = s.bank1 := rfl
@[simp] theorem jot_bank2 (src kind out code idx : Nat) (data : List Byte) (dig : Option (BitVec 128)) : (s.jot src kind out code idx data dig).bank2 = s.bank2 := rfl
@[simp] theorem jot_bank4 (src kind out code idx : Nat) (data : List Byte) (dig : Option (BitVec 128)) : (s.jot src kind out code idx data dig).bank4 = s.bank4 := rfl
@[simp] theorem jot_portA (src kind out code idx : Nat) (data : List Byte) (dig : Option (BitVec 128)) : (s.jot src kind out code idx data dig).portA = s.portA := rfl
@[simp] theorem jot_portB (src kind out code idx : Nat) (data : List Byte) (dig : Option (BitVec 128)) : (s.jot src kind out code idx data dig).portB = s.portB := rfl
@[simp] theorem jot_link (src kind out code idx : Nat) (data : List Byte) (dig : Option (BitVec 128)) : (s.jot src kind out code idx data dig).link = s.link := rfl
@[simp] theorem jot_stm (src kind out code idx : Nat) (data : List Byte) (dig : Option (BitVec 128)) : (s.jot src kind out code idx data dig).stm = s.stm := rfl
@[simp] theorem jot_mtb (src kind out code idx : Nat) (data : List Byte) (dig : Option (BitVec 128)) : (s.jot src kind out code idx data dig).mtb = s.mtb := rfl
@[simp] theorem jot_chans (src kind out code idx : Nat) (data : List Byte) (dig : Option (BitVec 128)) : (s.jot src kind out code idx data dig).chans = s.chans := rfl
@[simp] theorem jot_dies (src kind out code idx : Nat) (data : List Byte) (dig : Option (BitVec 128)) : (s.jot src kind out code idx data dig).dies = s.dies := rfl
@[simp] theorem jot_twp (src kind out code idx : Nat) (data : List Byte) (dig : Option (BitVec 128)) : (s.jot src kind out code idx data dig).twp = s.twp := rfl
@[simp] theorem jot_swp (src kind out code idx : Nat) (data : List Byte) (dig : Option (BitVec 128)) : (s.jot src kind out code idx data dig).swp = s.swp := rfl
@[simp] theorem jot_ram6 (src kind out code idx : Nat) (data : List Byte) (dig : Option (BitVec 128)) : (s.jot src kind out code idx data dig).ram6 = s.ram6 := rfl
@[simp] theorem jot_trc (src kind out code idx : Nat) (data : List Byte) (dig : Option (BitVec 128)) : (s.jot src kind out code idx data dig).trc = s.trc := rfl
@[simp] theorem jot_flx (src kind out code idx : Nat) (data : List Byte) (dig : Option (BitVec 128)) : (s.jot src kind out code idx data dig).flx = s.flx := rfl
@[simp] theorem jot_coef (src kind out code idx : Nat) (data : List Byte) (dig : Option (BitVec 128)) : (s.jot src kind out code idx data dig).coef = s.coef := rfl
@[simp] theorem jot_tap (src kind out code idx : Nat) (data : List Byte) (dig : Option (BitVec 128)) : (s.jot src kind out code idx data dig).tap = s.tap := rfl
@[simp] theorem jot_wide (src kind out code idx : Nat) (data : List Byte) (dig : Option (BitVec 128)) : (s.jot src kind out code idx data dig).wide = s.wide := rfl

/-! ## noteEv -/

@[simp] theorem noteEv_pending (e : EvMsg) : (s.noteEv e).pending = s.pending := rfl
@[simp] theorem noteEv_now (e : EvMsg) : (s.noteEv e).now = s.now := rfl
@[simp] theorem noteEv_fresh (e : EvMsg) : (s.noteEv e).fresh = s.fresh := rfl
@[simp] theorem noteEv_dev (e : EvMsg) : (s.noteEv e).dev = s.dev := rfl
@[simp] theorem noteEv_fuse (e : EvMsg) : (s.noteEv e).fuse = s.fuse := rfl
@[simp] theorem noteEv_snow (e : EvMsg) : (s.noteEv e).snow = s.snow := rfl
@[simp] theorem noteEv_keeper (e : EvMsg) : (s.noteEv e).keeper = s.keeper := rfl
@[simp] theorem noteEv_win (e : EvMsg) : (s.noteEv e).win = s.win := rfl
@[simp] theorem noteEv_pwr (e : EvMsg) : (s.noteEv e).pwr = s.pwr := rfl
@[simp] theorem noteEv_mx (e : EvMsg) : (s.noteEv e).mx = s.mx := rfl
@[simp] theorem noteEv_pace (e : EvMsg) : (s.noteEv e).pace = s.pace := rfl
@[simp] theorem noteEv_ldr (e : EvMsg) : (s.noteEv e).ldr = s.ldr := rfl
@[simp] theorem noteEv_bld (e : EvMsg) : (s.noteEv e).bld = s.bld := rfl
@[simp] theorem noteEv_ram (e : EvMsg) : (s.noteEv e).ram = s.ram := rfl
@[simp] theorem noteEv_bank0 (e : EvMsg) : (s.noteEv e).bank0 = s.bank0 := rfl
@[simp] theorem noteEv_bank1 (e : EvMsg) : (s.noteEv e).bank1 = s.bank1 := rfl
@[simp] theorem noteEv_bank2 (e : EvMsg) : (s.noteEv e).bank2 = s.bank2 := rfl
@[simp] theorem noteEv_bank4 (e : EvMsg) : (s.noteEv e).bank4 = s.bank4 := rfl
@[simp] theorem noteEv_jrn (e : EvMsg) : (s.noteEv e).jrn = s.jrn := rfl
@[simp] theorem noteEv_portA (e : EvMsg) : (s.noteEv e).portA = s.portA := rfl
@[simp] theorem noteEv_portB (e : EvMsg) : (s.noteEv e).portB = s.portB := rfl
@[simp] theorem noteEv_link (e : EvMsg) : (s.noteEv e).link = s.link := rfl
@[simp] theorem noteEv_stm (e : EvMsg) : (s.noteEv e).stm = s.stm := rfl
@[simp] theorem noteEv_mtb (e : EvMsg) : (s.noteEv e).mtb = s.mtb := rfl
@[simp] theorem noteEv_chans (e : EvMsg) : (s.noteEv e).chans = s.chans := rfl
@[simp] theorem noteEv_dies (e : EvMsg) : (s.noteEv e).dies = s.dies := rfl
@[simp] theorem noteEv_swp (e : EvMsg) : (s.noteEv e).swp = s.swp := rfl
@[simp] theorem noteEv_ram6 (e : EvMsg) : (s.noteEv e).ram6 = s.ram6 := rfl
@[simp] theorem noteEv_flx (e : EvMsg) : (s.noteEv e).flx = s.flx := rfl
@[simp] theorem noteEv_coef (e : EvMsg) : (s.noteEv e).coef = s.coef := rfl
@[simp] theorem noteEv_tap (e : EvMsg) : (s.noteEv e).tap = s.tap := rfl
@[simp] theorem noteEv_wide (e : EvMsg) : (s.noteEv e).wide = s.wide := rfl

/-! ## queueEvs -/

@[simp] theorem queueEvs_pending (e : EvMsg) : (s.queueEvs e).pending = s.pending := by unfold State.queueEvs; split <;> rfl
@[simp] theorem queueEvs_now (e : EvMsg) : (s.queueEvs e).now = s.now := by unfold State.queueEvs; split <;> rfl
@[simp] theorem queueEvs_fresh (e : EvMsg) : (s.queueEvs e).fresh = s.fresh := by unfold State.queueEvs; split <;> rfl
@[simp] theorem queueEvs_dev (e : EvMsg) : (s.queueEvs e).dev = s.dev := by unfold State.queueEvs; split <;> rfl
@[simp] theorem queueEvs_fuse (e : EvMsg) : (s.queueEvs e).fuse = s.fuse := by unfold State.queueEvs; split <;> rfl
@[simp] theorem queueEvs_snow (e : EvMsg) : (s.queueEvs e).snow = s.snow := by unfold State.queueEvs; split <;> rfl
@[simp] theorem queueEvs_keeper (e : EvMsg) : (s.queueEvs e).keeper = s.keeper := by unfold State.queueEvs; split <;> rfl
@[simp] theorem queueEvs_win (e : EvMsg) : (s.queueEvs e).win = s.win := by unfold State.queueEvs; split <;> rfl
@[simp] theorem queueEvs_pwr (e : EvMsg) : (s.queueEvs e).pwr = s.pwr := by unfold State.queueEvs; split <;> rfl
@[simp] theorem queueEvs_mx (e : EvMsg) : (s.queueEvs e).mx = s.mx := by unfold State.queueEvs; split <;> rfl
@[simp] theorem queueEvs_pace (e : EvMsg) : (s.queueEvs e).pace = s.pace := by unfold State.queueEvs; split <;> rfl
@[simp] theorem queueEvs_ldr (e : EvMsg) : (s.queueEvs e).ldr = s.ldr := by unfold State.queueEvs; split <;> rfl
@[simp] theorem queueEvs_bld (e : EvMsg) : (s.queueEvs e).bld = s.bld := by unfold State.queueEvs; split <;> rfl
@[simp] theorem queueEvs_ram (e : EvMsg) : (s.queueEvs e).ram = s.ram := by unfold State.queueEvs; split <;> rfl
@[simp] theorem queueEvs_evt (e : EvMsg) : (s.queueEvs e).evt = s.evt := by unfold State.queueEvs; split <;> rfl
@[simp] theorem queueEvs_bank0 (e : EvMsg) : (s.queueEvs e).bank0 = s.bank0 := by unfold State.queueEvs; split <;> rfl
@[simp] theorem queueEvs_bank1 (e : EvMsg) : (s.queueEvs e).bank1 = s.bank1 := by unfold State.queueEvs; split <;> rfl
@[simp] theorem queueEvs_bank2 (e : EvMsg) : (s.queueEvs e).bank2 = s.bank2 := by unfold State.queueEvs; split <;> rfl
@[simp] theorem queueEvs_bank4 (e : EvMsg) : (s.queueEvs e).bank4 = s.bank4 := by unfold State.queueEvs; split <;> rfl
@[simp] theorem queueEvs_jrn (e : EvMsg) : (s.queueEvs e).jrn = s.jrn := by unfold State.queueEvs; split <;> rfl
@[simp] theorem queueEvs_link (e : EvMsg) : (s.queueEvs e).link = s.link := by unfold State.queueEvs; split <;> rfl
@[simp] theorem queueEvs_stm (e : EvMsg) : (s.queueEvs e).stm = s.stm := by unfold State.queueEvs; split <;> rfl
@[simp] theorem queueEvs_mtb (e : EvMsg) : (s.queueEvs e).mtb = s.mtb := by unfold State.queueEvs; split <;> rfl
@[simp] theorem queueEvs_chans (e : EvMsg) : (s.queueEvs e).chans = s.chans := by unfold State.queueEvs; split <;> rfl
@[simp] theorem queueEvs_dies (e : EvMsg) : (s.queueEvs e).dies = s.dies := by unfold State.queueEvs; split <;> rfl
@[simp] theorem queueEvs_twp (e : EvMsg) : (s.queueEvs e).twp = s.twp := by unfold State.queueEvs; split <;> rfl
@[simp] theorem queueEvs_swp (e : EvMsg) : (s.queueEvs e).swp = s.swp := by unfold State.queueEvs; split <;> rfl
@[simp] theorem queueEvs_ram6 (e : EvMsg) : (s.queueEvs e).ram6 = s.ram6 := by unfold State.queueEvs; split <;> rfl
@[simp] theorem queueEvs_trc (e : EvMsg) : (s.queueEvs e).trc = s.trc := by unfold State.queueEvs; split <;> rfl
@[simp] theorem queueEvs_flx (e : EvMsg) : (s.queueEvs e).flx = s.flx := by unfold State.queueEvs; split <;> rfl
@[simp] theorem queueEvs_coef (e : EvMsg) : (s.queueEvs e).coef = s.coef := by unfold State.queueEvs; split <;> rfl
@[simp] theorem queueEvs_tap (e : EvMsg) : (s.queueEvs e).tap = s.tap := by unfold State.queueEvs; split <;> rfl
@[simp] theorem queueEvs_wide (e : EvMsg) : (s.queueEvs e).wide = s.wide := by unfold State.queueEvs; split <;> rfl

/-! ## mxLog -/

@[simp] theorem mxLog_pending (m : Master) (t k b : Nat) : (s.mxLog m t k b).pending = s.pending := rfl
@[simp] theorem mxLog_now (m : Master) (t k b : Nat) : (s.mxLog m t k b).now = s.now := rfl
@[simp] theorem mxLog_fresh (m : Master) (t k b : Nat) : (s.mxLog m t k b).fresh = s.fresh := rfl
@[simp] theorem mxLog_dev (m : Master) (t k b : Nat) : (s.mxLog m t k b).dev = s.dev := rfl
@[simp] theorem mxLog_fuse (m : Master) (t k b : Nat) : (s.mxLog m t k b).fuse = s.fuse := rfl
@[simp] theorem mxLog_snow (m : Master) (t k b : Nat) : (s.mxLog m t k b).snow = s.snow := rfl
@[simp] theorem mxLog_keeper (m : Master) (t k b : Nat) : (s.mxLog m t k b).keeper = s.keeper := rfl
@[simp] theorem mxLog_win (m : Master) (t k b : Nat) : (s.mxLog m t k b).win = s.win := rfl
@[simp] theorem mxLog_pwr (m : Master) (t k b : Nat) : (s.mxLog m t k b).pwr = s.pwr := rfl
@[simp] theorem mxLog_mx (m : Master) (t k b : Nat) : (s.mxLog m t k b).mx = s.mx := rfl
@[simp] theorem mxLog_ldr (m : Master) (t k b : Nat) : (s.mxLog m t k b).ldr = s.ldr := rfl
@[simp] theorem mxLog_bld (m : Master) (t k b : Nat) : (s.mxLog m t k b).bld = s.bld := rfl
@[simp] theorem mxLog_ram (m : Master) (t k b : Nat) : (s.mxLog m t k b).ram = s.ram := rfl
@[simp] theorem mxLog_evt (m : Master) (t k b : Nat) : (s.mxLog m t k b).evt = s.evt := rfl
@[simp] theorem mxLog_bank0 (m : Master) (t k b : Nat) : (s.mxLog m t k b).bank0 = s.bank0 := rfl
@[simp] theorem mxLog_bank1 (m : Master) (t k b : Nat) : (s.mxLog m t k b).bank1 = s.bank1 := rfl
@[simp] theorem mxLog_bank2 (m : Master) (t k b : Nat) : (s.mxLog m t k b).bank2 = s.bank2 := rfl
@[simp] theorem mxLog_bank4 (m : Master) (t k b : Nat) : (s.mxLog m t k b).bank4 = s.bank4 := rfl
@[simp] theorem mxLog_jrn (m : Master) (t k b : Nat) : (s.mxLog m t k b).jrn = s.jrn := rfl
@[simp] theorem mxLog_portA (m : Master) (t k b : Nat) : (s.mxLog m t k b).portA = s.portA := rfl
@[simp] theorem mxLog_portB (m : Master) (t k b : Nat) : (s.mxLog m t k b).portB = s.portB := rfl
@[simp] theorem mxLog_link (m : Master) (t k b : Nat) : (s.mxLog m t k b).link = s.link := rfl
@[simp] theorem mxLog_stm (m : Master) (t k b : Nat) : (s.mxLog m t k b).stm = s.stm := rfl
@[simp] theorem mxLog_mtb (m : Master) (t k b : Nat) : (s.mxLog m t k b).mtb = s.mtb := rfl
@[simp] theorem mxLog_chans (m : Master) (t k b : Nat) : (s.mxLog m t k b).chans = s.chans := rfl
@[simp] theorem mxLog_dies (m : Master) (t k b : Nat) : (s.mxLog m t k b).dies = s.dies := rfl
@[simp] theorem mxLog_twp (m : Master) (t k b : Nat) : (s.mxLog m t k b).twp = s.twp := rfl
@[simp] theorem mxLog_swp (m : Master) (t k b : Nat) : (s.mxLog m t k b).swp = s.swp := rfl
@[simp] theorem mxLog_ram6 (m : Master) (t k b : Nat) : (s.mxLog m t k b).ram6 = s.ram6 := rfl
@[simp] theorem mxLog_trc (m : Master) (t k b : Nat) : (s.mxLog m t k b).trc = s.trc := rfl
@[simp] theorem mxLog_flx (m : Master) (t k b : Nat) : (s.mxLog m t k b).flx = s.flx := rfl
@[simp] theorem mxLog_coef (m : Master) (t k b : Nat) : (s.mxLog m t k b).coef = s.coef := rfl
@[simp] theorem mxLog_tap (m : Master) (t k b : Nat) : (s.mxLog m t k b).tap = s.tap := rfl
@[simp] theorem mxLog_wide (m : Master) (t k b : Nat) : (s.mxLog m t k b).wide = s.wide := rfl

end Sys2Proof.Machine
end

