-- ==== Sys2Proof/Laws/Access.lean ====
section
/-! SUPPORT. Access to channels, dies, ports and the journal's queue: a change is seen where it was made and
nowhere else. -/

namespace Sys2Proof.Machine

variable (s : State)

@[simp] theorem ch_modCh_same (n : Chan) (f : Channel → Channel) : (s.modCh n f).ch n = f (s.ch n) := by
  simp [State.ch, State.modCh]

theorem ch_modCh_ne {n j : Chan} (f : Channel → Channel) (h : j ≠ n) : (s.modCh n f).ch j = s.ch j := by
  have : n.val ≠ j.val := fun e => h (Fin.ext e.symm)
  simp [State.ch, State.modCh, this]

theorem ch_modCh (n j : Chan) (f : Channel → Channel) :
    (s.modCh n f).ch j = if j = n then f (s.ch n) else s.ch j := by
  by_cases h : j = n
  · subst h; simp
  · simp [h, ch_modCh_ne]

@[simp] theorem die_modDie_same (k : Die) (f : DieState → DieState) : (s.modDie k f).die k = f (s.die k) := by
  simp [State.die, State.modDie]

theorem die_modDie_ne {k j : Die} (f : DieState → DieState) (h : j ≠ k) : (s.modDie k f).die j = s.die j := by
  have : k.val ≠ j.val := fun e => h (Fin.ext e.symm)
  simp [State.die, State.modDie, this]

@[simp] theorem ch_modDie (k : Die) (n : Chan) (f : DieState → DieState) : (s.modDie k f).ch n = s.ch n := rfl

@[simp] theorem die_modCh (k : Die) (n : Chan) (f : Channel → Channel) : (s.modCh n f).die k = s.die k := rfl

@[simp] theorem port_modPort_same (p : Port) (f : LinkPort → LinkPort) : (s.modPort p f).port p = f (s.port p) := by
  cases p <;> rfl

theorem port_modPort_ne {p q : Port} (f : LinkPort → LinkPort) (h : q ≠ p) : (s.modPort p f).port q = s.port q := by
  cases p <;> cases q <;> first | rfl | exact absurd rfl h

@[simp] theorem ch_modPort (p : Port) (n : Chan) (f : LinkPort → LinkPort) : (s.modPort p f).ch n = s.ch n := by
  cases p <;> rfl

/-- An entry is queued, dropped for a full queue, or dropped after a failure of the journal RAM (R347, R348);
the written entries, the head and the chain stay. -/
theorem push_cases (j : Journal) (e : JEntry) :
    (j.failed = true ∧ j.push e = { j with dropped := satInc j.dropped }) ∨
    (j.failed = false ∧ 1024 < j.queue.length + j.need ∧
      j.push e = { j with dropped := satInc j.dropped, gap := j.gap + 1 }) ∨
    (j.failed = false ∧ j.queue.length + j.need ≤ 1024 ∧
      j.push e = if j.gap = 0 then { j with queue := j.queue ++ [e] }
        else { j with queue := j.queue ++ [gapEntry e.frame j.gap, e], gap := 0 }) := by
  unfold Journal.push Journal.full
  cases h : j.failed with
  | true => exact .inl ⟨rfl, rfl⟩
  | false =>
    by_cases hq : 1024 < j.queue.length + j.need
    · exact .inr (.inl ⟨rfl, hq, by simp [hq]⟩)
    · exact .inr (.inr ⟨rfl, by omega, by simp [hq]⟩)

theorem push_ents (j : Journal) (e : JEntry) : (j.push e).ents = j.ents := by
  rcases push_cases j e with ⟨-, h⟩ | ⟨-, -, h⟩ | ⟨-, -, h⟩ <;> rw [h]
  split <;> rfl

theorem push_queue_le {j : Journal} (e : JEntry) (h : j.queue.length ≤ 1024) : (j.push e).queue.length ≤ 1024 := by
  rcases push_cases j e with ⟨-, k⟩ | ⟨-, -, k⟩ | ⟨-, l, k⟩ <;> rw [k]
  · exact h
  · exact h
  · unfold Journal.need at l
    split <;> rename_i g <;> simp [g] at l ⊢ <;> omega

/-- A master with the right to write has the write's effect; another is denied (R32). -/
theorem byMaster_cases (m : Master) (w off : Nat) (t : State) :
    (regRight m w off = true ∧ s.byMaster m w off t = t) ∨
    (regRight m w off = false ∧ s.byMaster m w off t = s.denyReg m w off) := by
  unfold State.byMaster
  cases regRight m w off <;> simp

/-- A master that may write every register may write this one. -/
theorem regRight_of_mayWrite {m : Master} (h : mayWrite m = true) (w off : Nat) : regRight m w off = true := by
  simp [regRight, h]

/-- A pass over the channels that changes none of them changes nothing. -/
theorem overChans_same (s : State) (p : State → Chan → Bool) (f : State → Chan → State) (h : ∀ n, f s n = s) :
    s.overChans p f = s := by
  unfold State.overChans
  induction allChans with
  | nil => rfl
  | cons n l ih => simpa [h n] using ih

/-- A channel on which no decision of the tick is due is settled, where no patch waits (R31, R127). -/
theorem settled_of_nothing_due (s : State) (n : Chan) (ha : s.ldr.accepted = none) (hh : s.ldr.heldPatch = none)
    (hp : (s.ch n).loop.paceFaultRun < 4) (ho : (s.ch n).prot.openRun < 5)
    (hl : (s.ch n).loop.suspect = false) (hf : (s.ch n).loop.feDue = false) : s.settled n := by
  have h1 : s.paceReport n = s := if_neg (by simp; omega)
  have h2 : s.openReport n = s := by
    unfold State.openReport
    split
    · exact if_neg (by simp; omega)
    · rfl
  have h3 : s.lfReport n = s := by simp [State.lfReport, hl]
  have h4 : s.feReport n = s := if_neg (by simp [hf])
  exact ⟨by simp [State.duePatch, ha, hh], by simp only [State.settle, h1, h2, h3, h4]⟩

/-- A device on whose channels no decision of the tick is due has nothing to take before a transition (R31, R127). -/
theorem settleAll_of_nothing_due (s : State) (ha : s.ldr.accepted = none) (hh : s.ldr.heldPatch = none)
    (h : ∀ n, (s.ch n).loop.paceFaultRun < 4 ∧ (s.ch n).prot.openRun < 5 ∧ (s.ch n).loop.suspect = false ∧
      (s.ch n).loop.feDue = false) : s.settleAll = s := by
  have d : s.duePatch = s := by simp [State.duePatch, ha, hh]
  have k n := settled_of_nothing_due s n ha hh (h n).1 (h n).2.1 (h n).2.2.1 (h n).2.2.2
  simp only [State.settleAll, d, overChans_same s _ _ fun n => (k n).2]

end Sys2Proof.Machine
end

