-- ==== Sys2Proof/Laws/Constants.lean ====
section
/-! SUPPORT. What the searches over free constants give: a ROM that meets R84 where one does, and a fit that no other point
betters (R153). -/

namespace Sys2Proof.Machine

theorem allBelow_iff (p : Nat → Bool) (n : Nat) : allBelow p n = true ↔ ∀ k, k < n → p k = true := by
  induction n with
  | zero => simp [allBelow]
  | succ n ih =>
    rw [allBelow, Bool.and_eq_true, ih]
    constructor
    · rintro ⟨h, g⟩ k hk
      rcases Nat.lt_succ_iff_lt_or_eq.mp hk with h' | rfl
      · exact g k h'
      · exact h
    · exact fun h => ⟨h n (Nat.lt_succ_self n), fun k hk => h k (Nat.lt_succ_of_lt hk)⟩

theorem firstBelow_zero (p : Nat → Bool) : firstBelow p 0 = none := by with_unfolding_all rfl

theorem firstBelow_succ (p : Nat → Bool) (n : Nat) :
    firstBelow p (n + 1) = (firstBelow p n).orElse fun _ => if p n then some n else none := by with_unfolding_all rfl

/-- What the first number found meets the condition, and there is one where some number meets it. -/
theorem firstBelow_spec (p : Nat → Bool) (n : Nat) :
    (∀ j, firstBelow p n = some j → p j = true) ∧ ((∃ k, k < n ∧ p k = true) → (firstBelow p n).isSome = true) := by
  induction n with
  | zero => simp [firstBelow_zero]
  | succ n ih =>
    rw [firstBelow_succ]
    cases h : firstBelow p n with
    | some j => simpa using ih.1 j h
    | none =>
      rw [h] at ih
      by_cases hn : p n = true
      · simp [hn]
      · refine ⟨by simp [hn], fun ⟨k, hk, hp⟩ => ?_⟩
        rcases Nat.lt_succ_iff_lt_or_eq.mp hk with h' | rfl
        · simpa using ih.2 ⟨k, h', hp⟩
        · exact absurd hp hn

/-- The prototype in use meets R84 where any ROM does. -/
theorem romOf_meets (pick r : Nat) (hr : r < 2 ^ (Config.romWidth * 3969)) (h : romMeets r = true) :
    romMeets (romOf pick) = true := by
  have g := firstBelow_spec romMeets (2 ^ (Config.romWidth * 3969))
  rw [romOf]
  split
  · assumption
  · obtain ⟨j, hj⟩ := Option.isSome_iff_exists.mp (g.2 ⟨r, hr, h⟩)
    simpa [hj] using g.1 j hj

theorem leastBelow_zero (cost : Nat → Option Rat) : leastBelow cost 0 = none := by with_unfolding_all rfl

theorem leastBelow_succ (cost : Nat → Option Rat) (n : Nat) :
    leastBelow cost (n + 1) = match leastBelow cost n, cost n with
      | b, none => b
      | none, some _ => some n
      | some b, some x => if x < (cost b).getD x then some n else some b := by with_unfolding_all rfl

/-- The number found has the least cost of those below the bound, and there is one where some number has a cost. -/
theorem leastBelow_spec (cost : Nat → Option Rat) (n : Nat) :
    match leastBelow cost n with
    | none => ∀ k, k < n → cost k = none
    | some j => j < n ∧ ∃ x, cost j = some x ∧ ∀ k, k < n → ∀ y, cost k = some y → x ≤ y := by
  induction n with
  | zero => simp [leastBelow_zero]
  | succ n ih =>
    rw [leastBelow_succ]
    cases h : leastBelow cost n with
    | none =>
      rw [h] at ih
      cases c : cost n with
      | none => grind
      | some x => simp only; grind
    | some b =>
      rw [h] at ih
      cases c : cost n with
      | none => grind
      | some x =>
        obtain ⟨hb, y, hy, g⟩ := ih
        simp only [hy, Option.getD_some]
        split <;> grind

/-- The fitter's point has the least cost of all points. -/
theorem leastPoint_least (cost : Nat → Option Rat) (pick k : Nat) (hk : k < 2 ^ 160) (y : Rat)
    (h : cost k = some y) : ∃ x, cost (leastPoint cost pick) = some x ∧ x ≤ y := by
  have g := leastBelow_spec cost (2 ^ 160)
  rw [leastPoint]
  cases e : leastBelow cost (2 ^ 160) with
  | none => rw [e] at g; grind
  | some j =>
    rw [e] at g
    obtain ⟨_, x, hx, l⟩ := g
    exact ⟨x, by simp only [Option.getD_some]; split <;> grind, l k hk y h⟩

end Sys2Proof.Machine
end

