-- ==== Sys2Proof/Laws/Memory.lean ====
section
/-! SUPPORT. The laws of the byte memories: what a write makes a read give, and that it keeps the canonical
form. -/

namespace Sys2Proof.Machine

/-- The first address that a canonical memory lists lies above a bound, or it lists none. -/
def Mem.above (x : Nat) : Mem → Prop
  | [] => True
  | (a, _) :: _ => x < a

theorem Mem.wf_cons (a : Nat) (b : Byte) (t : Mem) :
    Mem.wf ((a, b) :: t) = true ↔ b ≠ Mem.blank ∧ Mem.above a t ∧ Mem.wf t = true := by
  cases t with
  | nil => simp [Mem.wf, Mem.above]
  | cons h t => obtain ⟨c, d⟩ := h; simp [Mem.wf, Mem.above, and_assoc]

theorem Mem.above_trans {x y : Nat} {m : Mem} (h : x < y) (k : Mem.above y m) : Mem.above x m := by
  cases m with
  | nil => trivial
  | cons e t => exact Nat.lt_trans h k

/-- Below its first address a memory is blank. -/
theorem Mem.read_above {x : Nat} {m : Mem} (hw : Mem.wf m = true) (h : Mem.above x m) : Mem.read m x = Mem.blank := by
  induction m with
  | nil => rfl
  | cons e t ih =>
    obtain ⟨a, b⟩ := e
    have hx : x < a := h
    rw [Mem.wf_cons] at hw
    rw [Mem.read, if_neg (by omega)]
    exact ih hw.2.2 (Mem.above_trans hx hw.2.1)

/-- A write lists nothing at or below a bound that lies below its own address and the memory's first. -/
theorem Mem.above_write {x y : Nat} {m : Mem} (v : Byte) (hw : Mem.wf m = true) (h : Mem.above x m) (hy : x < y) :
    Mem.above x (Mem.write m y v) := by
  cases m with
  | nil => simp only [Mem.write]; split <;> simp [Mem.above, hy]
  | cons e t =>
    obtain ⟨a, b⟩ := e
    rw [Mem.wf_cons] at hw
    have ha : x < a := h
    simp only [Mem.write]
    split
    · split
      · exact h
      · exact hy
    · split
      · split
        · exact Mem.above_trans ha hw.2.1
        · exact h
      · exact h

/-- A write keeps the canonical form. -/
theorem Mem.wf_write {m : Mem} (y : Nat) (v : Byte) (hw : Mem.wf m = true) : Mem.wf (Mem.write m y v) = true := by
  induction m with
  | nil => by_cases hv : v = Mem.blank <;> simp [Mem.write, Mem.wf, hv]
  | cons e t ih =>
    obtain ⟨a, b⟩ := e
    have hc := (Mem.wf_cons a b t).1 hw
    simp only [Mem.write]
    split
    · split
      · exact hw
      · exact (Mem.wf_cons _ _ _).2 ⟨by assumption, by assumption, hw⟩
    · split
      · split
        · exact hc.2.2
        · exact (Mem.wf_cons _ _ _).2 ⟨by assumption, hc.2.1, hc.2.2⟩
      · exact (Mem.wf_cons _ _ _).2 ⟨hc.1, Mem.above_write v hc.2.2 hc.2.1 (by omega), ih hc.2.2⟩

/-- A read after a write to the same address gives the byte written. -/
theorem Mem.read_write_same {m : Mem} (x : Nat) (v : Byte) (hw : Mem.wf m = true) :
    Mem.read (Mem.write m x v) x = v := by
  induction m with
  | nil => by_cases hv : v = Mem.blank <;> simp [Mem.write, Mem.read, hv]
  | cons e t ih =>
    obtain ⟨a, b⟩ := e
    have hc := (Mem.wf_cons a b t).1 hw
    simp only [Mem.write]
    split
    · rename_i hx
      split
      · rename_i hv
        rw [hv]
        exact Mem.read_above hw hx
      · simp [Mem.read]
    · split
      · rename_i hx
        subst hx
        split
        · rename_i hv
          rw [hv]
          exact Mem.read_above hc.2.2 hc.2.1
        · simp [Mem.read]
      · rename_i hx
        rw [Mem.read, if_neg hx]
        exact ih hc.2.2

/-- A write leaves every other address as it was. -/
theorem Mem.read_write_other {m : Mem} {x y : Nat} (v : Byte) (h : y ≠ x) :
    Mem.read (Mem.write m x v) y = Mem.read m y := by
  induction m with
  | nil => by_cases hv : v = Mem.blank <;> simp [Mem.write, Mem.read, hv, h]
  | cons e t ih =>
    obtain ⟨a, b⟩ := e
    simp only [Mem.write]
    split
    · split
      · rfl
      · simp [Mem.read, h]
    · split
      · rename_i hx
        subst hx
        split <;> simp [Mem.read, h]
      · simp only [Mem.read, ih]

/-- Writing bytes in a row keeps the canonical form. -/
theorem Mem.wf_writes (l : List Byte) : ∀ {m : Mem} (x : Nat), Mem.wf m = true → Mem.wf (Mem.writes m x l) = true := by
  induction l with
  | nil => exact fun _ h => h
  | cons b t ih => exact fun x h => ih (x + 1) (Mem.wf_write x b h)

/-- Writing bytes in a row leaves every address outside them as it was. -/
theorem Mem.read_writes_other (l : List Byte) : ∀ {m : Mem} {x y : Nat}, (y < x ∨ x + l.length ≤ y) →
    Mem.read (Mem.writes m x l) y = Mem.read m y := by
  induction l with
  | nil => exact fun _ => rfl
  | cons b t ih =>
    intro m x y h
    simp only [List.length_cons] at h
    rw [Mem.writes, ih (by omega), Mem.read_write_other b (by omega)]

end Sys2Proof.Machine
end

