-- ==== Sys2Proof/Laws/PerInstr.lean ====
section
/-! SUPPORT. Statements about every command as syntax, one lemma per constructor. -/

/-- Which commands have operands that can be ill formed: those with a list whose length a rule gives (R15,
the bus matrix of chapter 1); every other command is well formed as it stands. -/
def Sys2Proof.Laws.OperandsFit.Statement (i : Sys2Proof.Instr) : Prop :=
  i.wf = true ∨ (∃ t, i = .tickBoundary t) ∨ ∃ m a d, i = .registerWrite m a d

open Sys2Proof

theorem Sys2Proof.Laws.OperandsFit.tickBoundary (t : TickIn) :
    Sys2Proof.Laws.OperandsFit.Statement (.tickBoundary t) := .inr (.inl ⟨t, rfl⟩)

theorem Sys2Proof.Laws.OperandsFit.paceTrip (n : Chan) :
    Sys2Proof.Laws.OperandsFit.Statement (.paceTrip n) := .inl rfl

theorem Sys2Proof.Laws.OperandsFit.vcoreDownTrim :
    Sys2Proof.Laws.OperandsFit.Statement .vcoreDownTrim := .inl rfl

theorem Sys2Proof.Laws.OperandsFit.laneTransferError (k : Die) (up : Bool) :
    Sys2Proof.Laws.OperandsFit.Statement (.laneTransferError k up) := .inl rfl

theorem Sys2Proof.Laws.OperandsFit.stageDieLost (k : Die) :
    Sys2Proof.Laws.OperandsFit.Statement (.stageDieLost k) := .inl rfl

theorem Sys2Proof.Laws.OperandsFit.stageHizLocal (k : Die) :
    Sys2Proof.Laws.OperandsFit.Statement (.stageHizLocal k) := .inl rfl

theorem Sys2Proof.Laws.OperandsFit.stageDieRestored (k : Die) :
    Sys2Proof.Laws.OperandsFit.Statement (.stageDieRestored k) := .inl rfl

theorem Sys2Proof.Laws.OperandsFit.eccCorrected (mem : EccMem) :
    Sys2Proof.Laws.OperandsFit.Statement (.eccCorrected mem) := .inl rfl

theorem Sys2Proof.Laws.OperandsFit.storeUncorrectable :
    Sys2Proof.Laws.OperandsFit.Statement .storeUncorrectable := .inl rfl

theorem Sys2Proof.Laws.OperandsFit.journalRamFailed :
    Sys2Proof.Laws.OperandsFit.Statement .journalRamFailed := .inl rfl

theorem Sys2Proof.Laws.OperandsFit.traceRamUncorrectable (buf : Bool) (slot : Fin 16) (idx : BitVec 16) :
    Sys2Proof.Laws.OperandsFit.Statement (.traceRamUncorrectable buf slot idx) := .inl rfl

theorem Sys2Proof.Laws.OperandsFit.channelEngineFailed (n : Chan) :
    Sys2Proof.Laws.OperandsFit.Statement (.channelEngineFailed n) := .inl rfl

theorem Sys2Proof.Laws.OperandsFit.blockFailed (b : BlockId) :
    Sys2Proof.Laws.OperandsFit.Statement (.blockFailed b) := .inl rfl

theorem Sys2Proof.Laws.OperandsFit.mtbReferenceChange (xtalRuns : Bool) :
    Sys2Proof.Laws.OperandsFit.Statement (.mtbReferenceChange xtalRuns) := .inl rfl

theorem Sys2Proof.Laws.OperandsFit.xtalReferenceValid :
    Sys2Proof.Laws.OperandsFit.Statement .xtalReferenceValid := .inl rfl

theorem Sys2Proof.Laws.OperandsFit.sysMatrixWrite (m : Master) (v : Byte) :
    Sys2Proof.Laws.OperandsFit.Statement (.sysMatrixWrite m v) := .inl rfl

theorem Sys2Proof.Laws.OperandsFit.registerWrite (m : Master) (addr : BitVec 32) (data : List Byte) :
    Sys2Proof.Laws.OperandsFit.Statement (.registerWrite m addr data) := .inr (.inr ⟨m, addr, data, rfl⟩)

theorem Sys2Proof.Laws.OperandsFit.coilModelUpdate (n : Chan) :
    Sys2Proof.Laws.OperandsFit.Statement (.coilModelUpdate n) := .inl rfl

theorem Sys2Proof.Laws.OperandsFit.dieModelUpdate (k : Die) :
    Sys2Proof.Laws.OperandsFit.Statement (.dieModelUpdate k) := .inl rfl

theorem Sys2Proof.Laws.OperandsFit.classSDeadlineMiss (loop : ClassS) :
    Sys2Proof.Laws.OperandsFit.Statement (.classSDeadlineMiss loop) := .inl rfl

theorem Sys2Proof.Laws.OperandsFit.thermalFallback (loop : Thermal) :
    Sys2Proof.Laws.OperandsFit.Statement (.thermalFallback loop) := .inl rfl

theorem Sys2Proof.Laws.OperandsFit.coilCapExpiry (n : Chan) :
    Sys2Proof.Laws.OperandsFit.Statement (.coilCapExpiry n) := .inl rfl

theorem Sys2Proof.Laws.OperandsFit.bldBegin (m : Master) :
    Sys2Proof.Laws.OperandsFit.Statement (.bldBegin m) := .inl rfl

theorem Sys2Proof.Laws.OperandsFit.bldAbort (m : Master) :
    Sys2Proof.Laws.OperandsFit.Statement (.bldAbort m) := .inl rfl

theorem Sys2Proof.Laws.OperandsFit.bldPatchGo (m : Master) :
    Sys2Proof.Laws.OperandsFit.Statement (.bldPatchGo m) := .inl rfl

theorem Sys2Proof.Laws.OperandsFit.bldPatchClear (m : Master) :
    Sys2Proof.Laws.OperandsFit.Statement (.bldPatchClear m) := .inl rfl

theorem Sys2Proof.Laws.OperandsFit.bldPatchDataWrite (m : Master) (d : BitVec 32) :
    Sys2Proof.Laws.OperandsFit.Statement (.bldPatchDataWrite m d) := .inl rfl

theorem Sys2Proof.Laws.OperandsFit.loadTimeout :
    Sys2Proof.Laws.OperandsFit.Statement .loadTimeout := .inl rfl

theorem Sys2Proof.Laws.OperandsFit.buildCheckComplete :
    Sys2Proof.Laws.OperandsFit.Statement .buildCheckComplete := .inl rfl

theorem Sys2Proof.Laws.OperandsFit.rollbackAdvance (readBackOk : Bool) :
    Sys2Proof.Laws.OperandsFit.Statement (.rollbackAdvance readBackOk) := .inl rfl

theorem Sys2Proof.Laws.OperandsFit.patchCheckComplete :
    Sys2Proof.Laws.OperandsFit.Statement .patchCheckComplete := .inl rfl

theorem Sys2Proof.Laws.OperandsFit.patchApply :
    Sys2Proof.Laws.OperandsFit.Statement .patchApply := .inl rfl

theorem Sys2Proof.Laws.OperandsFit.heldPatchMatch :
    Sys2Proof.Laws.OperandsFit.Statement .heldPatchMatch := .inl rfl

theorem Sys2Proof.Laws.OperandsFit.heldPatchTimeout :
    Sys2Proof.Laws.OperandsFit.Statement .heldPatchTimeout := .inl rfl

theorem Sys2Proof.Laws.OperandsFit.reqA (m : Master) (n : Chan) :
    Sys2Proof.Laws.OperandsFit.Statement (.reqA m n) := .inl rfl

theorem Sys2Proof.Laws.OperandsFit.reqB (m : Master) (n : Chan) :
    Sys2Proof.Laws.OperandsFit.Statement (.reqB m n) := .inl rfl

theorem Sys2Proof.Laws.OperandsFit.prerollEnd (n : Chan) :
    Sys2Proof.Laws.OperandsFit.Statement (.prerollEnd n) := .inl rfl

theorem Sys2Proof.Laws.OperandsFit.fadeEnd (n : Chan) :
    Sys2Proof.Laws.OperandsFit.Statement (.fadeEnd n) := .inl rfl

theorem Sys2Proof.Laws.OperandsFit.settleEnd (n : Chan) :
    Sys2Proof.Laws.OperandsFit.Statement (.settleEnd n) := .inl rfl

theorem Sys2Proof.Laws.OperandsFit.graphFadeInEnd (n : Chan) :
    Sys2Proof.Laws.OperandsFit.Statement (.graphFadeInEnd n) := .inl rfl

theorem Sys2Proof.Laws.OperandsFit.syncReset (m : Master) :
    Sys2Proof.Laws.OperandsFit.Statement (.syncReset m) := .inl rfl

theorem Sys2Proof.Laws.OperandsFit.trackerAcquisitionEnd :
    Sys2Proof.Laws.OperandsFit.Statement .trackerAcquisitionEnd := .inl rfl

theorem Sys2Proof.Laws.OperandsFit.fadeLenWrite (m : Master) (n : Chan) (v : BitVec 16) :
    Sys2Proof.Laws.OperandsFit.Statement (.fadeLenWrite m n v) := .inl rfl

theorem Sys2Proof.Laws.OperandsFit.lagWrite (m : Master) (v : BitVec 5) :
    Sys2Proof.Laws.OperandsFit.Statement (.lagWrite m v) := .inl rfl

theorem Sys2Proof.Laws.OperandsFit.enable (m : Master) (n : Chan) :
    Sys2Proof.Laws.OperandsFit.Statement (.enable m n) := .inl rfl

theorem Sys2Proof.Laws.OperandsFit.play (m : Master) (n : Chan) :
    Sys2Proof.Laws.OperandsFit.Statement (.play m n) := .inl rfl

theorem Sys2Proof.Laws.OperandsFit.quiet (m : Master) (n : Chan) :
    Sys2Proof.Laws.OperandsFit.Statement (.quiet m n) := .inl rfl

theorem Sys2Proof.Laws.OperandsFit.openLoop (m : Master) (n : Chan) :
    Sys2Proof.Laws.OperandsFit.Statement (.openLoop m n) := .inl rfl

theorem Sys2Proof.Laws.OperandsFit.closeLoop (m : Master) (n : Chan) :
    Sys2Proof.Laws.OperandsFit.Statement (.closeLoop m n) := .inl rfl

theorem Sys2Proof.Laws.OperandsFit.stop (m : Master) (n : Chan) :
    Sys2Proof.Laws.OperandsFit.Statement (.stop m n) := .inl rfl

theorem Sys2Proof.Laws.OperandsFit.clear (m : Master) (n : Chan) :
    Sys2Proof.Laws.OperandsFit.Statement (.clear m n) := .inl rfl

theorem Sys2Proof.Laws.OperandsFit.rampComplete (n : Chan) :
    Sys2Proof.Laws.OperandsFit.Statement (.rampComplete n) := .inl rfl

theorem Sys2Proof.Laws.OperandsFit.autoReclose (n : Chan) :
    Sys2Proof.Laws.OperandsFit.Statement (.autoReclose n) := .inl rfl

theorem Sys2Proof.Laws.OperandsFit.followingErrorDrop (n : Chan) :
    Sys2Proof.Laws.OperandsFit.Statement (.followingErrorDrop n) := .inl rfl

theorem Sys2Proof.Laws.OperandsFit.lostFeedback (n : Chan) :
    Sys2Proof.Laws.OperandsFit.Statement (.lostFeedback n) := .inl rfl

theorem Sys2Proof.Laws.OperandsFit.transferEnd (n : Chan) :
    Sys2Proof.Laws.OperandsFit.Statement (.transferEnd n) := .inl rfl

theorem Sys2Proof.Laws.OperandsFit.channelFadeEnd (n : Chan) :
    Sys2Proof.Laws.OperandsFit.Statement (.channelFadeEnd n) := .inl rfl

theorem Sys2Proof.Laws.OperandsFit.identStart (m : Master) (n : Chan) :
    Sys2Proof.Laws.OperandsFit.Statement (.identStart m n) := .inl rfl

theorem Sys2Proof.Laws.OperandsFit.startAll (m : Master) :
    Sys2Proof.Laws.OperandsFit.Statement (.startAll m) := .inl rfl

theorem Sys2Proof.Laws.OperandsFit.identAbort (m : Master) (n : Chan) :
    Sys2Proof.Laws.OperandsFit.Statement (.identAbort m n) := .inl rfl

theorem Sys2Proof.Laws.OperandsFit.identAtStart (n : Chan) :
    Sys2Proof.Laws.OperandsFit.Statement (.identAtStart n) := .inl rfl

theorem Sys2Proof.Laws.OperandsFit.sweepEnd (n : Chan) :
    Sys2Proof.Laws.OperandsFit.Statement (.sweepEnd n) := .inl rfl

theorem Sys2Proof.Laws.OperandsFit.identFitComplete (n : Chan) (fit : FitIn) :
    Sys2Proof.Laws.OperandsFit.Statement (.identFitComplete n fit) := .inl rfl

theorem Sys2Proof.Laws.OperandsFit.mainsSourceChange (src : MainsSrc) :
    Sys2Proof.Laws.OperandsFit.Statement (.mainsSourceChange src) := .inl rfl

theorem Sys2Proof.Laws.OperandsFit.rippleLearnerUpdate (n : Chan) :
    Sys2Proof.Laws.OperandsFit.Statement (.rippleLearnerUpdate n) := .inl rfl

theorem Sys2Proof.Laws.OperandsFit.rlClear (m : Master) (n : Chan) :
    Sys2Proof.Laws.OperandsFit.Statement (.rlClear m n) := .inl rfl

theorem Sys2Proof.Laws.OperandsFit.fbFault (x : FbTest) :
    Sys2Proof.Laws.OperandsFit.Statement (.fbFault x) := .inl rfl

theorem Sys2Proof.Laws.OperandsFit.currentLimit (x : LimitTest) :
    Sys2Proof.Laws.OperandsFit.Statement (.currentLimit x) := .inl rfl

theorem Sys2Proof.Laws.OperandsFit.sdCtlWrite (m : Master) (k : Die) (v : Byte) :
    Sys2Proof.Laws.OperandsFit.Statement (.sdCtlWrite m k v) := .inl rfl

theorem Sys2Proof.Laws.OperandsFit.sdRampWrite (m : Master) (k : Die) (v : Byte) :
    Sys2Proof.Laws.OperandsFit.Statement (.sdRampWrite m k v) := .inl rfl

theorem Sys2Proof.Laws.OperandsFit.shortTrip (n : Chan) :
    Sys2Proof.Laws.OperandsFit.Statement (.shortTrip n) := .inl rfl

theorem Sys2Proof.Laws.OperandsFit.fastShort (x : MirrorTest) :
    Sys2Proof.Laws.OperandsFit.Statement (.fastShort x) := .inl rfl

theorem Sys2Proof.Laws.OperandsFit.dieShutdown (k : Die) :
    Sys2Proof.Laws.OperandsFit.Statement (.dieShutdown k) := .inl rfl

theorem Sys2Proof.Laws.OperandsFit.loadCheckComplete (n : Chan) :
    Sys2Proof.Laws.OperandsFit.Statement (.loadCheckComplete n) := .inl rfl

theorem Sys2Proof.Laws.OperandsFit.shortRetryClear (n : Chan) :
    Sys2Proof.Laws.OperandsFit.Statement (.shortRetryClear n) := .inl rfl

theorem Sys2Proof.Laws.OperandsFit.openLoad (n : Chan) :
    Sys2Proof.Laws.OperandsFit.Statement (.openLoad n) := .inl rfl

theorem Sys2Proof.Laws.OperandsFit.muteAssert :
    Sys2Proof.Laws.OperandsFit.Statement .muteAssert := .inl rfl

theorem Sys2Proof.Laws.OperandsFit.muteRelease :
    Sys2Proof.Laws.OperandsFit.Statement .muteRelease := .inl rfl

theorem Sys2Proof.Laws.OperandsFit.muteFadeEnd :
    Sys2Proof.Laws.OperandsFit.Statement .muteFadeEnd := .inl rfl

theorem Sys2Proof.Laws.OperandsFit.pvddWarningSet :
    Sys2Proof.Laws.OperandsFit.Statement .pvddWarningSet := .inl rfl

theorem Sys2Proof.Laws.OperandsFit.pvddWarningClear :
    Sys2Proof.Laws.OperandsFit.Statement .pvddWarningClear := .inl rfl

theorem Sys2Proof.Laws.OperandsFit.dipReleaseEnd :
    Sys2Proof.Laws.OperandsFit.Statement .dipReleaseEnd := .inl rfl

theorem Sys2Proof.Laws.OperandsFit.recal (m : Master) (n : Chan) :
    Sys2Proof.Laws.OperandsFit.Statement (.recal m n) := .inl rfl

theorem Sys2Proof.Laws.OperandsFit.pilotEstimate (n : Chan) :
    Sys2Proof.Laws.OperandsFit.Statement (.pilotEstimate n) := .inl rfl

theorem Sys2Proof.Laws.OperandsFit.programmeFrame (n : Chan) (frame : List (Rat × Rat)) :
    Sys2Proof.Laws.OperandsFit.Statement (.programmeFrame n frame) := .inl rfl

theorem Sys2Proof.Laws.OperandsFit.diagReport (n : Chan) :
    Sys2Proof.Laws.OperandsFit.Statement (.diagReport n) := .inl rfl

theorem Sys2Proof.Laws.OperandsFit.sweetpeaFrame (bytes : List Byte) :
    Sys2Proof.Laws.OperandsFit.Statement (.sweetpeaFrame bytes) := .inl rfl

theorem Sys2Proof.Laws.OperandsFit.sweetpeaFrameMissed (partBOnly : Bool) :
    Sys2Proof.Laws.OperandsFit.Statement (.sweetpeaFrameMissed partBOnly) := .inl rfl

theorem Sys2Proof.Laws.OperandsFit.laneUp :
    Sys2Proof.Laws.OperandsFit.Statement .laneUp := .inl rfl

theorem Sys2Proof.Laws.OperandsFit.tbLock :
    Sys2Proof.Laws.OperandsFit.Statement .tbLock := .inl rfl

theorem Sys2Proof.Laws.OperandsFit.twinJoin :
    Sys2Proof.Laws.OperandsFit.Statement .twinJoin := .inl rfl

theorem Sys2Proof.Laws.OperandsFit.joinWaitExpiry :
    Sys2Proof.Laws.OperandsFit.Statement .joinWaitExpiry := .inl rfl

theorem Sys2Proof.Laws.OperandsFit.carriedCommandApply :
    Sys2Proof.Laws.OperandsFit.Statement .carriedCommandApply := .inl rfl

theorem Sys2Proof.Laws.OperandsFit.soloTakeover (n : Chan) :
    Sys2Proof.Laws.OperandsFit.Statement (.soloTakeover n) := .inl rfl

theorem Sys2Proof.Laws.OperandsFit.shareFault (n : Chan) :
    Sys2Proof.Laws.OperandsFit.Statement (.shareFault n) := .inl rfl

theorem Sys2Proof.Laws.OperandsFit.twinSilent :
    Sys2Proof.Laws.OperandsFit.Statement .twinSilent := .inl rfl

theorem Sys2Proof.Laws.OperandsFit.twinLossDecision (lineLow : Bool) :
    Sys2Proof.Laws.OperandsFit.Statement (.twinLossDecision lineLow) := .inl rfl

theorem Sys2Proof.Laws.OperandsFit.farewell (m : Master) :
    Sys2Proof.Laws.OperandsFit.Statement (.farewell m) := .inl rfl

theorem Sys2Proof.Laws.OperandsFit.farewellHandover :
    Sys2Proof.Laws.OperandsFit.Statement .farewellHandover := .inl rfl

theorem Sys2Proof.Laws.OperandsFit.farewellHalt :
    Sys2Proof.Laws.OperandsFit.Statement .farewellHalt := .inl rfl

theorem Sys2Proof.Laws.OperandsFit.rejoin (m : Master) :
    Sys2Proof.Laws.OperandsFit.Statement (.rejoin m) := .inl rfl

theorem Sys2Proof.Laws.OperandsFit.uvSoloReturn (n : Chan) :
    Sys2Proof.Laws.OperandsFit.Statement (.uvSoloReturn n) := .inl rfl

theorem Sys2Proof.Laws.OperandsFit.lenexFrame (p : Port) (f : RawFrame) :
    Sys2Proof.Laws.OperandsFit.Statement (.lenexFrame p f) := .inl rfl

theorem Sys2Proof.Laws.OperandsFit.carrierLoss (p : Port) :
    Sys2Proof.Laws.OperandsFit.Statement (.carrierLoss p) := .inl rfl

theorem Sys2Proof.Laws.OperandsFit.lockLoss (p : Port) :
    Sys2Proof.Laws.OperandsFit.Statement (.lockLoss p) := .inl rfl

theorem Sys2Proof.Laws.OperandsFit.laneLocked (p : Port) :
    Sys2Proof.Laws.OperandsFit.Statement (.laneLocked p) := .inl rfl

theorem Sys2Proof.Laws.OperandsFit.portFirstActivation (p : Port) :
    Sys2Proof.Laws.OperandsFit.Statement (.portFirstActivation p) := .inl rfl

theorem Sys2Proof.Laws.OperandsFit.portSwitch :
    Sys2Proof.Laws.OperandsFit.Statement .portSwitch := .inl rfl

theorem Sys2Proof.Laws.OperandsFit.take (m : Master) (p : Port) :
    Sys2Proof.Laws.OperandsFit.Statement (.take m p) := .inl rfl

theorem Sys2Proof.Laws.OperandsFit.lnkReset (m : Master) (p : Port) :
    Sys2Proof.Laws.OperandsFit.Statement (.lnkReset m p) := .inl rfl

theorem Sys2Proof.Laws.OperandsFit.inputLost :
    Sys2Proof.Laws.OperandsFit.Statement .inputLost := .inl rfl

theorem Sys2Proof.Laws.OperandsFit.mbRead (p : Port) (seq : Byte) (addr : BitVec 32) (len : Byte) :
    Sys2Proof.Laws.OperandsFit.Statement (.mbRead p seq addr len) := .inl rfl

theorem Sys2Proof.Laws.OperandsFit.mbWrite (p : Port) (seq : Byte) (addr : BitVec 32) (data : List Byte) :
    Sys2Proof.Laws.OperandsFit.Statement (.mbWrite p seq addr data) := .inl rfl

theorem Sys2Proof.Laws.OperandsFit.mbJournal (p : Port) (seq : Byte) (first : BitVec 64) (count : BitVec 32) :
    Sys2Proof.Laws.OperandsFit.Statement (.mbJournal p seq first count) := .inl rfl

theorem Sys2Proof.Laws.OperandsFit.mbTrace (p : Port) (seq : Byte) (data : List Byte) :
    Sys2Proof.Laws.OperandsFit.Statement (.mbTrace p seq data) := .inl rfl

theorem Sys2Proof.Laws.OperandsFit.mbAttest (p : Port) (seq : Byte) (data : List Byte) :
    Sys2Proof.Laws.OperandsFit.Statement (.mbAttest p seq data) := .inl rfl

theorem Sys2Proof.Laws.OperandsFit.mbCancel (p : Port) (seq : Byte) :
    Sys2Proof.Laws.OperandsFit.Statement (.mbCancel p seq) := .inl rfl

theorem Sys2Proof.Laws.OperandsFit.sessionStart (p : Port) (seq : Byte) :
    Sys2Proof.Laws.OperandsFit.Statement (.sessionStart p seq) := .inl rfl

theorem Sys2Proof.Laws.OperandsFit.sessionStartReady (p : Port) :
    Sys2Proof.Laws.OperandsFit.Statement (.sessionStartReady p) := .inl rfl

theorem Sys2Proof.Laws.OperandsFit.sessionOffer (p : Port) (seq : Byte) (idx : Byte) (cnt : Byte) (data : List Byte) :
    Sys2Proof.Laws.OperandsFit.Statement (.sessionOffer p seq idx cnt data) := .inl rfl

theorem Sys2Proof.Laws.OperandsFit.sessionVerifyComplete (p : Port) :
    Sys2Proof.Laws.OperandsFit.Statement (.sessionVerifyComplete p) := .inl rfl

theorem Sys2Proof.Laws.OperandsFit.sessionRead (p : Port) (seq : Byte) (idx : Byte) :
    Sys2Proof.Laws.OperandsFit.Statement (.sessionRead p seq idx) := .inl rfl

theorem Sys2Proof.Laws.OperandsFit.sessionStatus (p : Port) (seq : Byte) :
    Sys2Proof.Laws.OperandsFit.Statement (.sessionStatus p seq) := .inl rfl

theorem Sys2Proof.Laws.OperandsFit.sessionEnd (p : Port) (seq : Byte) :
    Sys2Proof.Laws.OperandsFit.Statement (.sessionEnd p seq) := .inl rfl

theorem Sys2Proof.Laws.OperandsFit.sessionLapse (p : Port) :
    Sys2Proof.Laws.OperandsFit.Statement (.sessionLapse p) := .inl rfl

theorem Sys2Proof.Laws.OperandsFit.sessionFrameLimit (p : Port) :
    Sys2Proof.Laws.OperandsFit.Statement (.sessionFrameLimit p) := .inl rfl

theorem Sys2Proof.Laws.OperandsFit.attestReportReady (p : Port) :
    Sys2Proof.Laws.OperandsFit.Statement (.attestReportReady p) := .inl rfl

theorem Sys2Proof.Laws.OperandsFit.bootComplete (r : BootResult) :
    Sys2Proof.Laws.OperandsFit.Statement (.bootComplete r) := .inl rfl

theorem Sys2Proof.Laws.OperandsFit.keeperFailed :
    Sys2Proof.Laws.OperandsFit.Statement .keeperFailed := .inl rfl

theorem Sys2Proof.Laws.OperandsFit.enrollArm (m : Master) :
    Sys2Proof.Laws.OperandsFit.Statement (.enrollArm m) := .inl rfl

theorem Sys2Proof.Laws.OperandsFit.enrollDataWrite (m : Master) (d : BitVec 32) :
    Sys2Proof.Laws.OperandsFit.Statement (.enrollDataWrite m d) := .inl rfl

theorem Sys2Proof.Laws.OperandsFit.enrollGo (m : Master) :
    Sys2Proof.Laws.OperandsFit.Statement (.enrollGo m) := .inl rfl

theorem Sys2Proof.Laws.OperandsFit.enrollComplete (slot0Ok : Bool) (slot1Ok : Bool) :
    Sys2Proof.Laws.OperandsFit.Statement (.enrollComplete slot0Ok slot1Ok) := .inl rfl

theorem Sys2Proof.Laws.OperandsFit.enrollWindowExpiry :
    Sys2Proof.Laws.OperandsFit.Statement .enrollWindowExpiry := .inl rfl

theorem Sys2Proof.Laws.OperandsFit.lockArm (m : Master) :
    Sys2Proof.Laws.OperandsFit.Statement (.lockArm m) := .inl rfl

theorem Sys2Proof.Laws.OperandsFit.lockGo (m : Master) :
    Sys2Proof.Laws.OperandsFit.Statement (.lockGo m) := .inl rfl

theorem Sys2Proof.Laws.OperandsFit.lockWindowExpiry :
    Sys2Proof.Laws.OperandsFit.Statement .lockWindowExpiry := .inl rfl

theorem Sys2Proof.Laws.OperandsFit.testModeEntry :
    Sys2Proof.Laws.OperandsFit.Statement .testModeEntry := .inl rfl

theorem Sys2Proof.Laws.OperandsFit.arm (m : Master) :
    Sys2Proof.Laws.OperandsFit.Statement (.arm m) := .inl rfl

theorem Sys2Proof.Laws.OperandsFit.run (m : Master) :
    Sys2Proof.Laws.OperandsFit.Statement (.run m) := .inl rfl

theorem Sys2Proof.Laws.OperandsFit.hold (m : Master) :
    Sys2Proof.Laws.OperandsFit.Statement (.hold m) := .inl rfl

theorem Sys2Proof.Laws.OperandsFit.disarm (m : Master) :
    Sys2Proof.Laws.OperandsFit.Statement (.disarm m) := .inl rfl

theorem Sys2Proof.Laws.OperandsFit.disarmComplete :
    Sys2Proof.Laws.OperandsFit.Statement .disarmComplete := .inl rfl

theorem Sys2Proof.Laws.OperandsFit.discard (m : Master) :
    Sys2Proof.Laws.OperandsFit.Statement (.discard m) := .inl rfl

theorem Sys2Proof.Laws.OperandsFit.halt (m : Master) :
    Sys2Proof.Laws.OperandsFit.Statement (.halt m) := .inl rfl

theorem Sys2Proof.Laws.OperandsFit.haltClear (m : Master) :
    Sys2Proof.Laws.OperandsFit.Statement (.haltClear m) := .inl rfl

theorem Sys2Proof.Laws.OperandsFit.standby (m : Master) :
    Sys2Proof.Laws.OperandsFit.Statement (.standby m) := .inl rfl

theorem Sys2Proof.Laws.OperandsFit.wake :
    Sys2Proof.Laws.OperandsFit.Statement .wake := .inl rfl

theorem Sys2Proof.Laws.OperandsFit.powerOnReset :
    Sys2Proof.Laws.OperandsFit.Statement .powerOnReset := .inl rfl

theorem Sys2Proof.Laws.OperandsFit.brownOutReset (vaux : Bool) :
    Sys2Proof.Laws.OperandsFit.Statement (.brownOutReset vaux) := .inl rfl

theorem Sys2Proof.Laws.OperandsFit.pinReset :
    Sys2Proof.Laws.OperandsFit.Statement .pinReset := .inl rfl

theorem Sys2Proof.Laws.OperandsFit.resetRelease (vioGood : Bool) (pvddGood : Bool) :
    Sys2Proof.Laws.OperandsFit.Statement (.resetRelease vioGood pvddGood) := .inl rfl

theorem Sys2Proof.Laws.OperandsFit.soft (m : Master) :
    Sys2Proof.Laws.OperandsFit.Statement (.soft m) := .inl rfl

theorem Sys2Proof.Laws.OperandsFit.chReset (m : Master) (mask : BitVec 64) :
    Sys2Proof.Laws.OperandsFit.Statement (.chReset m mask) := .inl rfl

theorem Sys2Proof.Laws.OperandsFit.channelResetApply (n : Chan) :
    Sys2Proof.Laws.OperandsFit.Statement (.channelResetApply n) := .inl rfl

theorem Sys2Proof.Laws.OperandsFit.pvddUndervoltageShutdown :
    Sys2Proof.Laws.OperandsFit.Statement .pvddUndervoltageShutdown := .inl rfl

theorem Sys2Proof.Laws.OperandsFit.pvddOvervoltageShutdown :
    Sys2Proof.Laws.OperandsFit.Statement .pvddOvervoltageShutdown := .inl rfl

theorem Sys2Proof.Laws.OperandsFit.pvddRecovered :
    Sys2Proof.Laws.OperandsFit.Statement .pvddRecovered := .inl rfl

theorem Sys2Proof.Laws.OperandsFit.vioLoss :
    Sys2Proof.Laws.OperandsFit.Statement .vioLoss := .inl rfl

theorem Sys2Proof.Laws.OperandsFit.vioReturn :
    Sys2Proof.Laws.OperandsFit.Statement .vioReturn := .inl rfl

theorem Sys2Proof.Laws.OperandsFit.pvddWarnWrite (m : Master) (v : Byte) :
    Sys2Proof.Laws.OperandsFit.Statement (.pvddWarnWrite m v) := .inl rfl

theorem Sys2Proof.Laws.OperandsFit.clrAll (m : Master) :
    Sys2Proof.Laws.OperandsFit.Statement (.clrAll m) := .inl rfl

theorem Sys2Proof.Laws.OperandsFit.evtMaskWrite (m : Master) (upstream : Bool) (g : Fin 32) (v : Byte) :
    Sys2Proof.Laws.OperandsFit.Statement (.evtMaskWrite m upstream g v) := .inl rfl

theorem Sys2Proof.Laws.OperandsFit.journalEntryWrite :
    Sys2Proof.Laws.OperandsFit.Statement .journalEntryWrite := .inl rfl

theorem Sys2Proof.Laws.OperandsFit.jrnRdSeqWrite (m : Master) (seq : BitVec 64) :
    Sys2Proof.Laws.OperandsFit.Statement (.jrnRdSeqWrite m seq) := .inl rfl

theorem Sys2Proof.Laws.OperandsFit.twpAddress (addr : BitVec 7) (read : Bool) (strap : BitVec 3) (repeated : Bool) :
    Sys2Proof.Laws.OperandsFit.Statement (.twpAddress addr read strap repeated) := .inl rfl

theorem Sys2Proof.Laws.OperandsFit.twpWriteByte (b : Byte) :
    Sys2Proof.Laws.OperandsFit.Statement (.twpWriteByte b) := .inl rfl

theorem Sys2Proof.Laws.OperandsFit.twpReadByte (ack : Bool) :
    Sys2Proof.Laws.OperandsFit.Statement (.twpReadByte ack) := .inl rfl

theorem Sys2Proof.Laws.OperandsFit.twpStop :
    Sys2Proof.Laws.OperandsFit.Statement .twpStop := .inl rfl

theorem Sys2Proof.Laws.OperandsFit.twpIdleTimeout :
    Sys2Proof.Laws.OperandsFit.Statement .twpIdleTimeout := .inl rfl

theorem Sys2Proof.Laws.OperandsFit.stretchCap (beforeAck : Bool) :
    Sys2Proof.Laws.OperandsFit.Statement (.stretchCap beforeAck) := .inl rfl

theorem Sys2Proof.Laws.OperandsFit.wakeStretchCap :
    Sys2Proof.Laws.OperandsFit.Statement .wakeStretchCap := .inl rfl

theorem Sys2Proof.Laws.OperandsFit.sdaRelease :
    Sys2Proof.Laws.OperandsFit.Statement .sdaRelease := .inl rfl

theorem Sys2Proof.Laws.OperandsFit.alertResponse (wins : Bool) :
    Sys2Proof.Laws.OperandsFit.Statement (.alertResponse wins) := .inl rfl

theorem Sys2Proof.Laws.OperandsFit.trcArm (m : Master) :
    Sys2Proof.Laws.OperandsFit.Statement (.trcArm m) := .inl rfl

theorem Sys2Proof.Laws.OperandsFit.traceRunStart :
    Sys2Proof.Laws.OperandsFit.Statement .traceRunStart := .inl rfl

theorem Sys2Proof.Laws.OperandsFit.trcTrig (m : Master) :
    Sys2Proof.Laws.OperandsFit.Statement (.trcTrig m) := .inl rfl

theorem Sys2Proof.Laws.OperandsFit.traceTrigger :
    Sys2Proof.Laws.OperandsFit.Statement .traceTrigger := .inl rfl

theorem Sys2Proof.Laws.OperandsFit.traceComplete :
    Sys2Proof.Laws.OperandsFit.Statement .traceComplete := .inl rfl

theorem Sys2Proof.Laws.OperandsFit.trcStop (m : Master) :
    Sys2Proof.Laws.OperandsFit.Statement (.trcStop m) := .inl rfl

theorem Sys2Proof.Laws.OperandsFit.pinGo (m : Master) :
    Sys2Proof.Laws.OperandsFit.Statement (.pinGo m) := .inl rfl

theorem Sys2Proof.Laws.OperandsFit.pinStop (m : Master) :
    Sys2Proof.Laws.OperandsFit.Statement (.pinStop m) := .inl rfl

theorem Sys2Proof.Laws.OperandsFit.injGo (m : Master) :
    Sys2Proof.Laws.OperandsFit.Statement (.injGo m) := .inl rfl

theorem Sys2Proof.Laws.OperandsFit.injStop (m : Master) :
    Sys2Proof.Laws.OperandsFit.Statement (.injStop m) := .inl rfl

theorem Sys2Proof.Laws.OperandsFit.capGo (m : Master) :
    Sys2Proof.Laws.OperandsFit.Statement (.capGo m) := .inl rfl

theorem Sys2Proof.Laws.OperandsFit.captureStart :
    Sys2Proof.Laws.OperandsFit.Statement .captureStart := .inl rfl

theorem Sys2Proof.Laws.OperandsFit.captureComplete :
    Sys2Proof.Laws.OperandsFit.Statement .captureComplete := .inl rfl

theorem Sys2Proof.Laws.OperandsFit.flxCapDataRead (m : Master) :
    Sys2Proof.Laws.OperandsFit.Statement (.flxCapDataRead m) := .inl rfl

theorem Sys2Proof.Laws.OperandsFit.coefSelWrite (m : Master) (q : Fin 16) (v : BitVec 32) :
    Sys2Proof.Laws.OperandsFit.Statement (.coefSelWrite m q v) := .inl rfl

theorem Sys2Proof.Laws.OperandsFit.coefPageCapture (q : Fin 16) :
    Sys2Proof.Laws.OperandsFit.Statement (.coefPageCapture q) := .inl rfl

theorem Sys2Proof.Laws.OperandsFit.drbgHealthFailure :
    Sys2Proof.Laws.OperandsFit.Statement .drbgHealthFailure := .inl rfl

theorem Sys2Proof.Laws.OperandsFit.dbgLockFuseComplete (blown : Fin 4) :
    Sys2Proof.Laws.OperandsFit.Statement (.dbgLockFuseComplete blown) := .inl rfl

theorem Sys2Proof.Laws.OperandsFit.clockRecoveryLock (p : Port) :
    Sys2Proof.Laws.OperandsFit.Statement (.clockRecoveryLock p) := .inl rfl

theorem Sys2Proof.Laws.OperandsFit.trcClkEdge :
    Sys2Proof.Laws.OperandsFit.Statement .trcClkEdge := .inl rfl

theorem Sys2Proof.Laws.OperandsFit.twpPortClocked (heldRead : Bool) :
    Sys2Proof.Laws.OperandsFit.Statement (.twpPortClocked heldRead) := .inl rfl

theorem Sys2Proof.Laws.OperandsFit.tbLockTimeout :
    Sys2Proof.Laws.OperandsFit.Statement .tbLockTimeout := .inl rfl
end

