-- ==== Sys2Proof/Laws/Reports.lean ====
section
/-! SUPPORT. What events and journal entries do to the state: nothing but their reports. One lemma per
operation says everything it can do (R336 to R347). -/

namespace Sys2Proof.Machine

variable (s : State)

/-! ## Queues of events -/

@[simp] theorem queueEv_hush (l : LinkPort) (e : EvMsg) : (l.queueEv e).hush = l.hush := by
  unfold LinkPort.queueEv
  split
  · rfl
  · split
    · rfl
    · split <;> rfl

@[simp] theorem queueEvs_silent (e : EvMsg) : (s.queueEvs e).silent = s.silent := by
  unfold State.queueEvs
  split
  · rfl
  · simp [State.silent]

@[simp] theorem noteEv_silent (e : EvMsg) : (s.noteEv e).silent = s.silent := rfl

@[simp] theorem jot_silent (src kind out code idx : Nat) (data : List Byte) (dig : Option (BitVec 128)) :
    (s.jot src kind out code idx data dig).silent = s.silent := rfl

@[simp] theorem jot_jrn (src kind out code idx : Nat) (data : List Byte) (dig : Option (BitVec 128)) :
    (s.jot src kind out code idx data dig).jrn = s.jrn.push (s.entry src kind out code idx data dig) := rfl

/-! ## The two stages of `raise`: the occurrence, then a dropped message on either port -/

/-- A dropped message is itself an occurrence, noted and queued. -/
def State.noteDrop (t s : State) (p : Port) : State :=
  if dropped s t p then
    (t.noteEv (t.evMsg Ev.upstreamDrop p.num 0 none)).queueEvs (t.evMsg Ev.upstreamDrop p.num 0 none)
  else t

theorem raise_eq (src idx arg : Nat) (q : Option (BitVec 64)) :
    s.raise src idx arg q =
      (((s.noteEv (s.evMsg src idx arg q)).queueEvs (s.evMsg src idx arg q)).noteDrop s .a).noteDrop s .b := rfl

theorem noteDrop_silent (t : State) (p : Port) : (t.noteDrop s p).silent = t.silent := by
  unfold State.noteDrop; split <;> simp

@[simp] theorem raise_silent (src idx arg : Nat) (q : Option (BitVec 64)) :
    (s.raise src idx arg q).silent = s.silent := by
  simp [raise_eq, noteDrop_silent]

/-- A flag's bit among the 256. -/
theorem bit_get (a j : Nat) (h : j < 256) : (1#256 <<< a).getLsbD j = decide (j = a) := by
  rw [BitVec.getLsbD_shiftLeft]
  simp only [h, decide_true, Bool.true_and, BitVec.getLsbD_one]
  by_cases e : j = a
  · subst e; simp
  · by_cases l : j < a
    · simp [l, e]
    · have : ¬ (j - a = 0) := by omega
      simp [l, this, e]

theorem noteEv_flag (e : EvMsg) (j : Fin 256) :
    (s.noteEv e).evt.flags.getLsbD j.val = (s.evt.flags.getLsbD j.val || decide (j.val = e.source.toNat)) := by
  rw [← bit_get _ _ j.isLt]
  exact BitVec.getLsbD_or

@[simp] theorem queueEvs_evt_flags (e : EvMsg) : (s.queueEvs e).evt.flags = s.evt.flags := by simp

theorem evMsg_source (src idx arg : Nat) (q : Option (BitVec 64)) (h : src < 256) :
    (s.evMsg src idx arg q).source.toNat = src := by
  simp only [State.evMsg, BitVec.toNat_ofNat]; omega

theorem noteDrop_flag (t : State) (p : Port) (j : Fin 256) (h : j.val ≠ Ev.upstreamDrop) :
    (t.noteDrop s p).evt.flags.getLsbD j.val = t.evt.flags.getLsbD j.val := by
  unfold State.noteDrop
  split
  · rw [queueEvs_evt_flags, noteEv_flag, evMsg_source _ _ _ _ _ (by decide)]; simp [h]
  · rfl

theorem noteDrop_flag_mono (t : State) (p : Port) (j : Fin 256)
    (h : t.evt.flags.getLsbD j.val = true) : (t.noteDrop s p).evt.flags.getLsbD j.val = true := by
  unfold State.noteDrop
  split
  · rw [queueEvs_evt_flags, noteEv_flag, h]; rfl
  · exact h

/-- One occurrence sets its source's flag and no other, but for the upstream-drop source. -/
theorem raise_raises (src idx arg : Nat) (q : Option (BitVec 64)) (h : src < 256) :
    Raises s (s.raise src idx arg q) [src] [] := by
  intro j
  have base : ((s.noteEv (s.evMsg src idx arg q)).queueEvs (s.evMsg src idx arg q)).evt.flags.getLsbD j.val
      = (s.evt.flags.getLsbD j.val || decide (j.val = src)) := by
    rw [queueEvs_evt_flags, noteEv_flag, evMsg_source _ _ _ _ _ h]
  rw [raise_eq]
  refine ⟨fun hm => ?_, fun hs => ?_, fun ht => ?_⟩
  · apply noteDrop_flag_mono; apply noteDrop_flag_mono; rw [base]; simp at hm; simp [hm]
  · apply noteDrop_flag_mono; apply noteDrop_flag_mono; rw [base]; simp [hs]
  · by_cases hd : j.val = Ev.upstreamDrop
    · exact .inr (.inr (.inr hd))
    · rw [noteDrop_flag _ _ _ _ hd, noteDrop_flag _ _ _ _ hd, base] at ht
      simp at ht
      rcases ht with ht | ht
      · exact .inl ht
      · exact .inr (.inl (by simp [ht]))

/-! ## The history -/

theorem histAdd_head (h : List EvMsg) (e : EvMsg) :
    ∃ m t, histAdd h e = m :: t ∧ m.source = e.source ∧ m.index = e.index ∧ m.arg = e.arg := by
  unfold histAdd
  split
  · rename_i x t
    split
    · rename_i hc
      simp at hc
      exact ⟨_, t, rfl, hc.1, hc.2, rfl⟩
    · exact ⟨e, (x :: t).take 63, by simp, rfl, rfl, rfl⟩
  · exact ⟨e, [], rfl, rfl, rfl, rfl⟩

/-- A history never forgets its newest 63 occurrences of other sources. -/
theorem histAdd_keep (h : List EvMsg) (e m : EvMsg) (i : Nat) (hi : i < 63) (hm : h[i]? = some m)
    (hne : m.source ≠ e.source) : ∃ k, k ≤ i + 1 ∧ (histAdd h e)[k]? = some m := by
  unfold histAdd
  split
  · rename_i x t
    split
    · rename_i hc
      simp at hc
      cases i with
      | zero => simp at hm; subst hm; exact absurd hc.1 hne
      | succ i => exact ⟨i + 1, by omega, by simpa using hm⟩
    · exact ⟨i + 1, by omega, by rw [List.getElem?_take]; simp [hm]; omega⟩
  · simp at hm

/-- The newest history entry but for dropped messages. -/
def NewestTells (t : State) (n : Nat) (src idx arg : Nat) : Prop :=
  ∃ i m, i ≤ n ∧ t.evt.history[i]? = some m ∧ m.source.toNat = src ∧ m.index.toNat = idx ∧ m.arg.toNat = arg

theorem NewestTells.tells {t : State} {n src idx arg : Nat} (h : NewestTells t n src idx arg) :
    Tells t (src, idx, arg) := by
  obtain ⟨i, m, -, hm, a, b, c⟩ := h
  exact ⟨m, List.mem_of_getElem? hm, a, b, c⟩

theorem noteEv_newest {t : State} {n src idx arg : Nat} (e : EvMsg) (h : NewestTells t n src idx arg)
    (hn : n < 63) (hne : e.source.toNat ≠ src) : NewestTells (t.noteEv e) (n + 1) src idx arg := by
  obtain ⟨i, m, hi, hm, a, b, c⟩ := h
  obtain ⟨k, hk, hk2⟩ := histAdd_keep t.evt.history e m i (by omega) hm (by intro h; rw [h] at a; exact hne a)
  exact ⟨k, m, by omega, hk2, a, b, c⟩

theorem noteDrop_newest {t : State} {n src idx arg : Nat} (p : Port) (h : NewestTells t n src idx arg)
    (hn : n < 63) (hne : src ≠ Ev.upstreamDrop) : NewestTells (t.noteDrop s p) (n + 1) src idx arg := by
  unfold State.noteDrop
  split
  · have := noteEv_newest (t.evMsg Ev.upstreamDrop p.num 0 none) h hn
      (by rw [evMsg_source _ _ _ _ _ (by decide)]; exact fun e => hne e.symm)
    unfold NewestTells at this ⊢
    rwa [queueEvs_evt]
  · obtain ⟨i, m, hi, r⟩ := h; exact ⟨i, m, by omega, r⟩

theorem raise_newest (src idx arg : Nat) (q : Option (BitVec 64)) (h : src < 256) (hi : idx < 256)
    (ha : arg < 2 ^ 32) (hne : src ≠ Ev.upstreamDrop) : NewestTells (s.raise src idx arg q) 2 src idx arg := by
  rw [raise_eq]
  refine noteDrop_newest s .b (noteDrop_newest s .a ?_ (by omega) hne) (by omega) hne
  obtain ⟨m, t, hh, a, b, c⟩ := histAdd_head s.evt.history (s.evMsg src idx arg q)
  refine ⟨0, m, by omega, ?_, ?_, ?_, ?_⟩
  · rw [queueEvs_evt]; show (histAdd s.evt.history _)[0]? = _; rw [hh]; rfl
  · rw [a]; exact evMsg_source _ _ _ _ _ h
  · rw [b]; simp only [State.evMsg, BitVec.toNat_ofNat]; omega
  · rw [c]; simp only [State.evMsg, BitVec.toNat_ofNat]; omega

/-- The newest occurrence of one source survives an occurrence of another. -/
theorem raise_keeps_newest {n src idx arg : Nat} (src' idx' arg' : Nat) (q : Option (BitVec 64))
    (h : NewestTells s n src idx arg) (h' : src' < 256) (hn : n < 60) (hs : src ≠ src')
    (hne : src ≠ Ev.upstreamDrop) : NewestTells (s.raise src' idx' arg' q) (n + 3) src idx arg := by
  rw [raise_eq]
  refine noteDrop_newest s .b (noteDrop_newest s .a ?_ (by omega) hne) (by omega) hne
  have := noteEv_newest (s.evMsg src' idx' arg' q) h (by omega)
    (by rw [evMsg_source _ _ _ _ _ h']; exact fun e => hs e.symm)
  obtain ⟨i, m, hi, hm, r⟩ := this
  exact ⟨i, m, hi, by rw [queueEvs_evt]; exact hm, r⟩

end Sys2Proof.Machine
end

