-- ==== Sys2Proof/Laws/ReportFields.lean ====
section
/-! SUPPORT. Events and journal entries leave every other field alone, field by field; and how reports
of several operations add up. -/

namespace Sys2Proof.Machine

variable (s : State)

/-! ## raise -/

@[simp] theorem raise_pending (src idx arg : Nat) (q : Option (BitVec 64)) : (s.raise src idx arg q).pending = s.pending := by
  have h := congrArg State.pending (raise_silent s src idx arg q); exact h
@[simp] theorem raise_now (src idx arg : Nat) (q : Option (BitVec 64)) : (s.raise src idx arg q).now = s.now := by
  have h := congrArg State.now (raise_silent s src idx arg q); exact h
@[simp] theorem raise_fresh (src idx arg : Nat) (q : Option (BitVec 64)) : (s.raise src idx arg q).fresh = s.fresh := by
  have h := congrArg State.fresh (raise_silent s src idx arg q); exact h
@[simp] theorem raise_dev (src idx arg : Nat) (q : Option (BitVec 64)) : (s.raise src idx arg q).dev = s.dev := by
  have h := congrArg State.dev (raise_silent s src idx arg q); exact h
@[simp] theorem raise_fuse (src idx arg : Nat) (q : Option (BitVec 64)) : (s.raise src idx arg q).fuse = s.fuse := by
  have h := congrArg State.fuse (raise_silent s src idx arg q); exact h
@[simp] theorem raise_snow (src idx arg : Nat) (q : Option (BitVec 64)) : (s.raise src idx arg q).snow = s.snow := by
  have h := congrArg State.snow (raise_silent s src idx arg q); exact h
@[simp] theorem raise_keeper (src idx arg : Nat) (q : Option (BitVec 64)) : (s.raise src idx arg q).keeper = s.keeper := by
  have h := congrArg State.keeper (raise_silent s src idx arg q); exact h
@[simp] theorem raise_win (src idx arg : Nat) (q : Option (BitVec 64)) : (s.raise src idx arg q).win = s.win := by
  have h := congrArg State.win (raise_silent s src idx arg q); exact h
@[simp] theorem raise_pwr (src idx arg : Nat) (q : Option (BitVec 64)) : (s.raise src idx arg q).pwr = s.pwr := by
  have h := congrArg State.pwr (raise_silent s src idx arg q); exact h
@[simp] theorem raise_mx (src idx arg : Nat) (q : Option (BitVec 64)) : (s.raise src idx arg q).mx = s.mx := by
  have h := congrArg State.mx (raise_silent s src idx arg q); exact h
@[simp] theorem raise_pace (src idx arg : Nat) (q : Option (BitVec 64)) : (s.raise src idx arg q).pace = s.pace := by
  have h := congrArg State.pace (raise_silent s src idx arg q); exact h
@[simp] theorem raise_ldr (src idx arg : Nat) (q : Option (BitVec 64)) : (s.raise src idx arg q).ldr = s.ldr := by
  have h := congrArg State.ldr (raise_silent s src idx arg q); exact h
@[simp] theorem raise_bld (src idx arg : Nat) (q : Option (BitVec 64)) : (s.raise src idx arg q).bld = s.bld := by
  have h := congrArg State.bld (raise_silent s src idx arg q); exact h
@[simp] theorem raise_ram (src idx arg : Nat) (q : Option (BitVec 64)) : (s.raise src idx arg q).ram = s.ram := by
  have h := congrArg State.ram (raise_silent s src idx arg q); exact h
@[simp] theorem raise_bank0 (src idx arg : Nat) (q : Option (BitVec 64)) : (s.raise src idx arg q).bank0 = s.bank0 := by
  have h := congrArg State.bank0 (raise_silent s src idx arg q); exact h
@[simp] theorem raise_bank1 (src idx arg : Nat) (q : Option (BitVec 64)) : (s.raise src idx arg q).bank1 = s.bank1 := by
  have h := congrArg State.bank1 (raise_silent s src idx arg q); exact h
@[simp] theorem raise_bank2 (src idx arg : Nat) (q : Option (BitVec 64)) : (s.raise src idx arg q).bank2 = s.bank2 := by
  have h := congrArg State.bank2 (raise_silent s src idx arg q); exact h
@[simp] theorem raise_bank4 (src idx arg : Nat) (q : Option (BitVec 64)) : (s.raise src idx arg q).bank4 = s.bank4 := by
  have h := congrArg State.bank4 (raise_silent s src idx arg q); exact h
@[simp] theorem raise_link (src idx arg : Nat) (q : Option (BitVec 64)) : (s.raise src idx arg q).link = s.link := by
  have h := congrArg State.link (raise_silent s src idx arg q); exact h
@[simp] theorem raise_stm (src idx arg : Nat) (q : Option (BitVec 64)) : (s.raise src idx arg q).stm = s.stm := by
  have h := congrArg State.stm (raise_silent s src idx arg q); exact h
@[simp] theorem raise_mtb (src idx arg : Nat) (q : Option (BitVec 64)) : (s.raise src idx arg q).mtb = s.mtb := by
  have h := congrArg State.mtb (raise_silent s src idx arg q); exact h
@[simp] theorem raise_chans (src idx arg : Nat) (q : Option (BitVec 64)) : (s.raise src idx arg q).chans = s.chans := by
  have h := congrArg State.chans (raise_silent s src idx arg q); exact h
@[simp] theorem raise_dies (src idx arg : Nat) (q : Option (BitVec 64)) : (s.raise src idx arg q).dies = s.dies := by
  have h := congrArg State.dies (raise_silent s src idx arg q); exact h
@[simp] theorem raise_swp (src idx arg : Nat) (q : Option (BitVec 64)) : (s.raise src idx arg q).swp = s.swp := by
  have h := congrArg State.swp (raise_silent s src idx arg q); exact h
@[simp] theorem raise_ram6 (src idx arg : Nat) (q : Option (BitVec 64)) : (s.raise src idx arg q).ram6 = s.ram6 := by
  have h := congrArg State.ram6 (raise_silent s src idx arg q); exact h
@[simp] theorem raise_flx (src idx arg : Nat) (q : Option (BitVec 64)) : (s.raise src idx arg q).flx = s.flx := by
  have h := congrArg State.flx (raise_silent s src idx arg q); exact h
@[simp] theorem raise_coef (src idx arg : Nat) (q : Option (BitVec 64)) : (s.raise src idx arg q).coef = s.coef := by
  have h := congrArg State.coef (raise_silent s src idx arg q); exact h
@[simp] theorem raise_tap (src idx arg : Nat) (q : Option (BitVec 64)) : (s.raise src idx arg q).tap = s.tap := by
  have h := congrArg State.tap (raise_silent s src idx arg q); exact h
@[simp] theorem raise_wide (src idx arg : Nat) (q : Option (BitVec 64)) : (s.raise src idx arg q).wide = s.wide := by
  have h := congrArg State.wide (raise_silent s src idx arg q); exact h
@[simp] theorem raise_jrn (src idx arg : Nat) (q : Option (BitVec 64)) : (s.raise src idx arg q).jrn = s.jrn := by
  rw [raise_eq]; unfold State.noteDrop; split <;> split <;> simp [State.noteEv]
@[simp] theorem raise_amask (src idx arg : Nat) (q : Option (BitVec 64)) : (s.raise src idx arg q).evt.amask = s.evt.amask := by
  have h := congrArg (fun t : State => t.evt.amask) (raise_silent s src idx arg q); exact h
@[simp] theorem raise_umask (src idx arg : Nat) (q : Option (BitVec 64)) : (s.raise src idx arg q).evt.umask = s.evt.umask := by
  have h := congrArg (fun t : State => t.evt.umask) (raise_silent s src idx arg q); exact h

/-! ## jotRaise -/

@[simp] theorem jotRaise_pending (src kind out code idx : Nat) (data : List Byte) (ev i arg : Nat) (dig : Option (BitVec 128)) :
    (s.jotRaise src kind out code idx data ev i arg dig).pending = s.pending := by simp [State.jotRaise]
@[simp] theorem jotRaise_now (src kind out code idx : Nat) (data : List Byte) (ev i arg : Nat) (dig : Option (BitVec 128)) :
    (s.jotRaise src kind out code idx data ev i arg dig).now = s.now := by simp [State.jotRaise]
@[simp] theorem jotRaise_fresh (src kind out code idx : Nat) (data : List Byte) (ev i arg : Nat) (dig : Option (BitVec 128)) :
    (s.jotRaise src kind out code idx data ev i arg dig).fresh = s.fresh := by simp [State.jotRaise]
@[simp] theorem jotRaise_dev (src kind out code idx : Nat) (data : List Byte) (ev i arg : Nat) (dig : Option (BitVec 128)) :
    (s.jotRaise src kind out code idx data ev i arg dig).dev = s.dev := by simp [State.jotRaise]
@[simp] theorem jotRaise_fuse (src kind out code idx : Nat) (data : List Byte) (ev i arg : Nat) (dig : Option (BitVec 128)) :
    (s.jotRaise src kind out code idx data ev i arg dig).fuse = s.fuse := by simp [State.jotRaise]
@[simp] theorem jotRaise_snow (src kind out code idx : Nat) (data : List Byte) (ev i arg : Nat) (dig : Option (BitVec 128)) :
    (s.jotRaise src kind out code idx data ev i arg dig).snow = s.snow := by simp [State.jotRaise]
@[simp] theorem jotRaise_keeper (src kind out code idx : Nat) (data : List Byte) (ev i arg : Nat) (dig : Option (BitVec 128)) :
    (s.jotRaise src kind out code idx data ev i arg dig).keeper = s.keeper := by simp [State.jotRaise]
@[simp] theorem jotRaise_win (src kind out code idx : Nat) (data : List Byte) (ev i arg : Nat) (dig : Option (BitVec 128)) :
    (s.jotRaise src kind out code idx data ev i arg dig).win = s.win := by simp [State.jotRaise]
@[simp] theorem jotRaise_pwr (src kind out code idx : Nat) (data : List Byte) (ev i arg : Nat) (dig : Option (BitVec 128)) :
    (s.jotRaise src kind out code idx data ev i arg dig).pwr = s.pwr := by simp [State.jotRaise]
@[simp] theorem jotRaise_mx (src kind out code idx : Nat) (data : List Byte) (ev i arg : Nat) (dig : Option (BitVec 128)) :
    (s.jotRaise src kind out code idx data ev i arg dig).mx = s.mx := by simp [State.jotRaise]
@[simp] theorem jotRaise_pace (src kind out code idx : Nat) (data : List Byte) (ev i arg : Nat) (dig : Option (BitVec 128)) :
    (s.jotRaise src kind out code idx data ev i arg dig).pace = s.pace := by simp [State.jotRaise]
@[simp] theorem jotRaise_ldr (src kind out code idx : Nat) (data : List Byte) (ev i arg : Nat) (dig : Option (BitVec 128)) :
    (s.jotRaise src kind out code idx data ev i arg dig).ldr = s.ldr := by simp [State.jotRaise]
@[simp] theorem jotRaise_bld (src kind out code idx : Nat) (data : List Byte) (ev i arg : Nat) (dig : Option (BitVec 128)) :
    (s.jotRaise src kind out code idx data ev i arg dig).bld = s.bld := by simp [State.jotRaise]
@[simp] theorem jotRaise_ram (src kind out code idx : Nat) (data : List Byte) (ev i arg : Nat) (dig : Option (BitVec 128)) :
    (s.jotRaise src kind out code idx data ev i arg dig).ram = s.ram := by simp [State.jotRaise]
@[simp] theorem jotRaise_bank0 (src kind out code idx : Nat) (data : List Byte) (ev i arg : Nat) (dig : Option (BitVec 128)) :
    (s.jotRaise src kind out code idx data ev i arg dig).bank0 = s.bank0 := by simp [State.jotRaise]
@[simp] theorem jotRaise_bank1 (src kind out code idx : Nat) (data : List Byte) (ev i arg : Nat) (dig : Option (BitVec 128)) :
    (s.jotRaise src kind out code idx data ev i arg dig).bank1 = s.bank1 := by simp [State.jotRaise]
@[simp] theorem jotRaise_bank2 (src kind out code idx : Nat) (data : List Byte) (ev i arg : Nat) (dig : Option (BitVec 128)) :
    (s.jotRaise src kind out code idx data ev i arg dig).bank2 = s.bank2 := by simp [State.jotRaise]
@[simp] theorem jotRaise_bank4 (src kind out code idx : Nat) (data : List Byte) (ev i arg : Nat) (dig : Option (BitVec 128)) :
    (s.jotRaise src kind out code idx data ev i arg dig).bank4 = s.bank4 := by simp [State.jotRaise]
@[simp] theorem jotRaise_link (src kind out code idx : Nat) (data : List Byte) (ev i arg : Nat) (dig : Option (BitVec 128)) :
    (s.jotRaise src kind out code idx data ev i arg dig).link = s.link := by simp [State.jotRaise]
@[simp] theorem jotRaise_stm (src kind out code idx : Nat) (data : List Byte) (ev i arg : Nat) (dig : Option (BitVec 128)) :
    (s.jotRaise src kind out code idx data ev i arg dig).stm = s.stm := by simp [State.jotRaise]
@[simp] theorem jotRaise_mtb (src kind out code idx : Nat) (data : List Byte) (ev i arg : Nat) (dig : Option (BitVec 128)) :
    (s.jotRaise src kind out code idx data ev i arg dig).mtb = s.mtb := by simp [State.jotRaise]
@[simp] theorem jotRaise_chans (src kind out code idx : Nat) (data : List Byte) (ev i arg : Nat) (dig : Option (BitVec 128)) :
    (s.jotRaise src kind out code idx data ev i arg dig).chans = s.chans := by simp [State.jotRaise]
@[simp] theorem jotRaise_dies (src kind out code idx : Nat) (data : List Byte) (ev i arg : Nat) (dig : Option (BitVec 128)) :
    (s.jotRaise src kind out code idx data ev i arg dig).dies = s.dies := by simp [State.jotRaise]
@[simp] theorem jotRaise_swp (src kind out code idx : Nat) (data : List Byte) (ev i arg : Nat) (dig : Option (BitVec 128)) :
    (s.jotRaise src kind out code idx data ev i arg dig).swp = s.swp := by simp [State.jotRaise]
@[simp] theorem jotRaise_ram6 (src kind out code idx : Nat) (data : List Byte) (ev i arg : Nat) (dig : Option (BitVec 128)) :
    (s.jotRaise src kind out code idx data ev i arg dig).ram6 = s.ram6 := by simp [State.jotRaise]
@[simp] theorem jotRaise_flx (src kind out code idx : Nat) (data : List Byte) (ev i arg : Nat) (dig : Option (BitVec 128)) :
    (s.jotRaise src kind out code idx data ev i arg dig).flx = s.flx := by simp [State.jotRaise]
@[simp] theorem jotRaise_coef (src kind out code idx : Nat) (data : List Byte) (ev i arg : Nat) (dig : Option (BitVec 128)) :
    (s.jotRaise src kind out code idx data ev i arg dig).coef = s.coef := by simp [State.jotRaise]
@[simp] theorem jotRaise_tap (src kind out code idx : Nat) (data : List Byte) (ev i arg : Nat) (dig : Option (BitVec 128)) :
    (s.jotRaise src kind out code idx data ev i arg dig).tap = s.tap := by simp [State.jotRaise]
@[simp] theorem jotRaise_wide (src kind out code idx : Nat) (data : List Byte) (ev i arg : Nat) (dig : Option (BitVec 128)) :
    (s.jotRaise src kind out code idx data ev i arg dig).wide = s.wide := by simp [State.jotRaise]
@[simp] theorem jotRaise_silent (src kind out code idx : Nat) (data : List Byte) (ev i arg : Nat) (dig : Option (BitVec 128)) : (s.jotRaise src kind out code idx data ev i arg dig).silent = s.silent := by simp [State.jotRaise]
@[simp] theorem jotRaise_jrn (src kind out code idx : Nat) (data : List Byte) (ev i arg : Nat) (dig : Option (BitVec 128)) :
    (s.jotRaise src kind out code idx data ev i arg dig).jrn = s.jrn.push (s.entry src kind out code idx data dig) := by simp [State.jotRaise]
@[simp] theorem jotRaise_umask (src kind out code idx : Nat) (data : List Byte) (ev i arg : Nat) (dig : Option (BitVec 128)) : (s.jotRaise src kind out code idx data ev i arg dig).evt.umask = s.evt.umask := by simp [State.jotRaise]
@[simp] theorem jotRaise_amask (src kind out code idx : Nat) (data : List Byte) (ev i arg : Nat) (dig : Option (BitVec 128)) : (s.jotRaise src kind out code idx data ev i arg dig).evt.amask = s.evt.amask := by simp [State.jotRaise]

/-! ## raiseEdge -/

@[simp] theorem raiseEdge_pending (was is : Bool) (src idx arg : Nat) : (s.raiseEdge was is src idx arg).pending = s.pending := by
  unfold State.raiseEdge; split <;> simp
@[simp] theorem raiseEdge_now (was is : Bool) (src idx arg : Nat) : (s.raiseEdge was is src idx arg).now = s.now := by
  unfold State.raiseEdge; split <;> simp
@[simp] theorem raiseEdge_fresh (was is : Bool) (src idx arg : Nat) : (s.raiseEdge was is src idx arg).fresh = s.fresh := by
  unfold State.raiseEdge; split <;> simp
@[simp] theorem raiseEdge_dev (was is : Bool) (src idx arg : Nat) : (s.raiseEdge was is src idx arg).dev = s.dev := by
  unfold State.raiseEdge; split <;> simp
@[simp] theorem raiseEdge_fuse (was is : Bool) (src idx arg : Nat) : (s.raiseEdge was is src idx arg).fuse = s.fuse := by
  unfold State.raiseEdge; split <;> simp
@[simp] theorem raiseEdge_snow (was is : Bool) (src idx arg : Nat) : (s.raiseEdge was is src idx arg).snow = s.snow := by
  unfold State.raiseEdge; split <;> simp
@[simp] theorem raiseEdge_keeper (was is : Bool) (src idx arg : Nat) : (s.raiseEdge was is src idx arg).keeper = s.keeper := by
  unfold State.raiseEdge; split <;> simp
@[simp] theorem raiseEdge_win (was is : Bool) (src idx arg : Nat) : (s.raiseEdge was is src idx arg).win = s.win := by
  unfold State.raiseEdge; split <;> simp
@[simp] theorem raiseEdge_pwr (was is : Bool) (src idx arg : Nat) : (s.raiseEdge was is src idx arg).pwr = s.pwr := by
  unfold State.raiseEdge; split <;> simp
@[simp] theorem raiseEdge_mx (was is : Bool) (src idx arg : Nat) : (s.raiseEdge was is src idx arg).mx = s.mx := by
  unfold State.raiseEdge; split <;> simp
@[simp] theorem raiseEdge_pace (was is : Bool) (src idx arg : Nat) : (s.raiseEdge was is src idx arg).pace = s.pace := by
  unfold State.raiseEdge; split <;> simp
@[simp] theorem raiseEdge_ldr (was is : Bool) (src idx arg : Nat) : (s.raiseEdge was is src idx arg).ldr = s.ldr := by
  unfold State.raiseEdge; split <;> simp
@[simp] theorem raiseEdge_bld (was is : Bool) (src idx arg : Nat) : (s.raiseEdge was is src idx arg).bld = s.bld := by
  unfold State.raiseEdge; split <;> simp
@[simp] theorem raiseEdge_ram (was is : Bool) (src idx arg : Nat) : (s.raiseEdge was is src idx arg).ram = s.ram := by
  unfold State.raiseEdge; split <;> simp
@[simp] theorem raiseEdge_bank0 (was is : Bool) (src idx arg : Nat) : (s.raiseEdge was is src idx arg).bank0 = s.bank0 := by
  unfold State.raiseEdge; split <;> simp
@[simp] theorem raiseEdge_bank1 (was is : Bool) (src idx arg : Nat) : (s.raiseEdge was is src idx arg).bank1 = s.bank1 := by
  unfold State.raiseEdge; split <;> simp
@[simp] theorem raiseEdge_bank2 (was is : Bool) (src idx arg : Nat) : (s.raiseEdge was is src idx arg).bank2 = s.bank2 := by
  unfold State.raiseEdge; split <;> simp
@[simp] theorem raiseEdge_bank4 (was is : Bool) (src idx arg : Nat) : (s.raiseEdge was is src idx arg).bank4 = s.bank4 := by
  unfold State.raiseEdge; split <;> simp
@[simp] theorem raiseEdge_link (was is : Bool) (src idx arg : Nat) : (s.raiseEdge was is src idx arg).link = s.link := by
  unfold State.raiseEdge; split <;> simp
@[simp] theorem raiseEdge_stm (was is : Bool) (src idx arg : Nat) : (s.raiseEdge was is src idx arg).stm = s.stm := by
  unfold State.raiseEdge; split <;> simp
@[simp] theorem raiseEdge_mtb (was is : Bool) (src idx arg : Nat) : (s.raiseEdge was is src idx arg).mtb = s.mtb := by
  unfold State.raiseEdge; split <;> simp
@[simp] theorem raiseEdge_chans (was is : Bool) (src idx arg : Nat) : (s.raiseEdge was is src idx arg).chans = s.chans := by
  unfold State.raiseEdge; split <;> simp
@[simp] theorem raiseEdge_dies (was is : Bool) (src idx arg : Nat) : (s.raiseEdge was is src idx arg).dies = s.dies := by
  unfold State.raiseEdge; split <;> simp
@[simp] theorem raiseEdge_swp (was is : Bool) (src idx arg : Nat) : (s.raiseEdge was is src idx arg).swp = s.swp := by
  unfold State.raiseEdge; split <;> simp
@[simp] theorem raiseEdge_ram6 (was is : Bool) (src idx arg : Nat) : (s.raiseEdge was is src idx arg).ram6 = s.ram6 := by
  unfold State.raiseEdge; split <;> simp
@[simp] theorem raiseEdge_flx (was is : Bool) (src idx arg : Nat) : (s.raiseEdge was is src idx arg).flx = s.flx := by
  unfold State.raiseEdge; split <;> simp
@[simp] theorem raiseEdge_coef (was is : Bool) (src idx arg : Nat) : (s.raiseEdge was is src idx arg).coef = s.coef := by
  unfold State.raiseEdge; split <;> simp
@[simp] theorem raiseEdge_tap (was is : Bool) (src idx arg : Nat) : (s.raiseEdge was is src idx arg).tap = s.tap := by
  unfold State.raiseEdge; split <;> simp
@[simp] theorem raiseEdge_wide (was is : Bool) (src idx arg : Nat) : (s.raiseEdge was is src idx arg).wide = s.wide := by
  unfold State.raiseEdge; split <;> simp
@[simp] theorem raiseEdge_jrn (was is : Bool) (src idx arg : Nat) : (s.raiseEdge was is src idx arg).jrn = s.jrn := by
  unfold State.raiseEdge; split <;> simp
@[simp] theorem raiseEdge_silent (was is : Bool) (src idx arg : Nat) : (s.raiseEdge was is src idx arg).silent = s.silent := by
  unfold State.raiseEdge; split <;> simp
@[simp] theorem jotWrite_silent (m : Master) (w oo : Nat) (bs : List Byte) (out : Nat) :
    (s.jotWrite m w oo bs out).silent = s.silent := rfl
@[simp] theorem jotWrite_jrn (m : Master) (w oo : Nat) (bs : List Byte) (out : Nat) :
    (s.jotWrite m w oo bs out).jrn = s.jrn.push (s.writeEntry m w oo bs out 0) := rfl

@[simp] theorem jotWrite_pending (m : Master) (w oo : Nat) (bs : List Byte) (out : Nat) :
    (s.jotWrite m w oo bs out).pending = s.pending := rfl
@[simp] theorem jotWrite_now (m : Master) (w oo : Nat) (bs : List Byte) (out : Nat) :
    (s.jotWrite m w oo bs out).now = s.now := rfl
@[simp] theorem jotWrite_fresh (m : Master) (w oo : Nat) (bs : List Byte) (out : Nat) :
    (s.jotWrite m w oo bs out).fresh = s.fresh := rfl
@[simp] theorem jotWrite_dev (m : Master) (w oo : Nat) (bs : List Byte) (out : Nat) :
    (s.jotWrite m w oo bs out).dev = s.dev := rfl
@[simp] theorem jotWrite_fuse (m : Master) (w oo : Nat) (bs : List Byte) (out : Nat) :
    (s.jotWrite m w oo bs out).fuse = s.fuse := rfl
@[simp] theorem jotWrite_snow (m : Master) (w oo : Nat) (bs : List Byte) (out : Nat) :
    (s.jotWrite m w oo bs out).snow = s.snow := rfl
@[simp] theorem jotWrite_keeper (m : Master) (w oo : Nat) (bs : List Byte) (out : Nat) :
    (s.jotWrite m w oo bs out).keeper = s.keeper := rfl
@[simp] theorem jotWrite_win (m : Master) (w oo : Nat) (bs : List Byte) (out : Nat) :
    (s.jotWrite m w oo bs out).win = s.win := rfl
@[simp] theorem jotWrite_pwr (m : Master) (w oo : Nat) (bs : List Byte) (out : Nat) :
    (s.jotWrite m w oo bs out).pwr = s.pwr := rfl
@[simp] theorem jotWrite_mx (m : Master) (w oo : Nat) (bs : List Byte) (out : Nat) :
    (s.jotWrite m w oo bs out).mx = s.mx := rfl
@[simp] theorem jotWrite_pace (m : Master) (w oo : Nat) (bs : List Byte) (out : Nat) :
    (s.jotWrite m w oo bs out).pace = s.pace := rfl
@[simp] theorem jotWrite_ldr (m : Master) (w oo : Nat) (bs : List Byte) (out : Nat) :
    (s.jotWrite m w oo bs out).ldr = s.ldr := rfl
@[simp] theorem jotWrite_bld (m : Master) (w oo : Nat) (bs : List Byte) (out : Nat) :
    (s.jotWrite m w oo bs out).bld = s.bld := rfl
@[simp] theorem jotWrite_ram (m : Master) (w oo : Nat) (bs : List Byte) (out : Nat) :
    (s.jotWrite m w oo bs out).ram = s.ram := rfl
@[simp] theorem jotWrite_bank0 (m : Master) (w oo : Nat) (bs : List Byte) (out : Nat) :
    (s.jotWrite m w oo bs out).bank0 = s.bank0 := rfl
@[simp] theorem jotWrite_bank1 (m : Master) (w oo : Nat) (bs : List Byte) (out : Nat) :
    (s.jotWrite m w oo bs out).bank1 = s.bank1 := rfl
@[simp] theorem jotWrite_bank2 (m : Master) (w oo : Nat) (bs : List Byte) (out : Nat) :
    (s.jotWrite m w oo bs out).bank2 = s.bank2 := rfl
@[simp] theorem jotWrite_bank4 (m : Master) (w oo : Nat) (bs : List Byte) (out : Nat) :
    (s.jotWrite m w oo bs out).bank4 = s.bank4 := rfl
@[simp] theorem jotWrite_link (m : Master) (w oo : Nat) (bs : List Byte) (out : Nat) :
    (s.jotWrite m w oo bs out).link = s.link := rfl
@[simp] theorem jotWrite_stm (m : Master) (w oo : Nat) (bs : List Byte) (out : Nat) :
    (s.jotWrite m w oo bs out).stm = s.stm := rfl
@[simp] theorem jotWrite_mtb (m : Master) (w oo : Nat) (bs : List Byte) (out : Nat) :
    (s.jotWrite m w oo bs out).mtb = s.mtb := rfl
@[simp] theorem jotWrite_chans (m : Master) (w oo : Nat) (bs : List Byte) (out : Nat) :
    (s.jotWrite m w oo bs out).chans = s.chans := rfl
@[simp] theorem jotWrite_dies (m : Master) (w oo : Nat) (bs : List Byte) (out : Nat) :
    (s.jotWrite m w oo bs out).dies = s.dies := rfl
@[simp] theorem jotWrite_swp (m : Master) (w oo : Nat) (bs : List Byte) (out : Nat) :
    (s.jotWrite m w oo bs out).swp = s.swp := rfl
@[simp] theorem jotWrite_ram6 (m : Master) (w oo : Nat) (bs : List Byte) (out : Nat) :
    (s.jotWrite m w oo bs out).ram6 = s.ram6 := rfl
@[simp] theorem jotWrite_flx (m : Master) (w oo : Nat) (bs : List Byte) (out : Nat) :
    (s.jotWrite m w oo bs out).flx = s.flx := rfl
@[simp] theorem jotWrite_coef (m : Master) (w oo : Nat) (bs : List Byte) (out : Nat) :
    (s.jotWrite m w oo bs out).coef = s.coef := rfl
@[simp] theorem jotWrite_tap (m : Master) (w oo : Nat) (bs : List Byte) (out : Nat) :
    (s.jotWrite m w oo bs out).tap = s.tap := rfl
@[simp] theorem jotWrite_wide (m : Master) (w oo : Nat) (bs : List Byte) (out : Nat) :
    (s.jotWrite m w oo bs out).wide = s.wide := rfl
@[simp] theorem jotWrite_evt (m : Master) (w oo : Nat) (bs : List Byte) (out : Nat) :
    (s.jotWrite m w oo bs out).evt = s.evt := rfl
@[simp] theorem jotWrite_portA (m : Master) (w oo : Nat) (bs : List Byte) (out : Nat) :
    (s.jotWrite m w oo bs out).portA = s.portA := rfl
@[simp] theorem jotWrite_portB (m : Master) (w oo : Nat) (bs : List Byte) (out : Nat) :
    (s.jotWrite m w oo bs out).portB = s.portB := rfl
@[simp] theorem jotWrite_twp (m : Master) (w oo : Nat) (bs : List Byte) (out : Nat) :
    (s.jotWrite m w oo bs out).twp = s.twp := rfl
@[simp] theorem jotWrite_trc (m : Master) (w oo : Nat) (bs : List Byte) (out : Nat) :
    (s.jotWrite m w oo bs out).trc = s.trc := rfl

/-! ## Adding up -/

theorem Raises.same {s t : State} (h : t.evt.flags = s.evt.flags) : Raises s t [] [] := by
  intro j; rw [h]; exact ⟨by simp, id, fun h => .inl h⟩

theorem Raises.trans {s t u : State} {a b x y : List Nat} (h : Raises s t a x) (k : Raises t u b y) :
    Raises s u (a ++ b) (x ++ y) := by
  intro j
  obtain ⟨h1, h2, h3⟩ := h j
  obtain ⟨k1, k2, k3⟩ := k j
  refine ⟨fun m => ?_, fun m => k2 (h2 m), fun m => ?_⟩
  · rcases List.mem_append.mp m with m | m
    · exact k2 (h1 m)
    · exact k1 m
  · rcases k3 m with m | m | m | m
    · rcases h3 m with m | m | m | m
      · exact .inl m
      · exact .inr (.inl (by simp [m]))
      · exact .inr (.inr (.inl (by simp [m])))
      · exact .inr (.inr (.inr m))
    · exact .inr (.inl (by simp [m]))
    · exact .inr (.inr (.inl (by simp [m])))
    · exact .inr (.inr (.inr m))

/-- A state whose flags are those of s stands for s. -/
theorem Raises.from {s u t : State} {a x : List Nat} (h : Raises u t a x) (e : u.evt.flags = s.evt.flags) :
    Raises s t a x := by
  intro j; have := h j; rw [e] at this; exact this

/-- An entry and the event that it records, from a state whose flags are those of s. -/
theorem jotRaise_raises {s u : State} (src kind out code idx : Nat) (data : List Byte) (ev i arg : Nat)
    (dig : Option (BitVec 128)) (e : u.evt.flags = s.evt.flags) (h : ev < 256) :
    Raises s (u.jotRaise src kind out code idx data ev i arg dig) [ev] [] :=
  (raise_raises _ ev i arg _ h).from e

theorem jotRaise_newest (src kind out code idx : Nat) (data : List Byte) (ev i arg : Nat)
    (dig : Option (BitVec 128)) (h : ev < 256) (hi : i < 256) (ha : arg < 2 ^ 32) (hne : ev ≠ Ev.upstreamDrop) :
    NewestTells (s.jotRaise src kind out code idx data ev i arg dig) 2 ev i arg :=
  raise_newest _ ev i arg _ h hi ha hne

/-- A command that changes u silently, then raises one event, does just that. -/
theorem does_raise {c : Instr} {s u : State} {ev i arg : Nat} {q : Option (BitVec 64)} {es : List JEntry}
    (hx : exec c s = .next (u.raise ev i arg q)) (hf : u.evt.flags = s.evt.flags) (hj : u.jrn = s.jrn.pushes es)
    (h : ev < 256) (hi : i < 256) (ha : arg < 2 ^ 32) (hne : ev ≠ Ev.upstreamDrop) :
    Does c s u [(ev, i, arg)] es := by
  refine ⟨_, hx, raise_silent .., (raise_raises u ev i arg q h).from hf, ?_, by simp [hj]⟩
  intro e he
  simp at he
  subst he
  exact (raise_newest u ev i arg q h hi ha hne).tells

/-- A command that changes u silently and writes an entry with its event does just that. -/
theorem does_jotRaise {c : Instr} {s u : State} {src kind out code idx ev i arg : Nat} {data : List Byte}
    {dig : Option (BitVec 128)} {es : List JEntry}
    (hx : exec c s = .next (u.jotRaise src kind out code idx data ev i arg dig))
    (hf : u.evt.flags = s.evt.flags)
    (hj : u.jrn.push (u.entry src kind out code idx data dig) = s.jrn.pushes es)
    (h : ev < 256) (hi : i < 256) (ha : arg < 2 ^ 32) (hne : ev ≠ Ev.upstreamDrop) :
    Does c s u [(ev, i, arg)] es := by
  refine ⟨_, hx, jotRaise_silent .., jotRaise_raises _ _ _ _ _ _ ev i arg _ hf h, ?_, by simp [hj]⟩
  intro e he
  simp at he
  subst he
  exact (jotRaise_newest u _ _ _ _ _ _ ev i arg _ h hi ha hne).tells

/-- A command that changes u without a report does just that. -/
theorem does_quietly {c : Instr} {s t u : State} {es : List JEntry} (hx : exec c s = .next t)
    (ht : t.silent = u.silent) (hf : t.evt.flags = s.evt.flags) (hj : t.jrn = s.jrn.pushes es) :
    Does c s u [] es :=
  ⟨t, hx, ht, Raises.same hf, by simp, hj⟩

end Sys2Proof.Machine
end

