-- ==== Sys2Proof/Tests/Slice0.lean ====
section
/-! SUPPORT. The author's own checks: ill-formed operands are refused, witnesses that the hypotheses of each
statement can be met together, clause by clause, and single steps held against the spec's words. -/

open Sys2Proof Sys2Proof.Machine

namespace Sys2Proof.Tests

set_option maxRecDepth 20000
set_option Elab.async false

/-! ## States that the checks start from -/

/-- A loudspeaker of 4 ohm (Table 2-11). -/
def wModel : Model :=
  { kind := 1, re := 0x40800000, le := 0x3A03126F, bl := 0x40A00000, mms := 0x3C23D70A, kms := 0x447A0000,
    rms := 0x3F800000, xlim := 0x3BA3D70A, fb := 0 }

/-- A channel with one input at unity gain and empty lists in both banks. -/
def wCfg (law : Nat) (fade : Bool) : ChanCfg :=
  { dfn := { law := law, fadeEn := fade, firFade := false, sectMax := 4, fir := none, firShadow := none, phase := 0,
             inputs := [(0, 0x20000000)] }
    bankA := ⟨[], []⟩, bankB := ⟨[], []⟩, law := [], model := wModel, table := none, prot := [], diag := [],
    imgModel := wModel, imgTable := none }

/-- CH0 and CH1 are untwinned, CH2 is twinned and led by this device. -/
def wPlan (follower : Bool) : TwinPlan := { twinMask := 4, leadMask := 4, pairId := 7, tbFollower := follower }

def wBuild (follower : Bool) : Build :=
  { claim := { chMask := 7, streams := 1, fir := 0, models := 3, ptables := 0, ripple := 3, xtal := false, sections := 0 }
    streams := [(0, 0)]
    chans := ((Vector.replicate 64 none).set 0 (some (wCfg 1 true))).set 1 (some (wCfg 0 false)) |>.set 2 (some (wCfg 1 true))
    twin := some (wPlan follower), policy := none, bench := false, rollback := 5, id := 1, digest := 2 }

/-- A device in RUN with that build, every channel in OFF. -/
def w0 : State :=
  { State.reset with
    now := 1000000
    dev := { Dev.reset with held := .running, state := .run }
    pwr := { Pwr.reset with vauxOk := true, vauxMv := 5000, vddinOk := true, vioOk := true, pvddOk := true }
    keeper := { Keeper.reset with ok := true, step := 7 }
    jrn := { Journal.reset with started := true }
    bld := { Bld.reset with build := some (wBuild false) } }

/-- In another device state. -/
def wd (x : DevState) : State := { w0 with dev := { w0.dev with state := x } }

/-- CH0 in a state. -/
def wc (x : ChState) (f : Channel → Channel := id) : State := w0.modCh 0 fun k => f { k with st := x }

/-- A joined pair that leads CH2, which stands in a state. -/
def wj (x : ChState) (f : Channel → Channel := id) : State :=
  State.modCh { w0 with swp := { Twin.reset with joined := true, laneUp := true, tbLock := true, lead := 4 } } 2
    fun k => f { k with st := x }

/-- The same pair, seen from the half that follows. -/
def wf (x : ChState) (f : Channel → Channel := id) : State :=
  { wj x f with swp := { (wj x f).swp with lead := 0 } }

/-- A tick's inputs with nothing remarkable. -/
def wTick (n : Nat) : TickIn :=
  { chans := List.replicate n idleIn, dies := List.replicate 8 ⟨0xC000, List.replicate 8 200⟩
    rsMiss := 0, firMiss := 0, margin := 30, engine := 1, ppm := 0, mainsEdge := none, twinPresHigh := true
    muteN := true, xtalAmp := true, vaux := 5000, tbErr := 0, coreTemp := 0, refHeld := true, carrier := 0, m4Held := false, tck := [] }

/-- The outcome is the fault of ill-formed operands. -/
def stops (c : Instr) (s : State) : Bool :=
  match exec c s with
  | .fault .illFormed => true
  | _ => false

/-- The outcome is a next state with a property. -/
def goes (c : Instr) (s : State) (p : State → Bool) : Bool :=
  match exec c s with
  | .next t => p t
  | _ => false

/-! ## Operands that no step of the hardware has are refused -/

theorem test_wf_tick : (Instr.tickBoundary (wTick 64)).wf = true ∧ (Instr.tickBoundary (wTick 63)).wf = false ∧
    stops (.tickBoundary (wTick 63)) State.reset = true := by decide

theorem test_wf_dies : (Instr.tickBoundary { wTick 64 with dies := [] }).wf = false ∧
    stops (.tickBoundary { wTick 64 with dies := [] }) State.reset = true := by decide

theorem test_wf_burst_empty : (Instr.registerWrite .m0 0x30000010 []).wf = false ∧
    stops (.registerWrite .m0 0x30000010 []) State.reset = true := by decide

theorem test_wf_burst_long : (Instr.registerWrite .m0 0x30000010 (List.replicate 64 0)).wf = true ∧
    (Instr.registerWrite .m0 0x30000011 (List.replicate 64 0)).wf = false ∧
    stops (.registerWrite .m0 0x30000011 (List.replicate 64 0)) State.reset = true := by decide

theorem test_wf_samples : (Instr.tickBoundary { wTick 64 with chans := List.replicate 64 { idleIn with vs := [] } }).wf = false ∧
    stops (.tickBoundary { wTick 64 with chans := List.replicate 64 { idleIn with vs := [] } }) State.reset = true := by decide

/-! ## Witnesses: each statement's hypotheses, clause by clause -/

theorem witness_StepRunsFrontCommand :
    ({ State.reset with pending := [.trcClkEdge] } : State).pending = .trcClkEdge :: [] ∧ State.reset.pending = [] := by decide

theorem witness_CommandsKeepTheQueueAndNeverStop :
    exec .trcClkEdge State.reset = .next State.reset ∧ Instr.trcClkEdge.wf = true ∧
    (Instr.registerWrite .m0 0x30000010 []).wf = false :=
  ⟨rfl, rfl, rfl⟩

theorem witness_EveryStepKeepsLegal :
    ({ State.reset with pending := [.trcClkEdge] } : State).Legal ∧
    step { State.reset with pending := [.trcClkEdge] } = .next State.reset :=
  ⟨by unfold State.Legal State.standbyHeld; decide, rfl⟩

theorem witness_FusesOnlyGrow : ∃ t, exec (.dbgLockFuseComplete 3) { w0 with keeper := { w0.keeper with lockBusy := true } } = .next t :=
  ⟨_, rfl⟩

theorem witness_MemoryReadsWhatWasWritten :
    Mem.wf [(1, 2)] = true ∧ (0 : Nat) ≠ 1 ∧ Mem.wf [(1, 2)] = true ∧ ∀ y, Mem.read [(1, 2)] y = Mem.read [(1, 2)] y :=
  ⟨by decide, by decide, by decide, fun _ => rfl⟩

/-- A tick in which CH0 misses its deadline and the margin is thin. -/
def tickMiss : TickIn :=
  { wTick 64 with
    chans := { idleIn with done := false } :: (wTick 64).chans.drop 1, margin := 24 }

theorem witness_TickBoundaryMovesOneTick :
    (wTick 64).wf = true ∧ w0.dev.held = .running ∧ State.reset.dev.held ≠ .running ∧ tickMiss.wf = true ∧
    w0.anyMiss tickMiss = true ∧ w0.anyMiss (wTick 64) = false ∧ w0.swp.fitQ = [] ∧ w0.swp.partB = none := by decide +kernel

/-- SD0 after 16 failed ticks, CH0 playing and CH1 tripped. -/
def laneBad : State :=
  ((wc .openLoop).modCh 1 fun k => { k with st := .tripped, keep := { k.keep with tripCause := 3 } }).modDie 0
    fun d => { d with failRun := 16 }

/-- SD0 lost, after 1,024 good ticks. -/
def laneGood : State := w0.modDie 0 fun d => { d with lost := true, goodRun := 1024 }

/-- SD0 deaf for 16 ticks, and off by its own decision. -/
def laneDeaf : State := w0.modDie 0 fun d => { d with downRun := 16, hizLocal := true }

theorem witness_LaneErrorsLoseAndRestoreDies :
    16 ≤ (laneBad.die 0).failRun ∧ (laneBad.die 0).lost = false ∧
    (Chan.die 0 = 0 ∧ laneBad.used 0 = true ∧ (laneBad.ch 0).st.live = true) ∧
    (Chan.die 8 ≠ 0 ∧ laneBad.used 5 = false ∧ (laneBad.ch 2).st = .off) ∧
    (Chan.die 1 = 0 ∧ laneBad.used 1 = true ∧ (laneBad.ch 1).st = .tripped ∧
      causeRank causeLane < causeRank (laneBad.ch 1).keep.tripCause.toNat) ∧
    ((laneGood.die 0).lost = true ∧ 1024 ≤ (laneGood.die 0).goodRun) ∧
    (16 ≤ (laneDeaf.die 0).downRun ∧ (w0.die 0).downRun < 16) ∧ (Chan.die 0 = 0 ∧ (laneDeaf.die 0).hizLocal = true) := by decide +kernel

def engineDown : State := wc .tripped fun k => { k with keep := { k.keep with tripCause := 3 } }

theorem witness_MemoriesAndBlocksFail :
    (wd .run).dev.state ≠ .standby ∧ (wd .run).dev.state ≠ .boot ∧
    ((wc .off).ch 0).st ≠ .tripped ∧ ((wc .openLoop).ch 0).st ≠ .tripped ∧
    ((engineDown.ch 0).st = .tripped ∧ (engineDown.ch 0).keep.tripCause.toNat ≠ causeEngine) ∧ w0.swp.joined = false ∧
    ((wc .openLoop).hitBy (.slice 0) 0 = true ∧ ((wc .openLoop).ch 0).st.playing = true) ∧ w0.hitBy .trace 0 = false := by
  decide +kernel

/-- A crystal is declared, CH0 to CH2 as before. -/
def wXtal : State :=
  { w0 with
    bld := { w0.bld with build := some { wBuild false with claim := { (wBuild false).claim with xtal := true } } }
    mtb := { w0.mtb with xtalRuns := true, xtalOk := true, xtalHold := 1024 } }

/-- The TB follower with its lane up. -/
def wFollower : State :=
  { w0 with bld := { w0.bld with build := some (wBuild true) }, swp := { Twin.reset with laneUp := true } }

/-- Port A active and locked. -/
def wLinked : State := { w0 with portA := { w0.portA with lane := .locked, auto := true }, link := { w0.link with active := some .a } }

def calm (n v : Nat) (on : Bool) : State :=
  { w0 with pace := { w0.pace with calm := n, vcore := BitVec.ofNat 8 v }, mx := { w0.mx with downTrim := on } }

theorem witness_ReferencesAndVcoreDownTrim :
    ((calm 1024 11 true).mx.downTrim = true ∧ 1024 ≤ (calm 1024 11 true).pace.calm ∧
      0x0A < (calm 1024 11 true).pace.vcore.toNat) ∧
    (calm 1024 11 false).mx.downTrim = false ∧ (calm 1023 11 true).pace.calm < 1024 ∧
    (calm 1024 10 true).pace.vcore.toNat ≤ 0x0A ∧
    w0.refWanted = w0.mtb.refSrc ∧ wXtal.refWanted ≠ wXtal.mtb.refSrc ∧
    (wXtal.xtalDeclared = true ∧ wXtal.mtb.xtalRuns = true ∧ 1024 ≤ wXtal.mtb.xtalHold) ∧
    (wFollower.swp.laneUp = true ∧ wFollower.refWanted = 1) ∧ wXtal.refWanted = 2 ∧ wLinked.refWanted = 3 ∧
    w0.refWanted = 0 := by decide +kernel

theorem witness_MatrixByteIsJudgedByItsWriter :
    ((0x06 : Byte) >>> 1).setWidth 2 = (3 : BitVec 2) ∧ (Master.m1 = .m1 ∧ (0x02 : Byte).getLsbD 0 = w0.mx.remap) ∧
    ¬ (Master.m1 = .m0 ∨ ((Master.m1 = .m1 ∨ Master.m1 = .m2) ∧ (0x01 : Byte).getLsbD 0 = w0.mx.remap)) ∧
    0xFFFF < 0x10000 ∧ (wd .boot).dev.held = .running ∧ (wd .boot).dev.state = .boot := by decide +kernel

/-- Runs of CH0's coil, pilot and learner loops, of its fitter and of SD0's model wait for their engines. -/
def released : State :=
  let run : ClsSlot := { run := some (999900, 1000092), missDue := false }
  (w0.modCh 0 fun k => { k with
    cls := { coil := run, pilot := run, ripple := run, ident := run }, prot := { k.prot with coilAge := 1920000 } }).modDie 0
    fun d => { d with cls := { run := some (999900, 1000091), missDue := false } }

/-- SD0 alone waits. -/
def dieReleased : State := w0.modDie 0 fun d => { d with cls := { run := some (999900, 1000092), missDue := false } }

/-- CH0's coil model waits beside its pilot loop, which another engine serves. -/
def coilReleased : State :=
  let run : ClsSlot := { run := some (999900, 1000092), missDue := false }
  w0.modCh 0 fun k => { k with cls := { k.cls with coil := run, pilot := run, ripple := run } }

theorem witness_ThermalModelsIntegrate :
    (coilReleased.cfg 0 = some (wCfg 1 true) ∧ (coilReleased.ch 0).prot.correction = none) ∧ w0.used (dieChan 0 7) = false ∧
    w0.used (dieChan 0 0) = true ∧ coilReleased.served (.coil 0) = true ∧ dieReleased.served (.die 0) = true ∧
    (released.served (.coil 0) = false ∧ released.served (.die 0) = true) ∧
    (w0.served (.coil 0) = false ∧ w0.served (.die 0) = false) ∧ 1920000 ≤ (released.ch 0).prot.coilAge ∧
    (.ripple 0 ∈ loopsAt (classChan (.pilot 0)) ∧ classEngine (.ripple 0) = classEngine (.pilot 0) ∧
      classRow (.ripple 0) ≠ classRow (.pilot 0) ∧ (coilReleased.slot (.ripple 0)).run = some (999900, 1000092)) := by decide +kernel

/-- CH0's fitter is pending, and its engine serves it. -/
def fitting (x : ChState) : State :=
  wc x fun k => { k with
    ident := { k.ident with fitPending := true }
    cls := { k.cls with ident := { run := some (900000, 1092000), missDue := false } } }

/-- The same, its deadline passed; nothing else was pending, or everything was. -/
def fitLate (x : ChState) : State :=
  wc x fun k => { k with ident := { k.ident with fitPending := true }, cls := { k.cls with ident := { run := none, missDue := true } } }

def allLate : State :=
  let miss : ClsSlot := { run := none, missDue := true }
  (w0.modCh 0 fun k => { k with cls := { coil := miss, pilot := miss, ripple := miss, ident := miss } }).modDie 0
    fun d => { d with cls := miss }

def thermalBad : State :=
  (wc .openLoop fun k => { k with loop := { k.loop with coilMissRun := 16 } }).modDie 0 fun d => { d with dieMissRun := 16 }

theorem witness_DeadlineMissesFallBack :
    ((w0.slot (.coil 0)).missDue = false ∧ (allLate.slot (.coil 0)).missDue = true ∧ (allLate.slot (.die 0)).missDue = true ∧
      (allLate.slot (.pilot 0)).missDue = true ∧ (allLate.slot (.ripple 0)).missDue = true) ∧
    ((allLate.slot (.ident 0)).missDue = true ∧ (allLate.ch 0).ident.fitPending = false) ∧
    (((fitLate .quiet).slot (.ident 0)).missDue = true ∧ ((fitLate .quiet).ch 0).ident.fitPending = true ∧
      ((fitLate .quiet).ch 0).st ≠ .retry ∧ ((fitLate .quiet).ch 0).loop.runPlay = false) ∧
    ((384 : Nat) % 192 = 0 ∧ (3840 : Nat) % 1920 = 0 ∧ (385 : Nat) % 192 ≠ 0) ∧
    ((released.ch 0).cls.coil.run = some (999900, 1000092) ∧ 1000092 ≤ 1000092 ∧ 1000091 < 1000092) ∧
    16 ≤ (thermalBad.ch 0).loop.coilMissRun ∧ 16 ≤ (thermalBad.die 0).dieMissRun.toNat := by decide +kernel

/-! ### Build, patches -/

def loader (x : DevState) (f : Loader → Loader) (len : Nat) : State :=
  { wd x with ldr := f Loader.reset, bld := { w0.bld with len := BitVec.ofNat 23 len, build := if x = .unbuilt then none else w0.bld.build } }

def ldIdle (x : DevState) : State := loader x id 4194304
def ldBusy : State := loader .unbuilt (fun l => { l with phase := .receiving }) 8
def ldLong : State := loader .built id 4194312
def ldOwned (k : Nat) : State := loader .built (fun l => { l with owner := some .m1, patchWords := List.replicate k 0 }) 8

theorem witness_LoaderCommandsTakeEffect :
    mayWrite .m4 = true ∧
    ((ldIdle .unbuilt).keeper.failed = false ∧ (ldIdle .unbuilt).dev.state = .unbuilt ∧ (ldIdle .unbuilt).ldr.phase = .idle ∧
      (ldIdle .unbuilt).ldr.patchCheck = false ∧ 0 < (ldIdle .unbuilt).bld.len.toNat ∧
      (ldIdle .unbuilt).bld.len.toNat ≤ 4194304 ∧ (ldIdle .unbuilt).bld.len.toNat % 8 = 0) ∧
    ((ldIdle .built).dev.state = .built ∧ (ldIdle .built).bld.build.isSome = true) ∧
    ldBusy.ldr.phase ≠ .idle ∧ (ldIdle .built).ldr.patchBusy = false ∧ (ldIdle .built).ldr.patchOver = false ∧
    (Master.m1 ≠ .m0 ∧ (ldOwned 16383).ldr.owner = some .m1 ∧ (ldOwned 16383).ldr.patchWords.length < 16384) ∧
    ((ldIdle .built).ldr.owner = none ∧ 16384 ≤ (ldOwned 16384).ldr.patchWords.length) ∧
    ((ldOwned 1).ldr.owner = some .m1 ∧ Master.m1 ≠ .m2) ∧
    ((ldIdle .armed).dev.state ≠ .unbuilt ∧ (ldIdle .armed).dev.state ≠ .built) ∧
    (ldBusy.dev.state = .unbuilt ∧ ldBusy.ldr.phase ≠ .idle) ∧
    (ldLong.dev.state = .built ∧ ldLong.ldr.phase = .idle ∧ 4194304 < ldLong.bld.len.toNat) ∧
    (ldIdle .unbuilt).bld.build = none := by decide +kernel

def ldCheck : State := loader .unbuilt (fun l => { l with phase := .checking }) 8

/-- A session with an RB_MAX, a newest FRAME and a count of frames. -/
def wSess (rb : Option (BitVec 64)) (newest : Option (BitVec 32)) (frames : Nat) : Session :=
  { num := 1, key := 2, rbMax := rb, leaf16 := 0, confirm := 0, wrapDown := 0, wrapUp := 0, newest := newest, frames := frames }

/-- A rollback value of 5 waits for its slot: one slot free, or none. -/
def rolling (full : Bool) : State :=
  { w0 with
    keeper := { w0.keeper with fuseBusy := true, rbTarget := 5 }
    fuse := { Fuses.shipped with rb := List.replicate 48 { used := full, valid := false, value := 0 } }
    portA := { w0.portA with session := some (wSess (some 4) none 0) }
    portB := { w0.portB with session := some (wSess (some 5) none 0), pendSess := some (wSess (some 4) none 0) } }

theorem witness_LoadsEndInABuildOrACode :
    ldBusy.ldr.phase = .receiving ∧ (ldCheck.ldr.phase = .checking ∧ ldCheck.dev.state = .unbuilt) ∧
    (ldCheck.keeper.failed = false ∧ ({ ldCheck with keeper := { w0.keeper with failed := true } } : State).keeper.failed = true) ∧
    ((rolling false).keeper.fuseBusy = true ∧ (rolling false).fuse.rb.all (fun r => r.used) = false ∧
      (rolling false).vauxRange = true ∧ (rolling false).rbCounter < (rolling false).keeper.rbTarget) ∧
    (((rolling false).port .a).session = some (wSess (some 4) none 0) ∧ (wSess (some 4) none 0).rbMax = some 4 ∧
      4 < (rolling false).keeper.rbTarget ∧ ((rolling false).port .b).pendSess = some (wSess (some 4) none 0)) ∧
    (((rolling false).port .b).session = some (wSess (some 5) none 0) ∧ (rolling false).keeper.rbTarget ≤ 5) ∧
    ({ rolling false with pwr := { w0.pwr with vauxMv := 4749 } } : State).vauxRange = false ∧
    ((rolling true).keeper.fuseBusy = true ∧ (rolling true).fuse.rb.all (fun r => r.used) = true) := by
  decide +kernel

/-- A record that patches CH0's current limit, and one that no channel takes. -/
def protRec (n : Chan) : RecAt := { off := 72, body := .prot n 0 [] }

def wPatch (n : Chan) : Patch := { recs := [protRec n], seq := 1, digest16 := 3, target16 := 4, matchDigest := 9 }

def ldPatch (n : Chan) : State := loader .built (fun l => { l with accepted := some (wPatch n) }) 8

def ldHeld : State :=
  { loader .built (fun l => { l with heldPatch := some (wPatch 2, 16, 0) }) 8 with swp := { (wj .quiet).swp with heldMsg := some (9, 20) } }

theorem witness_PatchesApplyAsAWhole :
    ((loader .built (fun l => { l with patchCheck := true }) 8).ldr.patchCheck = true) ∧
    (w0.swp.joined && w0.patchTwinned (wPatch 0)) = false ∧ ((wj .quiet).swp.joined && (wj .quiet).patchTwinned (wPatch 2)) = true ∧
    ((ldPatch 0).ldr.accepted = some (wPatch 0) ∧ (ldPatch 0).bld.build = some (wBuild false) ∧
      (ldPatch 0).patchBreak (wBuild false) (wPatch 0) = none) ∧
    (touches (wPatch 0).recs 0 = true ∧ (wBuild false).chans[0] = some (wCfg 1 true) ∧
      (patched (wBuild false) (wPatch 0).recs 0).isSome = true ∧ touches (wPatch 0).recs 1 = false) ∧
    ((ldPatch 9).ldr.accepted = some (wPatch 9) ∧ (ldPatch 9).patchBreak (wBuild false) (wPatch 9) = some (protRec 9)) ∧
    (ldHeld.ldr.heldPatch = some (wPatch 2, 16, 0) ∧ ldHeld.ldr.heldApply = none ∧ ldHeld.swp.heldMsg = some (9, 20) ∧
      (wPatch 2).matchDigest = 9) := by decide +kernel
/-! ### Graph and channels -/

/-- CH0 with its graph changed. -/
def gr (f : ChFg → ChFg) (g : ChFgKeep → ChFgKeep := id) : State := wc .openLoop fun k => { k with fg := f k.fg, fgk := g k.fgk }

def grIdle : State := gr id
def grFade (r : Option Bool) : State := gr (fun x => { x with phase := .fade, pos := 512, len := 512, incoming := true }) fun x => { x with latched := r }

theorem witness_BankRequestsFollowTheTable :
    mayWrite .m0 = true ∧
    (grIdle.joinedTwin 0 = false ∧ grIdle.cfg 0 = some (wCfg 1 true) ∧ (wCfg 1 true).dfn.fadeEn = true ∧
      (grIdle.ch 0).fg.phase = .idle ∧ (grIdle.ch 0).fgk.active ≠ true ∧ (grIdle.ch 0).fgk.active = false) ∧
    (((grFade none).ch 0).fg.phase ≠ .idle ∧ ((grFade none).ch 0).fgk.latched = none ∧ ((grFade (some true)).ch 0).fgk.latched ≠ none) ∧
    (grIdle.joinedTwin 1 = false ∧ grIdle.cfg 1 = some (wCfg 0 false) ∧ (wCfg 0 false).dfn.fadeEn = false ∧ grIdle.cfg 9 = none) := by decide +kernel

def grPre : State := gr fun x => { x with phase := .preroll, pos := 48, len := 48 }
def grSettle : State := gr fun x => { x with phase := .settle, pos := 48, len := 48 }
def grIn : State := gr fun x => { x with phase := .fadeIn, pos := 64, len := 64 }

theorem witness_GraphPhasesFollowOneAnother :
    ((grPre.ch 0).fg.phase = .preroll ∧ (grPre.ch 0).fg.len ≤ (grPre.ch 0).fg.pos) ∧
    (((grFade none).ch 0).fg.phase = .fade ∧ ((grFade none).ch 0).fg.len ≤ ((grFade none).ch 0).fg.pos ∧
      ((grFade none).ch 0).fgk.latched = none) ∧
    (((grFade (some false)).ch 0).fgk.latched = some false ∧ ((grFade (some false)).ch 0).fg.incoming ≠ false ∧
      (grFade (some false)).cfg 0 = some (wCfg 1 true)) ∧
    ((grSettle.ch 0).fg.phase = .settle ∧ (grSettle.ch 0).fg.waitStart = false ∧ (grSettle.ch 0).fg.len ≤ (grSettle.ch 0).fg.pos) ∧
    ((grIn.ch 0).fg.phase = .fadeIn ∧ 64 ≤ (grIn.ch 0).fg.pos ∧ (grIn.ch 0).fgk.latched = none) := by decide +kernel

def acquiring : State := { w0 with stm := { w0.stm with wide := true, acqTicks := 4096 } }

theorem witness_SynchronisingResetAndSettings :
    w0.swp.joined = false ∧ wLinked.link.active = some .a ∧ w0.link.active = none ∧
    (acquiring.stm.wide = true ∧ 4096 ≤ acquiring.stm.acqTicks) ∧ w0.used 0 = true ∧ w0.used 9 = false ∧
    (64 ≤ (64 : BitVec 16).toNat % 16384 ∧ (8192 : BitVec 16).toNat % 16384 ≤ 8192) ∧ (63 : BitVec 16).toNat % 16384 < 64 ∧
    8192 < (8193 : BitVec 16).toNat % 16384 ∧ (1 ≤ (16 : BitVec 5).toNat ∧ (16 : BitVec 5).toNat ≤ 16) ∧
    (0 : BitVec 5).toNat = 0 ∧ 16 < (17 : BitVec 5).toNat := by decide +kernel

/-- CH0 quiet with the loop's conditions met. -/
def closable (x : ChState) : State := wc x fun k => { k with loop := { k.loop with okRun := 256 } }

def held (x : ChState) : State := wc x fun k => { k with loop := { k.loop with uvHold := true } }

def tripped (x : DevState) : State := (wd x).modCh 0 fun k => { k with st := .tripped, keep := { k.keep with tripCause := 3 } }

def fadingQuiet : State := wc .quiet fun k => { k with loop := { k.loop with fading := .quiet, quietFrom := .closedLoop, phi := 49152 } }

theorem witness_ChannelCommandsMoveTheChannel :
    (w0.joinedTwin 0 = false ∧ w0.used 0 = true ∧ (w0.ch 0).st = .off ∧ w0.dev.state = .run ∧ w0.dev.disarming = false ∧
      w0.twinEnable 0 = true) ∧
    (((closable .quiet).ch 0).st = .quiet ∧ (closable .quiet).mutedAt 0 = false ∧ (closable .quiet).blockGone 0 = false ∧
      ((closable .quiet).ch 0).loop.fading ≠ .quiet ∧ (closable .quiet).law 0 ≠ 0 ∧ (closable .quiet).cond2 0 = true ∧
      256 ≤ ((closable .quiet).ch 0).loop.okRun ∧ ((closable .quiet).ch 0).ident.running = false) ∧
    (((wc .quiet).ch 0).loop.okRun < 256 ∧ ((wc .quiet).ch 0).loop.fading ≠ .quiet) ∧
    ((wc .openLoop).ch 0).st.playing = true ∧ ((wc .closedLoop).ch 0).st = .closedLoop ∧
    (((closable .openLoop).ch 0).st = .openLoop ∧ (closable .openLoop).cond6 0 = true ∧ ((closable .openLoop).ch 0).loop.fading = .none) ∧
    ((wc .retry).ch 0).st = .retry ∧ (((wc .rampUp).ch 0).st = .rampUp ∧ ((wc .rampUp).ch 0).loop.uvHold = false) ∧
    ((held .rampUp).ch 0).loop.uvHold = true ∧
    ((tripped .armed).clearable 0 = true ∧ (tripped .armed).dev.state = .armed) ∧
    ((tripped .built).clearable 0 = true ∧ (tripped .built).dev.state = .built) ∧
    ((fadingQuiet.ch 0).loop.fading = .quiet ∧ (fadingQuiet.ch 0).loop.quietFrom.playing = true) := by decide +kernel

/-- CH0 open with four pace faults that the tick has still to act on. -/
def paced : State := wc .openLoop fun k => { k with loop := { k.loop with paceFaultRun := 4 } }

/-- The channels of the statements about commands have nothing due, and one that had has nothing due once its
decisions are taken. -/
theorem witness_settled :
    w0.settled 0 ∧ w0.settled 9 ∧ (closable .quiet).settled 0 ∧ (wc .quiet).settled 0 ∧ (wc .openLoop).settled 0 ∧
    (wc .closedLoop).settled 0 ∧ (closable .openLoop).settled 0 ∧ (wc .retry).settled 0 ∧ (wc .rampUp).settled 0 ∧
    (held .rampUp).settled 0 ∧ (tripped .armed).settled 0 ∧ (tripped .built).settled 0 ∧ fadingQuiet.settled 0 ∧
    (wj .quiet).settled 2 ∧ (wf .quiet).settled 2 ∧ (wj .tripped).settled 2 ∧ (paced.settle 0).settled 0 := by
  refine ⟨?_, ?_, ?_, ?_, ?_, ?_, ?_, ?_, ?_, ?_, ?_, ?_, ?_, ?_, ?_, ?_, ?_⟩ <;>
    exact settled_of_nothing_due _ _ (by decide +kernel) (by decide +kernel) (by decide +kernel) (by decide +kernel)
      (by decide +kernel) (by decide +kernel)

theorem witness_EachStateTakesItsOwnCommands :
    ((paced.settle 0).ch 0).st = .tripped ∧
    w0.judge 0 .enable = some .rampUp ∧ (tripped .armed).judge 0 .clear = some .retry ∧ (tripped .built).judge 0 .clear = some .off ∧
    (wc .rampUp).judge 0 .stop = some .rampDown ∧ (held .rampUp).judge 0 .stop = some .off ∧
    (wc .retry).judge 0 .stop = some .rampDown ∧ (wc .quiet).judge 0 .play = some .openLoop ∧
    fadingQuiet.judge 0 .play = some .closedLoop ∧ (wc .openLoop).judge 0 .quiet = some .quiet ∧
    (closable .openLoop).judge 0 .close = some .closedLoop ∧ (wc .closedLoop).judge 0 .open_ = some .openLoop ∧
    (w0.follows 0 = false ∧ w0.judge 0 .play = none ∧ w0.judge 9 .enable = none) := by decide +kernel

def muteHeld : State := { wj .openLoop with dev := { w0.dev with mutePin := true } }

/-- CH2 plays on a joined device and MUTE_N has gone low. -/
def muteCalled : State := { wj .openLoop with dev := { w0.dev with muteLow := (true, true) } }

theorem witness_CommandsAndMutesAreCarried :
    ((wj .quiet).joinedTwin 2 = true ∧ (wj .quiet).follows 2 = false ∧ (wj .quiet).judge 2 .stop = some .rampDown) ∧
    ((wf .quiet).follows 2 = true ∧ ChCmd.stop ≠ .clear) ∧ ((wf .quiet).ch 2).st ≠ .tripped ∧
    (let s := wj .tripped fun k => { k with keep := { k.keep with tripCause := 3 } }
     s.joinedTwin 2 = true ∧ (s.ch 2).twin.partnerHiz = false ∧ s.used 2 = true ∧ s.clearable 2 = true) ∧
    (muteCalled.dev.held = .running ∧ muteCalled.pwr.vioOk = true ∧ muteCalled.swp.joined = true ∧
      muteCalled.dev.mutePin = false ∧ muteCalled.dev.muteLow = (true, true) ∧ muteCalled.joinedTwin 0 = false ∧
      muteCalled.joinedTwin 2 = true) ∧
    (muteHeld.dev.mutePin = true ∧ muteHeld.dev.muteLow = (false, false) ∧ muteHeld.pwr.vioMute = false ∧
      muteHeld.dev.muteResume = false ∧ (∀ n, (muteHeld.ch n).loop.fading ≠ .mute) ∧ ∀ n, (muteHeld.ch n).st ≠ .retry) ∧
    (mayWrite .m0 = true ∧ (wj .quiet).cfg 2 = some (wCfg 1 true) ∧ (wCfg 1 true).dfn.fadeEn = true ∧
      ((wj .quiet).ch 2).fg.phase = .idle ∧ ((wj .quiet).ch 2).fgk.active ≠ true ∧ (wj .quiet).swp.joined = true) := by decide +kernel

/-- CH0's ramp has come to its end. -/
def ramped (x : ChState) (f : Channel → Channel := id) : State :=
  wc x fun k => f { k with stage := { k.stage with rampDone := true } }

def rampedUv : State := ramped .rampUp fun k => { k with loop := { k.loop with uvResume := true, resume := .quiet } }

/-- CH2's ramp on a joined device has come to its end. -/
def rampedTwin : State := wj .rampUp fun k => { k with stage := { k.stage with rampDone := true } }

theorem witness_RampsEndInTheirState :
    ((rampedTwin.ch 2).stage.rampDone = true ∧ (rampedTwin.ch 2).st = .rampUp ∧ (rampedTwin.ch 2).loop.uvResume = false ∧
      rampedTwin.joinedTwin 2 = true ∧ rampedTwin.follows 2 = false) ∧
    (((ramped .rampUp).ch 0).stage.rampDone = true ∧ ((ramped .rampUp).ch 0).st = .rampUp ∧
      ((ramped .rampUp).ch 0).loop.uvResume = false ∧ ((ramped .rampUp).ch 0).loop.runPlay = false) ∧
    ((rampedUv.ch 0).stage.rampDone = true ∧ (rampedUv.ch 0).loop.uvResume = true ∧ rampedUv.joinedTwin 0 = false ∧
      (rampedUv.ch 0).loop.resume = .quiet ∧ (rampedUv.ch 0).loop.runPlay = false) ∧
    (((ramped .retry).ch 0).st = .retry ∧ (ramped .retry).mutedAt 0 = false ∧ (ramped .retry).follows 0 = false ∧
      (ramped .retry).sweepCheck 0 = false ∧ ((ramped .retry).ch 0).prot.check = none ∧
      ((ramped .retry).ch 0).ident.running = false ∧ ((ramped .retry).ch 0).ident.fitPending = false) ∧
    ((ramped .rampDown).ch 0).st = .rampDown := by decide +kernel

/-- CH0 closed, with one cause to drop, after some drops. -/
def dropping (l : List Nat) : State :=
  wc .closedLoop fun k => { k with loop := { k.loop with feCount := 3841, feDue := true, suspect := true, dropTimes := l, lastDrop := l.head? } }

/-- CH0 open after a pace drop that is over. -/
def reclosing : State :=
  wc .openLoop fun k => { k with loop := { k.loop with openCause := 4, okRun := 256, lastDrop := some 808000, lastPaceMiss := some 998976 } }

theorem witness_LoopOpensAndCloses :
    (reclosing.cfg 0 = some (wCfg 1 true) ∧ reclosing.joinedTwin 0 = false ∧ (reclosing.ch 0).st = .openLoop ∧
      (wCfg 1 true).dfn.law ≠ 0 ∧ (wCfg 1 true).lawP 0x0016 = 1 ∧ (reclosing.ch 0).keep.holdOpen = false ∧
      (reclosing.ch 0).loop.openCause ≠ 1 ∧ (reclosing.ch 0).loop.lastDrop = some 808000 ∧
      ((808000 : Nat) : Rat) + (wCfg 1 true).lawP 0x0015 * fT ≤ (reclosing.now : Rat) ∧ 256 ≤ (reclosing.ch 0).loop.okRun ∧
      (reclosing.ch 0).loop.openCause = 4 ∧ (reclosing.ch 0).loop.lastPaceMiss = some 998976 ∧ 998976 + 1024 ≤ reclosing.now ∧
      (reclosing.ch 0).ident.running = false ∧ (reclosing.ch 0).loop.fading = .none ∧ (reclosing.ch 0).ident.fitPending = false) ∧
    (((dropping [999000]).ch 0).st = .closedLoop ∧
      ((dropping [999000]).ch 0).loop.dropSent = false ∧ ((dropping [999000]).ch 0).loop.feDue = true ∧
      ((dropping [999000]).ch 0).loop.suspect = true ∧ ((dropping [999000]).ch 0).loop.lfReported = false ∧
      ((dropping [999000]).ch 0).ident.running = false ∧ ((dropping [999000]).ch 0).dropsMet (dropping []).now = false ∧
      ((dropping [999000]).ch 0).dropsMet ((dropping []).now - 1) = false) ∧
    (((dropping [999000, 998000, 997000]).ch 0).dropsMet (dropping []).now = true ∧
      ((dropping [999000, 998000, 997000]).ch 0).dropsMet ((dropping []).now - 1) = true) ∧
    (let s := wc .tripped fun k => { k with loop := { k.loop with feDue := true } }
     (s.ch 0).loop.feDue = true ∧ (s.ch 0).st ≠ .closedLoop) ∧ (w0.ch 0).loop.feDue = false ∧
    (4 ≤ (paced.ch 0).loop.paceFaultRun ∧ (paced.ch 0).st = .openLoop) := by decide +kernel

/-- CH0 with a fade at its end. -/
def faded (x : ChState) (f : FadeEnd) (phi : Nat) : State := wc x fun k => { k with loop := { k.loop with fading := f, phi := phi } }

theorem witness_FadesAndTransfersEnd :
    (w0.ch 0).loop.tLeft = 0 ∧
    (((faded .openLoop .play 98304).ch 0).loop.fading = .play ∧ ((faded .openLoop .play 98304).ch 0).loop.phi = 98304) ∧
    (((faded .rampDown .stop 0).ch 0).loop.fading = .stop ∧ ((faded .rampDown .stop 0).ch 0).loop.phi = 0) ∧
    (((faded .quiet .quiet 0).ch 0).loop.fading = .quiet ∧ ((faded .quiet .quiet 0).ch 0).loop.phi = 0) := by decide +kernel

/-! ### Identification, mains, learner -/

/-- CH0 quiet with ID_AT_START = 1. -/
def idDue : State :=
  (wc .quiet).modCfg 0 fun c => { c with law := [(0x0120, 0x3F800000)] }

def sweeping (t : Nat) : State := wc .quiet fun k => { k with ident := { ChIdent.reset with running := true, t := t } }

/-- A fit of the model's own values, with RESID below, at and above its limit. -/
def wFit (resid : BitVec 32) : FitIn := ⟨0x40800000, 0x3A03126F, 0x40A00000, 0x447A0000, 0x3F800000, resid⟩

theorem witness_IdentificationRuns :
    (w0.joinedTwin 0 = false ∧ w0.flx.injOn = false ∧ (wc .quiet).identOk 0 = true ∧ w0.identOk 0 = false) ∧
    (idDue.identDue 0 = true ∧ (idDue.ch 0).st = .quiet ∧ idDue.mutedAt 0 = false ∧ (idDue.ch 0).ident.running = false ∧
      (idDue.ch 0).ident.fitPending = false) ∧
    ((∀ j, w0.joinedTwin j = false) ∧ (wc .quiet).used 0 = true ∧ ((wc .quiet).used 1 && (wc .quiet).identOk 1) = false) ∧
    (((sweeping 288000).ch 0).ident.running = true ∧ ((sweeping 288000).ch 0).st ≠ .retry ∧
      ((sweeping 288000).ch 0).loop.runPlay = false ∧ 288000 ≤ ((sweeping 288000).ch 0).ident.t) ∧
    ((fitting .quiet).cfg 0 = some (wCfg 1 true) ∧ ((fitting .quiet).ch 0).ident.fitPending = true ∧
      (fitting .quiet).served (.ident 0) = true ∧ ((fitting .quiet).ch 0).st ≠ .retry ∧ ((fitting .quiet).ch 0).loop.runPlay = false) ∧
    fitCode (wCfg 1 true) (wFit 0x3F800000) = 2 ∧ fitCode (wCfg 1 true) { wFit 0 with re := 0x41800000 } = 3 := by decide +kernel

def learning (tainted : Bool) : State :=
  wc .closedLoop fun k => { k with
    learn := { k.learn with ready := some ([1], [1], tainted) }
    cls := { k.cls with ripple := { run := some (999900, 1003740), missDue := false } } }

/-- The supply's ripple was the source, and has gone. -/
def rippleGone : State := { w0 with mtb := { w0.mtb with mainsSrc := .ripple } }

theorem witness_MainsSourceAndLearner :
    (MainsSrc.none ≠ rippleGone.mtb.mainsSrc ∧ MainsSrc.none = rippleGone.mtb.sourceNow) ∧
    (MainsSrc.none = w0.mtb.mainsSrc ∧ MainsSrc.mainsRef ≠ w0.mtb.sourceNow) ∧
    ((learning true).served (.ripple 0) = true ∧ (learning false).served (.ripple 0) = true) ∧ mayWrite .m0 = true ∧
    ((learning true).cfg 0 = some (wCfg 1 true) ∧ ((learning true).ch 0).learn.ready = some ([1], [1], true) ∧
      (wCfg 1 true).dfn.law ≠ 0 ∧ (learning true).follows 0 = false) ∧
    (((learning false).ch 0).learn.ready = some ([1], [1], false) ∧ ((learning false).ch 0).keep.freeze = false ∧
      (wCfg 1 true).lawP 0x0130 ≠ 0 ∧ 0 ≤ (wCfg 1 true).lawP 0x0133) := by decide +kernel

/-- A report of another fit than the computed one exists, whatever that is. -/
theorem witness_IdentificationRuns_other (f : FitIn) : ({ f with re := ~~~ f.re } : FitIn) ≠ f := by
  intro h
  have := congrArg (fun g => (FitIn.re g).getLsbD 0) h
  simp at this

/-! ### Stage, protection, supplies' dips -/

def driven (fb : Bool) : State :=
  wc .openLoop fun k => { k with stage := { k.stage with modRun := true, lastAct := some 999808 }, keep := { k.keep with fbFault := fb } }

/-- The differential test of R167 fails in 64 cycles. -/
theorem witness_StageReportsAndSettings_cycles :
    (List.replicate 64 ((0x4000 : BitVec 16), (0 : BitVec 16))).length = 64 ∧
    ∀ d ∈ List.replicate 64 ((0x4000 : BitVec 16), (0 : BitVec 16)), ((driven false).die 0).pvdd.toNat < 4 * d.1.toNat :=
  ⟨rfl, fun d h => by rw [List.eq_of_mem_replicate h]; decide +kernel⟩

theorem witness_StageReportsAndSettings :
    (((driven false).ch 0).stage.modRun = true ∧ ((driven false).ch 0).keep.fbFault = false) ∧ ((driven true).ch 0).keep.fbFault = true ∧
    (4 * (0 : BitVec 16).toNat ≤ (w0.die 0).pvdd.toNat) ∧
    ((driven true).used 0 = true ∧ 1024 * ((driven true).ch 0).ilim.toNat ≤ 10 * (0xFFFF : BitVec 16).toNat ∧
      ((driven true).ch 0).stage.lastAct = some 999808 ∧ (driven true).now ≤ 999808 + 192 ∧ 999808 + 192 < 1000001) ∧
    w0.used 9 = false ∧
    (5 ≤ (5 : Byte).toNat % 128 ∧ (0xD0 : Byte).toNat % 128 ≤ 80) ∧ (4 : Byte).toNat % 128 < 5 ∧ 80 < (81 : Byte).toNat % 128 := by
  decide +kernel

def inRetry (r : Nat) (f : ChProt → ChProt := id) (g : ChKeep → ChKeep := id) : State :=
  wc .retry fun k => { k with prot := f k.prot, keep := g { k.keep with retries := BitVec.ofNat 2 r, tripCause := 3 } }

def seriesDue : State := (tripped .armed).modCh 0 fun k => { k with keep := { k.keep with retryAt := some 1000000 } }

/-- The load check's end with some |U|² beside |I|² = 1: Re is 4 ohm, so the window is 2 ohm to 32 ohm. -/
def checked (u : Rat) (g : ChKeep → ChKeep := id) : State :=
  inRetry 2 (fun p => { p with check := some 19200, chkUre := u, chkIre := 1 }) g

/-- CH0's bridge has limited in nine of the last 16 modulation cycles. -/
def shorted : State := wc .openLoop fun k => { k with stage := { k.stage with actCycles := List.replicate 9 true, lastAct := some 999999 } }

theorem witness_ShortsAndLoadChecks :
    (9 ≤ (shorted.ch 0).stage.actCycles.countP (· = true) ∧ (shorted.ch 0).stage.lastAct = some 999999 ∧ shorted.now ≤ 999999 + 1 ∧ 14 * 1024 < (0x3801 : BitVec 16).toNat ∧ (shorted.ch 0).st.live = true ∧
      (shorted.ch 0).st ≠ .retry) ∧
    (let s := wc .tripped fun k => { k with keep := { k.keep with tripCause := 4 } }
     (s.ch 0).st = .tripped ∧ causeRank causeShort < causeRank (s.ch 0).keep.tripCause.toNat) ∧
    (wf .quiet).leads 2 = false ∧
    (((wc .openLoop).ch 0).st.live = true ∧ ((wc .openLoop).ch 0).st ≠ .retry) ∧
    (((inRetry 2).ch 0).st = .retry ∧ ((inRetry 2).ch 0).keep.retries = 2 ∧ ((inRetry 1).ch 0).keep.retries ≠ 2) ∧
    (w0.ch 0).st = .off ∧
    ((seriesDue.ch 0).keep.retryAt = some 1000000 ∧ 1000000 ≤ seriesDue.now ∧ (seriesDue.ch 0).st = .tripped ∧
      (seriesDue.ch 0).keep.tripCause = 3 ∧ seriesDue.used 0 = true ∧ seriesDue.joinedTwin 0 = false ∧ seriesDue.dev.state = .armed) ∧
    ((checked 2).cfg 0 = some (wCfg 1 true) ∧ ((checked 2).ch 0).prot.check = some 19200 ∧ ((checked 2).ch 0).st = .retry ∧
      (checked 2).joinedTwin 0 = false) ∧
    (((wCfg 1 true).protP 0x0231 * (wCfg 1 true).re) ^ 2 = 4 ∧ ((wCfg 1 true).protP 0x0232 * (wCfg 1 true).re) ^ 2 = 1024) ∧
    (((checked 2 fun k => { k with playOnRecover := false }).ch 0).keep.playOnRecover = false) ∧
    (((checked 32 fun k => { k with wasPlaying := true }).ch 0).keep.playOnRecover = true ∧
      ((checked 32 fun k => { k with wasPlaying := true }).ch 0).keep.wasPlaying = true ∧ (checked 32).dev.state = .run ∧
      (checked 32).dev.disarming = false ∧ (checked 32).mutedAt 0 = false ∧ (checked 32).blockGone 0 = false) ∧
    (((checked 1).ch 0).prot.chkUre ^ 2 < 4 ∧ 1024 < ((checked 33).ch 0).prot.chkUre ^ 2) := by decide +kernel

def opened : State := wc .openLoop fun k => { k with prot := { k.prot with openRun := 5 } }

def openedMild : State := opened.modCfg 0 fun c => { c with prot := [(0x0233, 0)] }

theorem witness_DieShutdownAndOpenLoad :
    ((laneBad.die 0).shutdown = false ∧ Chan.die 0 = 0 ∧ laneBad.used 0 = true ∧ (laneBad.ch 0).st.live = true ∧
      laneBad.used 5 = false ∧ (laneBad.ch 2).st = .off) ∧
    (opened.cfg 0 = some (wCfg 1 true) ∧ 5 ≤ (opened.ch 0).prot.openRun ∧ (opened.ch 0).prot.openActed = false ∧
      (opened.ch 0).st.playing = true ∧ (wCfg 1 true).protP 0x0233 = 1 ∧ opened.joinedTwin 0 = false) ∧
    (openedMild.cfg 0).map (fun c => decide (c.protP 0x0233 = 1)) = some false := by decide +kernel

def muting : State := faded .openLoop .mute 0
def muteEnd (resume : Bool) : State :=
  (wc .quiet).modCh 1 (fun k => k) |> fun s => { s with dev := { s.dev with mutePin := true, muteResume := resume, muteTook := 1 } }

theorem witness_MutesFadeAndRelease :
    (let s : State := { wc .openLoop with dev := { w0.dev with muteLow := (true, true) } }
     s.dev.held = .running ∧ s.pwr.vioOk = true ∧ s.swp.joined = false ∧ s.dev.mutePin = false ∧ s.dev.muteLow = (true, true) ∧
      (s.ch 0).st.playing = true ∧ (s.ch 0).loop.fading ≠ .mute) ∧
    (let s : State := { w0 with dev := { w0.dev with mutePin := true, muteLow := (true, true) } }
     s.dev.mutePin = true ∧ s.dev.muteLow = (true, true)) ∧
    (w0.dev.muteLow ≠ (true, true) ∧ ({ w0 with dev := { w0.dev with muteLow := (true, false) } } : State).dev.muteLow ≠ (false, false)) ∧
    (let s : State := { muting with dev := { w0.dev with mutePin := true } }
     s.dev.mutePin = true ∧ s.dev.muteLow = (false, false) ∧ (s.ch 0).loop.fading = .mute) ∧
    ((muteEnd false).dev.mutePin = true ∧ (muteEnd false).dev.muteLow = (false, false) ∧ (muteEnd false).pwr.vioMute = false ∧
      (muteEnd false).dev.twinMute = false ∧
      (muteEnd false).dev.muteResume = false ∧ (∀ n, ((muteEnd false).ch n).loop.fading ≠ .mute) ∧
      (∀ n, ((muteEnd false).ch n).st ≠ .retry)) ∧
    ((muteEnd true).dev.muteResume = true ∧ (muteEnd true).dev.state = .run ∧ (muteEnd true).dev.disarming = false ∧
      (∀ n, ((muteEnd true).ch n).loop.fading = .none) ∧ inMask (muteEnd true).dev.muteTook 0 = true ∧
      (muteEnd true).used 0 = true ∧ ((muteEnd true).ch 0).st = .quiet ∧ (muteEnd true).blockGone 0 = false) ∧
    (muting.dev.muteReleasing = false ∧ muting.dev.vioReleasing = false ∧ muting.dev.twinReleasing = false ∧
      (muting.ch 0).loop.fading = .mute ∧ (muting.ch 0).loop.phi = 0 ∧
      (muting.ch 1).loop.fading ≠ .mute ∧ ((faded .openLoop .mute 64).ch 0).loop.phi ≠ 0) := by decide +kernel

def dipping (r : Nat) : State :=
  { wc .openLoop fun k => { k with prot := { k.prot with dip := true, vLow := 30, dipRelease := some r } } with
    pwr := { w0.pwr with warn := true, dipAt := 999000 } }

theorem witness_DipsHoldAndRelease :
    w0.pwr.warn = false ∧ (dipping 0).pwr.warn = true ∧ 38400 ≤ ((dipping 38400).ch 0).prot.dipRelease.getD 0 ∧
    ((dipping 38399).ch 0).prot.dipRelease.getD 0 < 38400 := by decide +kernel
/-! ### Diagnostics and twin -/

/-- CH0 after 49 reports without a raw outcome, a whole frame due or none, its pilot loop served. -/
def diag (x : ChState) (due : Option (List (Rat × Rat) × Bool) := none) : State :=
  wc x fun k => { k with
    diag := { k.diag with noRaw := 49, cls := 1, frameDue := due }
    cls := { k.cls with pilot := { run := some (999000, 1000920), missDue := false } } }

theorem witness_DiagnosticsFollowTheLoad :
    (diag .openLoop).pilotOk 0 = true ∧ (diag .off).pilotOk 0 = false ∧ (diag .openLoop).cfg 0 = some (wCfg 1 true) ∧
    (((diag .openLoop).ch 0).cls.pilot.run = some (999000, 1000920) ∧ (diag .openLoop).served (.pilot 0) = true) ∧
    w0.served (.pilot 0) = false ∧
    (((diag .openLoop (some ([(1, 2)], true))).ch 0).diag.frameDue = some ([(1, 2)], true) ∧ (wCfg 1 true).diagP 0x0303 ≠ 0) ∧
    ((diag .openLoop (some ([(1, 2)], false))).ch 0).diag.frameDue = some ([(1, 2)], false) ∧
    (∀ good : Bool, ((diag .openLoop).ch 0).diag.frameDue ≠ some ([], good)) ∧
    (rawOutcome (wCfg 1 true) ((diag .off).ch 0) = 0 ∧ 49 ≤ ((diag .off).ch 0).diag.noRaw) := by decide +kernel

/-- A Sweetpea frame of zeros with its CRCs, either of them spoilt. -/
def pea (goodA goodB : Bool) : List Byte :=
  let a : List Byte := List.replicate 400 0
  let b : List Byte := List.replicate 608 0
  a ++ leBytes 4 ((crc32 a).toNat + if goodA then 0 else 1) ++ b ++ leBytes 4 ((crc32 b).toNat + if goodB then 0 else 1)

theorem witness_SweetpeaFramesAreAccountedFor :
    w0.plan = some (wPlan false) ∧ w0.sweetpeaOk = true ∧
    ((pea true true).length = 1016 ∧ field (pea true true) 400 4 = (crc32 (slice (pea true true) 0 400)).toNat ∧
      field (pea true true) 1012 4 = (crc32 (slice (pea true true) 404 608)).toNat) ∧ w0.twinned 2 = true ∧ w0.twinned 1 = false ∧
    field (pea false true) 400 4 ≠ (crc32 (slice (pea false true) 0 400)).toNat ∧ ([] : List Byte).length ≠ 1016 ∧
    (field (pea true false) 400 4 = (crc32 (slice (pea true false) 0 400)).toNat ∧
      field (pea true false) 1012 4 ≠ (crc32 (slice (pea true false) 404 608)).toNat) := by decide +kernel

/-- A device whose twin is still to be joined. -/
def lone (f : Twin → Twin) (follower : Bool := false) : State :=
  { w0 with swp := f Twin.reset, bld := { w0.bld with build := some (wBuild follower) } }

def risen : State := lone fun t => { t with goodRun := 64 }
def unlocked (fo : Bool) : State := lone (fun t => { t with laneUp := true, partnerTick := 4000, frameSeen := true }) fo
def meeting (lead : BitVec 64) (solo : Bool) : State :=
  lone fun t => { t with laneUp := true, tbLock := true, partnerPlan := some { wPlan true with leadMask := 0 }, partnerLead := lead, soloAll := solo }
def waited (fo : Bool) (low : Option Nat) : State := lone (fun t => { t with lastLow := low, drivenSince := some 0 }) fo

theorem witness_TwinsJoin :
    (risen.plan = some (wPlan false) ∧ risen.sweetpeaOk = true ∧ 64 ≤ risen.swp.goodRun ∧ risen.swp.laneUp = false) ∧
    ({ risen with dev := { w0.dev with gone := [.sweetpea] } } : State).sweetpeaOk = false ∧
    ((unlocked true).swp.joinCode ≠ 6 ∧ (meeting 0 false).swp.partnerPlan.isSome = true ∧
      (lone fun t => { t with laneUp := true, tbLock := true }).swp.partnerPlan = none) ∧
    ((unlocked true).plan = some (wPlan true) ∧ (unlocked true).swp.laneUp = true ∧ (unlocked true).swp.tbLock = false ∧
      (wPlan true).tbFollower = true ∧ (wPlan false).tbFollower = false) ∧
    ((meeting 0 false).swp.partnerPlan = some { wPlan true with leadMask := 0 } ∧ (meeting 0 false).swp.laneUp = true ∧
      (meeting 0 false).swp.tbLock = true ∧ (meeting 0 false).swp.joined = false ∧
      (wPlan false).leadMask ^^^ ({ wPlan true with leadMask := 0 } : TwinPlan).leadMask = (wPlan false).twinMask) ∧
    ((meeting 0 true).swp.soloAll = true ∧ (meeting 4 false).swp.partnerLead &&& (wPlan false).twinMask = (wPlan false).twinMask ∧
      (meeting 0 false).swp.partnerLead &&& (wPlan false).twinMask ≠ (wPlan false).twinMask) ∧
    ((waited true (some 808000)).swp.joined = false ∧ (waited true (some 808000)).swp.waitOver = false ∧
      (waited true (some 808000)).bld.acceptedAt + 576000 ≤ (waited true none).now ∧
      (waited true (some 808000)).swp.drivenSince.isSome = true ∧ 808000 + 192000 ≤ (waited true none).now) ∧
    ((waited true (some 808001)).swp.lastLow = some 808001 ∧ (waited true none).now < 808001 + 192000) := by decide +kernel

/-- A carried entry that turns CH2 on, due or still to come. -/
def wEntry : CmdEntry := { kind := 1, code := 1, origin := 0, apply := 8, mask := 4, cause := 0 }
def carrying (tick : Nat) : State := { wj .off with
  dev := { w0.dev with tick := tick }, swp := { (wj .off).swp with applyQ := [(true, wEntry)] } }

theorem witness_CarriedCommandsApplyAtTheirTick :
    dueEntry (carrying 7).dev.tick (carrying 7).swp.applyQ = none ∧
    (dueEntry (carrying 8).dev.tick (carrying 8).swp.applyQ = some ((true, wEntry), []) ∧ wEntry.origin = 0 ∧ wEntry.kind = 1 ∧
      ChState.ofCode wEntry.code.toNat ≠ .quiet) ∧
    (inMask wEntry.mask 2 = true ∧ (carrying 8).twinned 2 = true ∧ carriedOk ((carrying 8).ch 2).st .rampUp = true ∧
      (carrying 8).barred 2 .rampUp = false) ∧
    (let e : CmdEntry := { wEntry with code := BitVec.ofNat 8 ChState.quiet.code }
     let s : State := { wj .openLoop with
       dev := { w0.dev with tick := 8 }, swp := { (wj .openLoop).swp with applyQ := [(true, e)] } }
     dueEntry s.dev.tick s.swp.applyQ = some ((true, e), []) ∧ inMask e.mask 2 = true ∧ s.twinned 2 = true ∧ ChState.ofCode e.code.toNat = .quiet ∧ (s.ch 2).st.playing = true ∧ (s.ch 2).loop.runPlay = false) ∧
    inMask wEntry.mask 0 = false := by decide +kernel

def silenced (fo : Bool) : State :=
  { wj .openLoop with
    swp := { (wj .openLoop).swp with missRun := 4, lossLow := some true, lead := 0 }, bld := { w0.bld with build := some (wBuild fo) } }

/-- CH2 plays while its partner's bridge is off; law 0x01, share clamp acting for 100 ms. -/
def partnerOff (lead : BitVec 64) : State :=
  let s := wj .openLoop fun k => { k with twin := { k.twin with partnerHiz := true, satRun := 19200 } }
  { s with swp := { s.swp with lead := lead } }

/-- CH2 is out here and has said so, and plays at the partner. -/
def outHalf : State :=
  let s := wj .tripped fun k => { k with twin := { k.twin with partnerState := 4, partnerHiz := false } }
  { s with swp := { s.swp with tx := List.replicate 1016 0x80 } }

theorem witness_TwinLossIsDecided :
    ((silenced true).plan = some (wPlan true) ∧ (silenced true).swp.laneUp = true ∧ (silenced true).swp.silentAt = none ∧
      4 ≤ (silenced true).swp.missRun) ∧
    ((silenced true).swp.joined = true ∧ (silenced true).swp.lossLow = some true ∧ (wPlan true).tbFollower = true) ∧
    (wj .openLoop).swp.lossLow ≠ some true ∧
    (silenced false).plan = some (wPlan false) ∧ ((silenced false).twinned 0 = false ∧ inMask (silenced false).swp.lead 2 = false) ∧
    ((partnerOff 4).joinedTwin 2 = true ∧ ((partnerOff 4).ch 2).twin.partnerHiz = true ∧ ((partnerOff 4).ch 2).st.playing = true ∧
      inMask (partnerOff 4).swp.solo 2 = false ∧ inMask (partnerOff 4).swp.lead 2 = true) ∧
    ((partnerOff 4).used 2 = true ∧ (partnerOff 4).twinned 2 = true) ∧
    (outHalf.swp.tx.length = 1016 ∧ (byteAt outHalf.swp.tx (208 + 2)).getLsbD 7 = true ∧ (outHalf.ch 2).stage.bridge = 0 ∧
      (outHalf.ch 2).twin.partnerHiz = false ∧ (ChState.ofCode (outHalf.ch 2).twin.partnerState.toNat).playing = true) ∧
    (inMask (partnerOff 0).swp.lead 2 = false ∧ (partnerOff 0).cfg 2 = some (wCfg 1 true) ∧ (wCfg 1 true).dfn.law ≠ 0 ∧
      0 ≤ (wCfg 1 true).lawP 0x0012) ∧
    19200 ≤ ((partnerOff 0).ch 2).twin.satRun := by decide +kernel

def leaving (f : Farewell) (tick : Nat) : State :=
  { wj .openLoop with dev := { w0.dev with tick := tick }, swp := { (wj .openLoop).swp with farewell := some f } }

/-- CH2 plays here and is off at the twin. -/
def rejoining (r : RejoinPhase) (mask : BitVec 64) : State :=
  let s := wj .openLoop fun k => { k with twin := { k.twin with partnerState := 0 } }
  { s with swp := { s.swp with rejoinMask := mask, rejoin := s.swp.rejoin.set 2 r } }

def returning : State :=
  wj .rampUp fun k => { k with
    loop := { k.loop with uvResume := true, resume := .quiet }, twin := { k.twin with uvRampDone := true, uvWait := 1920 } }

theorem witness_FarewellAndRejoin :
    (wj .openLoop).plan = some (wPlan false) ∧ (wj .openLoop).farewellBad = false ∧ w0.farewellBad = true ∧
    ((leaving ⟨true, 40, false⟩ 40).swp.farewell = some ⟨true, 40, false⟩ ∧ tickReached 40 40 = true) ∧
    (leaving ⟨false, 40, false⟩ 40).swp.farewell = some ⟨false, 40, false⟩ ∧
    ((leaving ⟨true, 40, true⟩ 56).swp.farewell = some ⟨true, 40, true⟩ ∧ tickReached 56 (40 + 16) = true) ∧
    (leaving ⟨false, 40, true⟩ 56).swp.farewell = some ⟨false, 40, true⟩ ∧
    (w0.swp.joined = false ∧ (rejoining .none 4).swp.joined = true) ∧
    (inMask (rejoining .none 4).swp.rejoinMask 2 = true ∧ (rejoining .none 4).rejoinOk 2 = true ∧ (rejoining .none 4).swp.rejoin[2] = .none) ∧
    ((rejoining .none 1).swp.rejoinMask = bitOf 0 ∧ (rejoining .none 1).rejoinOk 0 = false ∧ (rejoining (.enable 0) 4).swp.rejoin[2] ≠ .none) ∧
    ((returning.ch 2).st = .rampUp ∧ (returning.ch 2).loop.uvResume = true ∧ (returning.ch 2).twin.uvRampDone = true ∧
      1920 ≤ (returning.ch 2).twin.uvWait ∧ (returning.ch 2).loop.resume = .quiet) := by decide +kernel

/-! ### Links and frames -/

/-- The fields of a frame with no streams before its tag: version, FRAME, session, slice operation. -/
def head (v frame sess op : Nat) : List Byte :=
  [BitVec.ofNat 8 v, 3, 0, 0] ++ leBytes 4 frame ++ [0, 0] ++ leBytes 2 sess ++ [0, 0, 0, 0] ++
    [9, BitVec.ofNat 8 op] ++ List.replicate 62 0

/-- The frame of that head and a tag. -/
def frame (h tag : List Byte) : RawFrame := { bytes := (h ++ tag) ++ leBytes 4 (crc32 (h ++ tag)).toNat, delimOk := true, stamp := 0 }

def plain (v n : Nat) : RawFrame := frame (head v n 0 0) (List.replicate 8 0)

/-- A port with a lane, a session or none, a newest FRAME, and rejections so far. -/
def port (x : Option Session) (newest : Option (BitVec 32)) (rej : Nat) : State :=
  { w0 with portA := { w0.portA with lane := .locked, carrier := true, session := x, newest := newest, rejWin := List.replicate rej true } }

/-- A session whose tag no frame of zeros holds: it has another number. -/
def strange : Session := { wSess none none 0 with num := 5 }

theorem witness_BadFramesAreCountedAndDiscarded :
    ((port none none 0).dev.held = .running ∧ ((port none none 0).port .a).lane ≠ .down ∧ crcOk [] = false) ∧
    (crcOk (plain 2 1).bytes = true ∧ formatOk (plain 2 1) (parseDown (plain 2 1).bytes) = false) ∧
    (crcOk (plain 1 1).bytes = true ∧ formatOk (plain 1 1) (parseDown (plain 1 1).bytes) = true ∧
      ({ (port (some strange) none 0).port .a with crcRun := 1 } : LinkPort).auth (parseDown (plain 1 1).bytes) = .fails) ∧
    (((true :: ((port none none 14).port .a).rejWin).take 1024).filter id).length < 16 ∧
    16 ≤ (((true :: ((port none none 15).port .a).rejWin).take 1024).filter id).length := by decide +kernel
/-- Reading back four bytes that were laid down at the end of a list. -/
theorem field_tail (p : List Byte) (c : BitVec 32) : field (p ++ leBytes 4 c.toNat) p.length 4 = c.toNat := by
  have h := c.isLt
  have r : List.range 4 = [0, 1, 2, 3] := by decide
  simp only [field, slice, List.drop_left, leBytes, r]
  simp [leNat, Nat.shiftRight_eq_div_pow]
  omega

/-- A frame built by `frame` on an 80-byte head and an 8-byte tag passes its CRC. -/
theorem frame_crc (h tag : List Byte) (hl : (h ++ tag).length = 88)
    (hf : frameLen (frame h tag).bytes = 92) : crcOk (frame h tag).bytes = true := by
  have e : ((frame h tag).bytes.take 88) = h ++ tag := by
    simp only [frame]; rw [List.take_append_of_le_length (by omega), List.take_of_length_le (by omega)]
  have l : (frame h tag).bytes.length = 92 := by
    simp only [frame, List.length_append] at *; simp [leBytes]; omega
  have t := field_tail (h ++ tag) (crc32 (h ++ tag))
  rw [hl] at t
  have t' : field (frame h tag).bytes 88 4 = (crc32 (h ++ tag)).toNat := t
  simp only [crcOk, hf, l, e, t']
  simp

/-- Head of a frame of session 1 with FRAME 7 and no request. -/
def hd : List Byte := [1, 3, 0, 0, 7, 0, 0, 0, 0, 0, 1, 0, 0, 0, 0, 0, 9, 0] ++ List.replicate 62 0

/-- The frame that carries the session's own tag. -/
def tagged (x : Session) : RawFrame := frame hd (frameTag x 0 0 7 hd)

/-- A slice inside the first of two joined strings. -/
theorem slice_left (h r : List Byte) (off n : Nat) (l : off + n ≤ h.length) : slice (h ++ r) off n = slice h off n := by
  have a : off ≤ h.length := by omega
  have b : n ≤ (h.drop off).length := by simp; omega
  simp only [slice, List.drop_append_of_le_length a, List.take_append_of_le_length b]

/-- What that frame parses to, whatever its tag and CRC. -/
theorem hd_parse (tag r : List Byte) (l : tag.length = 8) :
    let b := hd ++ (tag ++ r)
    frameLen b = 92 ∧ parseDown b =
      { rate := 3, streams := 0, frame := 7, bulkLen := 0, session := 1, samples := []
        req := { seq := 9, op := 0, len := 0, addr := 0, arg := 0, data := List.replicate 52 0 }
        bulk := [], tag := tag, aad := hd } := by
  have k : hd.length = 80 := by decide
  have b2 (i : Nat) (h : i < 80) : byteAt (hd ++ (tag ++ r)) i = byteAt hd i := by
    simp only [byteAt, List.getD_append _ _ _ _ (by omega : i < hd.length)]
  have f (off n : Nat) (h : off + n ≤ 80) : field (hd ++ (tag ++ r)) off n = field hd off n := by
    simp only [field, slice_left _ _ _ _ (by omega : off + n ≤ hd.length)]
  have z : field hd 8 2 = 0 := by decide
  have y : (byteAt hd 2).toNat = 0 := by decide
  have t : slice (hd ++ (tag ++ r)) 80 8 = tag := by
    simp only [slice]; rw [List.drop_left' k, List.take_left' l]; simp [l]
  have s0 : slice (hd ++ (tag ++ r)) 80 0 = [] := by simp [slice]
  refine ⟨by simp [frameLen, b2, f, z, y], ?_⟩
  simp only [parseDown, b2 2 (by omega), f 8 2 (by omega), y, z, Nat.mul_zero, Nat.add_zero, t, s0,
    slice_left hd _ 16 64 (by omega), slice_left hd _ 0 80 (by omega), b2 1 (by omega), f 4 4 (by omega), f 10 2 (by omega)]
  have q1 : (byteAt hd 1).toNat = 3 := by decide
  have q2 : BitVec.ofNat 32 (field hd 4 4) = 7 := by decide
  have q3 : BitVec.ofNat 16 (field hd 10 2) = 1 := by decide
  have q4 : sliceReq (slice hd 16 64) = { seq := 9, op := 0, len := 0, addr := 0, arg := 0, data := List.replicate 52 0 } := by
    decide
  have q5 : slice hd 0 80 = hd := by decide
  simp only [q1, q2, q3, q4, q5, List.range_zero, List.map_nil]

/-- What that frame parses to. -/
theorem tagged_parse (x : Session) :
    formatOk (tagged x) (parseDown (tagged x).bytes) = true ∧ frameLen (tagged x).bytes = 92 ∧
    (parseDown (tagged x).bytes).session = 1 ∧ (parseDown (tagged x).bytes).frame = 7 ∧
    (parseDown (tagged x).bytes).tag = frameTag x 0 0 7 hd ∧ (parseDown (tagged x).bytes).aad = hd ∧
    (parseDown (tagged x).bytes).req.op = 0 ∧ (parseDown (tagged x).bytes).bulkLen = 0 := by
  have l : (frameTag x 0 0 7 hd).length = 8 := by simp [frameTag, beBytes, leBytes]
  have e : (tagged x).bytes = hd ++ (frameTag x 0 0 7 hd ++ leBytes 4 (crc32 (hd ++ frameTag x 0 0 7 hd)).toNat) := by
    simp only [tagged, frame, List.append_assoc]
  obtain ⟨f, q⟩ := hd_parse (frameTag x 0 0 7 hd) (leBytes 4 (crc32 (hd ++ frameTag x 0 0 7 hd)).toNat) l
  have g : (tagged x).bytes.length = 92 := by
    rw [e]; simp only [List.length_append, l, (by decide : hd.length = 80)]; simp [leBytes]
  have v : byteAt (tagged x).bytes 0 = 1 := by rw [e]; rfl
  rw [← e] at f q
  refine ⟨?_, f, by rw [q], by rw [q], by rw [q], by rw [q], by rw [q], by rw [q]⟩
  have d : (tagged x).delimOk = true := rfl
  have w : (92 : Nat) ≤ lmax 3 := by decide
  simp [formatOk, q, f, g, v, d, w]

theorem tagged_crc (x : Session) : crcOk (tagged x).bytes = true :=
  frame_crc hd _ (by simp [hd, leBytes, frameTag, beBytes]) (tagged_parse x).2.1

/-- The session of the frames above. -/
def wSess1 : Session := wSess none none 0

theorem witness_AcceptedAndAdmittedFrames :
    (let s := port (some wSess1) (some 6) 0
     let d := parseDown (tagged wSess1).bytes
     s.dev.held = .running ∧ (s.port .a).lane ≠ .down ∧ crcOk (tagged wSess1).bytes = true ∧ formatOk (tagged wSess1) d = true ∧
      (s.port .a).session = some wSess1 ∧
      (d.session = wSess1.num ∧ d.tag = frameTag wSess1 0 (wSess1.wrapFor d.frame) d.frame d.aad) ∧
      (∀ n, (s.port .a).newest = some n → 0 < (d.frame - n).toInt) ∧ s.link.active ≠ some .a ∧ d.req.op = 0 ∧ d.bulkLen = 0 ∧
      wSess1.frames + 1 ≠ 2 ^ 31) ∧
    (let s := port none (some 0) 0
     s.dev.held = .running ∧ (s.port .a).lane ≠ .down ∧ crcOk (plain 1 1).bytes = true ∧
      formatOk (plain 1 1) (parseDown (plain 1 1).bytes) = true ∧ (s.port .a).session = none ∧
      0 < ((parseDown (plain 1 1).bytes).frame - 0).toInt ∧ (s.port .a).newest = some 0) := by
  refine ⟨?_, by decide +kernel⟩
  obtain ⟨h1, _, h3, h4, h5, h6, h7, h8⟩ := tagged_parse wSess1
  refine ⟨rfl, by decide, tagged_crc _, h1, rfl, ⟨h3, ?_⟩, ?_, by decide, h7, h8, by decide⟩
  · rw [h4, h5, h6]; rfl
  · intro n hn
    have : n = 6 := (Option.some.inj hn).symm
    subst this; rw [h4]; decide

/-- The stale frame: FRAME 7 is the newest already. -/
theorem witness_BadFramesAreCountedAndDiscarded_stale :
    (let s := port (some wSess1) (some 7) 0
     let d := parseDown (tagged wSess1).bytes
     let l : LinkPort := { s.port .a with crcRun := 1 }
     crcOk (tagged wSess1).bytes = true ∧ formatOk (tagged wSess1) d = true ∧ l.auth d = .current ∧
      (s.setPort .a l).stale .a d.frame = true) := by
  obtain ⟨h1, _, h3, h4, h5, h6, _, _⟩ := tagged_parse wSess1
  refine ⟨tagged_crc _, h1, ?_, ?_⟩
  · have e : (parseDown (tagged wSess1).bytes).tag = frameTag wSess1 0 (wSess1.wrapFor (parseDown (tagged wSess1).bytes).frame)
        (parseDown (tagged wSess1).bytes).frame (parseDown (tagged wSess1).bytes).aad := by rw [h4, h5, h6]; rfl
    have n : (parseDown (tagged wSess1).bytes).session = wSess1.num := h3
    have x : ({ (port (some wSess1) (some 7) 0).port .a with crcRun := 1 } : LinkPort).session = some wSess1 := rfl
    unfold LinkPort.auth
    rw [x]
    simp only [n, ← e]
    simp
  · rw [h4]; decide +kernel

/-- A port whose older session another number has, and whose new session the frames above belong to. -/
def cutting : State := { port (some { wSess1 with num := 9 }) (some 6) 0 with
  portA := { (port (some { wSess1 with num := 9 }) (some 6) 0).portA with pendSess := some wSess1 } }

/-- The first frame of the new session: a cutover. -/
theorem witness_SessionsComeIntoForceAndEnd_cutover :
    (let d := parseDown (tagged wSess1).bytes
     let l : LinkPort := { cutting.port .a with crcRun := 1 }
     cutting.dev.held = .running ∧ (cutting.port .a).lane ≠ .down ∧ crcOk (tagged wSess1).bytes = true ∧
      formatOk (tagged wSess1) d = true ∧ (cutting.port .a).session = some { wSess1 with num := 9 } ∧ l.auth d = .cutover wSess1 ∧
      (∀ n, (cutting.port .a).newest = some n → 0 < (d.frame - n).toInt) ∧ cutting.link.active ≠ some .a ∧ d.req.op = 0 ∧
      d.bulkLen = 0) := by
  obtain ⟨h1, _, h3, h4, h5, h6, h7, h8⟩ := tagged_parse wSess1
  refine ⟨rfl, by decide, tagged_crc _, h1, rfl, ?_, ?_, by decide, h7, h8⟩
  · have x : ({ cutting.port .a with crcRun := 1 } : LinkPort).session = some { wSess1 with num := 9 } := rfl
    have y : ({ cutting.port .a with crcRun := 1 } : LinkPort).pendSess = some wSess1 := rfl
    have e : (parseDown (tagged wSess1).bytes).tag = frameTag wSess1 0 0 (parseDown (tagged wSess1).bytes).frame
        (parseDown (tagged wSess1).bytes).aad := by rw [h4, h5, h6]
    have n : (parseDown (tagged wSess1).bytes).session = wSess1.num := h3
    unfold LinkPort.auth
    rw [x, y]
    simp only [n, ← e]
    simp [wSess1, wSess]
  · intro n hn
    have : n = 6 := (Option.some.inj hn).symm
    subst this; rw [h4]; decide
/-! ### Lanes, ports, mailbox -/

/-- Port A with its record changed. -/
def onA (f : LinkPort → LinkPort) (g : Link → Link := id) : State := { w0 with portA := f w0.portA, link := g w0.link }

def locking : State := onA fun l => { l with lane := .locking, crcRun := 64 }
def carried (auto : Bool) (act : Option Port) : State :=
  onA (fun l => { l with lane := .locked, carrier := true, auto := auto }) fun k => { k with active := act }

/-- Ports whose READY is as named, and the link's choice. -/
def ports (a b : Bool) (f : Link → Link) : State :=
  let l (r : Bool) : LinkPort := { w0.portA with lane := .locked, session := if r then some (wSess none none 0) else none, accRun := 64 }
  { w0 with portA := l a, portB := l b, link := f w0.link }

theorem witness_LanesFallAndPortsReset :
    (w0.dev.held = .running ∧ (w0.port .a).lane = .down ∧ w0.dev.gone.contains (.link .a) = false) ∧
    ((w0.port .a).lane ≠ .locked ∧ (w0.port .a).lane = .down) ∧
    ((locking.port .a).lane = .locking ∧ 64 ≤ (locking.port .a).crcRun) ∧
    (let s := ports true true fun k => { k with active := some .a }
     s.link.active = some .a ∧ (s.port (Port.other .a)).isReady = true) ∧
    (((carried true (some .a)).port .a).carrier = true ∧ (carried true (some .a)).link.active = some .a ∧
      ((carried true (some .a)).port .a).auto = true ∧ ((carried true (some .a)).port .a).lane = .locked) ∧
    (carried true none).link.active ≠ some .a ∧ ((carried false (some .a)).port .a).auto = false ∧ mayWrite .m2 = true := by
  decide +kernel

theorem witness_PortsAreChosen :
    ((ports true true id).link.active = none ∧ ((ports true true id).port .a).isReady = true ∧ (ports true true id).swp.joined = false) ∧
    (((ports false true id).port .b).isReady = true ∧ ((ports false true id).port .a).isReady = false) ∧
    (ports true true fun k => { k with active := some .a }).link.active = some .a ∧
    ((ports true true fun k => { k with active := some .a, pendTake := some .b }).link.pendTake = some .b ∧ Port.b ≠ .a) ∧
    (let s := ports false true fun k => { k with active := some .a, pendSwitch := some 2 }
     s.link.active = some .a ∧ s.link.pendTake = none ∧ s.link.dueSwitch = none ∧ s.link.pendSwitch.isSome = true ∧ Port.b = Port.other .a ∧
      (s.port .a).isReady = false ∧ (s.port .b).isReady = true) ∧
    (let s := ports true true fun k => { k with active := some .a, dueSwitch := some 2 }
     s.link.active = some .a ∧ s.link.pendTake = none ∧ s.link.dueSwitch.isSome = true ∧ (s.port .b).isReady = true ∧
      (s.port .b).rate = s.mtb.rate) ∧
    (let s := ports true true fun k => { k with active := some .a, pendSwitch := some 2 }
     s.link.pendTake = none ∧ s.link.dueSwitch = none ∧ s.link.pendSwitch.isSome = true ∧ (s.port .a).isReady = true) ∧
    (let s := ports false false fun k => { k with active := some .a, silent := 192000 }
     s.link.active = some .a ∧ 192000 ≤ s.link.silent ∧ s.link.inputLost = false ∧ ∀ n, s.joinedTwin n = false) := by
  decide +kernel

/-- Port A in session, a readout running or none. -/
def mailing (busy : Bool) : State :=
  onA fun l => { l with
    lane := .locked, session := some (wSess none none 0), mbValid := true, mbSeq := 9
    trcRead := if busy then some { buf := false, slots := [0], first := 0, next := 0, stop := 1 } else none }

theorem witness_MailboxRequestsTakeEffectOnce :
    (((mailing false).port .a).mbValid = true ∧ ((mailing false).port .a).mbSeq = 9) ∧
    ((w0.port .a).mbValid = false ∧ (w0.port .a).session = none) ∧
    ((mailing false).portA.mbSeq ≠ 10 ∧ ((mailing false).port .a).session = some (wSess none none 0) ∧ ((mailing false).port .a).lane ≠ .down ∧
      ((mailing false).port .a).readout = false ∧ (mailing false).jrn.failed = false) ∧
    ((mailing true).port .a).readout = true ∧
    (([] : List Byte).length ≤ 52 ∧ (mailing false).keeper.ok = true ∧ ((mailing false).port .a).attest = none ∧
      ((mailing false).port .a).attestQ = []) ∧
    (1 ≤ (52 : Byte).toNat ∧ (52 : Byte).toNat ≤ 52 ∧
      ∀ i : Fin 52, canRead Port.a.master (targetOf ((0x30001000 : BitVec 32).toNat + i.val)) = true) ∧
    (1 ≤ ([3] : List Byte).length ∧ ((mailing false).busWrite Port.a.master 0x30000260 (slice [3] 0 1)).2.1 = false) ∧
    ((mailing false).busWrite Port.a.master 0x30000404 (slice (2 :: List.replicate 7 0) 0 8)).2.2 = true := by decide +kernel

def exch (p : ExPhase) (s : State) : State :=
  s.modPort .a fun l => { l with ex := { l.ex with phase := p, response := if p = .none then [] else [1] }, pendSess := some (wSess none none 0) }

theorem witness_SessionMessagesDriveTheExchange :
    (((mailing false).port .a).mbSeq ≠ 10 ∧ ((mailing false).port .a).lane ≠ .down ∧ (mailing false).keeper.ok = true ∧
      (mailing false).keeper.failed = false ∧ (mailing false).keeper.rngFail = false) ∧
    (((exch .startReady (mailing false)).port .a).ex.phase = .startReady ∧ (19 : Byte).toNat < (20 : Byte).toNat ∧
      52 * (19 : Byte).toNat + (List.replicate 36 (0 : Byte)).length ≤ 1024 ∧ ((exch .startReady (mailing false)).port .a).ex.cnt = 0) ∧
    (((exch .startReady (mailing false)).port .a).ex.response ≠ [] ∧ (4 : Byte).toNat < 5) ∧
    (((exch .done (mailing false)).port .a).ex.phase = .done ∧ ((exch .done (mailing false)).port .a).ex.code = 0 ∧
      ((exch .done (mailing false)).port .a).pendSess = some (wSess none none 0)) ∧
    ((mailing false).port .a).session = some (wSess none none 0) := by decide +kernel

def oldSession : State := onA fun l => { l with lane := .locked, session := some (wSess none none 4294967296), attest := some 5 }

theorem witness_SessionsComeIntoForceAndEnd :
    (((exch .startPending w0).port .a).ex.phase = .startPending ∧ (exch .startPending w0).keeper.ok = true) ∧
    ((exch .verifying w0).port .a).ex.phase = .verifying ∧
    ((oldSession.port .a).session = some (wSess none none 4294967296) ∧ 4294967296 ≤ (wSess none none 4294967296).frames) ∧
    ((oldSession.port .a).attest = some 5 ∧ oldSession.keeper.failed = false ∧
      ({ oldSession with keeper := { w0.keeper with failed := true } } : State).keeper.failed = true) := by decide +kernel

/-! ### Security, device commands, supplies -/

theorem witness_BootEndsInUnbuiltOrHalt :
    ((wd .boot).dev.held = .running ∧ (wd .boot).dev.state = .boot) ∧ (w0.keeper.ok = true ∧ w0.keeper.rngFail = false) := by
  decide +kernel

def fresh : State := { wd .unbuilt with bld := Bld.reset }

def enrolling (k : Nat) (f : SecWin → SecWin) : State :=
  { fresh with win := f { SecWin.reset with enrollOpen := some .m0, enrollBuf := List.replicate k 0 } }

theorem witness_EnrollmentBurnsTheOwnerKey :
    mayWrite .m0 = true ∧ fresh.enrollBad = none ∧ w0.enrollBad = some secState ∧
    (enrolling 192 id).win.enrollBuf.length + 4 ≤ 196 ∧ 196 < (enrolling 193 id).win.enrollBuf.length + 4 ∧
    ((enrolling 196 id).keeper.failed = false ∧ (enrolling 196 id).win.enrollOpen = some .m0 ∧
      (enrolling 196 id).win.overflow = false ∧ 196 ≤ (enrolling 196 id).win.enrollBuf.length) ∧
    ((enrolling 0 fun w => { w with enrollCheck := some (.m0, [], 3) }).win.enrollCheck = some (.m0, [], 3) ∧
      (enrolling 0 id).keeper.failed = false) ∧
    (let s : State := { enrolling 0 fun w => { w with enrollCheck := some (.m0, [], 3) } with keeper := { w0.keeper with failed := true } }
     s.keeper.failed = true ∧ s.win.enrollCheck = some (.m0, [], 3)) := by decide +kernel

/-- Port A in session: M1 may lock the debug paths. -/
def lockable : State := { mailing false with win := { SecWin.reset with lockOpen := some .m1 } }

def shipped : State :=
  { wd .built with fuse := { Fuses.shipped with owner0 := { used := true, valid := true, hash := 1 } } }

theorem witness_DebugLockAndTestMode :
    (mayWrite .m1 = true ∧ lockable.keeper.failed = false ∧ lockable.lockOk .m1 = true ∧ lockable.win.lockOpen = some .m1) ∧
    lockable.lockOk .m0 = false ∧ ({ w0 with keeper := { w0.keeper with lockBusy := true } } : State).keeper.lockBusy = true ∧
    (shipped.dbgLock = false ∧ shipped.fuse.life = 0b10 ∧ shipped.dev.state ≠ .standby ∧ shipped.dev.state ≠ .boot) := by
  decide +kernel

/-- Halted with a cause. -/
def halted (c : HaltCause) : State := { wd .halt with dev := { w0.dev with state := .halt, haltCause := c } }

theorem witness_DeviceCommandsMoveTheDevice :
    (mayWrite .m0 = true ∧ w0.swp.joined = false ∧ (wd .built).dev.state = .built ∧ (wd .built).pwr.vioOk = true ∧
      (wd .built).dev.disarming = false ∧ w0.used 0 = true ∧ w0.used 9 = false ∧ (w0.ch 0).st = .off ∧ w0.twinEnable 0 = true) ∧
    (let s : State := { wc .quiet with dev := { w0.dev with state := .armed } }
     s.dev.state = .armed ∧ s.muted = false ∧ s.kernelWhole = true ∧ s.mutedAt 0 = false ∧ (s.ch 0).st = .quiet ∧ (s.ch 0).ident.running = false ∧ (s.ch 0).ident.fitPending = false ∧
      s.identDue 0 = false ∧ s.blockGone 0 = false ∧ (s.ch 0).loop.fading ≠ .quiet) ∧
    ((wc .rampUp).ch 0).st = .rampUp ∧ ((wc .openLoop).dev.state = .run ∧ ((wc .openLoop).ch 0).st.playing = true) ∧
    ((wc .quiet).dev.state = .run ∧ ((wc .quiet).ch 0).st = .quiet) ∧
    (let s : State := { w0 with dev := { w0.dev with disarming := true } }
     s.dev.disarming = true ∧ s.allDown = true) ∧
    ((wd .unbuilt).dev.state = .unbuilt ∧ ((wc .quiet).ch 0).st.live = true) ∧
    ((halted .host).dev.state = .halt ∧ (halted .host).dev.haltCause ≠ .boot ∧ (halted .host).standbyBusy = false) ∧
    ((wd .armed).dev.state ≠ .built ∧ ({ wd .built with pwr := Pwr.reset } : State).pwr.vioOk = false ∧ (wd .built).dev.state ≠ .armed ∧
      ({ wd .armed with dev := { (wd .armed).dev with mutePin := true } } : State).muted = true ∧ (wd .armed).dev.state ≠ .run ∧
      (wd .built).dev.state ≠ .run ∧ w0.dev.state ≠ .halt ∧ (halted .boot).dev.haltCause = .boot) ∧
    (let s : State := { wd .armed with keeper := { w0.keeper with failed := true } }
     s.dev.state = .armed ∧ s.dev.disarming = false ∧ s.muted = false ∧ s.kernelWhole = false) ∧
    ({ wd .armed with dev := { (wd .armed).dev with disarming := true } } : State).dev.disarming = true := by decide +kernel

def stood : State := { wd .standby with
  dev := { Dev.reset with held := .standby, state := .standby }, snow := { Snow.reset with stored := some (7, 9) } }

def resetting (x : ChState) : State := wc x fun k => { k with loop := { k.loop with resetPending := true } }

theorem witness_ResetsClearWhatTheirRowSays :
    w0.dev.held ≠ .por ∧ stood.dev.held = .standby ∧ w0.dev.held = .running ∧ w0.pwr.vioOk = true ∧ State.reset.dev.held = .por ∧
    stood.pwr.vioOk = true ∧ (let s : State := { stood with pwr := Pwr.reset }
      s.dev.held = .standby ∧ s.pwr.vioOk = false) ∧ stood.snow.stored = some (7, 9) ∧ mayWrite .m0 = true ∧ (∀ n, w0.joinedTwin n = false) ∧
    (inMask 1 0 = true ∧ (wc .quiet).used 0 = true ∧ ((wc .quiet).ch 0).loop.resetPending = false ∧ ((wc .quiet).ch 0).st = .quiet ∧
      (w0.ch 0).st = .off ∧ inMask 1 1 = false ∧ w0.used 9 = false) ∧
    ((resetting .off).cfg 0 = some (wCfg 1 true) ∧ ((resetting .off).ch 0).loop.resetPending = true ∧ ((resetting .off).ch 0).st = .off) ∧
    ((resetting .tripped).ch 0).st = .tripped := by decide +kernel

def supplied (f : Pwr → Pwr) (x : DevState := .run) : State := { wd x with pwr := f w0.pwr }

theorem witness_SuppliesHoldAndRecover :
    w0.dev.held = .running ∧ w0.pwr.uv = false ∧ w0.pwr.ov = false ∧ (w0.ch 0).st = .off ∧ ((wc .rampDown).ch 0).st = .rampDown ∧
    (((wc .openLoop).ch 0).st.live = true ∧ ((wc .openLoop).ch 0).st ≠ .rampDown ∧ ((wc .openLoop).ch 0).st ≠ .rampUp ∧
      ((wc .openLoop).ch 0).loop.uvHold = false) ∧
    (supplied fun p => { p with uv := true }).pwr.uv = true ∧ (supplied fun p => { p with ov := true }).pwr.ov = true ∧
    ((wd .built).pwr.vioOk = true ∧ (wd .built).dev.state ≠ .armed ∧ (wd .built).dev.state ≠ .run) ∧
    (w0.pwr.vioOk = true ∧ w0.dev.state = .run ∧ w0.muted = false ∧ w0.swp.joined = false) ∧
    (let s := supplied fun p => { p with vioOk := false }
     s.pwr.vioOk = false ∧ s.pwr.vioMute = false) ∧
    (let s := supplied fun p => { p with vioOk := false, vioMute := true }
     s.pwr.vioOk = false ∧ s.pwr.vioMute = true ∧ s.dev.mutePin = false ∧ s.dev.muteLow.1 = false ∧ s.swp.joined = false ∧
      s.dev.muteResume = false ∧ s.muteFades = false ∧ (s.ch 0).st ≠ .retry) ∧
    (let s : State := { supplied fun p => { p with vioOk := false, vioMute := true } with dev := { w0.dev with mutePin := true } }
     s.pwr.vioMute = true ∧ s.muteFades = false ∧ s.dev.mutePin = true) ∧
    (let s : State := { muting with pwr := { w0.pwr with vioOk := false, vioMute := true } }
     s.pwr.vioOk = false ∧ s.pwr.vioMute = true ∧ s.muteFades = true) ∧
    ((0x34 : Byte).toNat % 64 ≤ 0x34 ∧ 0x34 < (0x35 : Byte).toNat % 64) := by decide +kernel

theorem witness_FlagsAndMasksChangeAlone : mayWrite .m4 = true ∧ Ev.upstreamDrop < 256 ∧ (0 : Fin 256).val / 8 = (0 : Fin 32).val := by
  decide

def wJe : JEntry := { frame := 0, src := 0, kind := 2, result := 0, index := 255, digest := none, data := [] }

def journal (f : Journal → Journal) : State := { w0 with jrn := f { w0.jrn with queue := [wJe], ents := [(4, [1])], next := 5, head := 4 } }

theorem witness_JournalWritesAndReads :
    ((journal id).jrn.started = true ∧ (journal id).jrn.failed = false ∧ (journal id).jrn.queue = wJe :: [] ∧ (journal id).jrn.gap = 0) ∧
    0 < (journal fun j => { j with gap := 1 }).jrn.gap ∧ (journal fun j => { j with failed := true }).jrn.failed = true ∧
    (journal fun j => { j with started := false }).jrn.started = false ∧ w0.jrn.queue = [] ∧
    (mayWrite .m0 = true ∧ (journal id).jrn.entry 4 = some [1] ∧ (journal id).jrn.entry 3 = none ∧ (3 : BitVec 64) < (journal id).jrn.next ∧
      (journal id).jrn.entry 5 = none ∧ ¬ (5 : BitVec 64) < (journal id).jrn.next) := by decide +kernel

/-! ### Two-wire port, trace, injection, peek -/

def twp (f : Twp → Twp) : State := { w0 with twp := f { Twp.reset with clocked := true } }

def waking : State := { w0 with twp := { Twp.reset with wakeHeld := true, wakeEvt := true } }

def alerting : State :=
  { twp id with evt := { w0.evt with flags := 1, amask := 0 } }

theorem witness_TwoWirePortServes :
    ((twp id).twpRuns = true ∧ (0x5B : BitVec 7) = 0x58 + (3 : BitVec 3).setWidth 7 ∧ (0x0C : BitVec 7) ≠ 0x58 + (3 : BitVec 3).setWidth 7) ∧
    (twp fun t => { t with phase := .pointer }).twp.phase = .pointer ∧ (twp fun t => { t with phase := .write }).twp.phase = .write ∧
    (twp fun t => { t with mute := true }).twp.mute = true ∧
    (let s := twp fun t => { t with phase := .read, snap := some (4, [1, 2]), pointer := 5 }
     s.twp.mute = false ∧ s.twp.phase = .read ∧ s.twp.snap = some (4, [1, 2]) ∧ 4 ≤ s.twp.pointer.toNat ∧
      [1, 2][s.twp.pointer.toNat - 4]? = some 2) ∧
    (let s := twp fun t => { t with phase := .read }
     s.twp.snap = none ∧ s.twp.pointer = 0 ∧ windowPresent s.twp.window.toNat = true) ∧
    (twp id).twp.staged = [] ∧ (twp fun t => { t with staged := [(0, 0x0E)] }).twp.staged = [(0, 0x0E)] ∧
    ((1 : Byte) ≠ 0 ∧ (twp fun t => { t with staged := [(1, 2)] }).twp.staged = [(1, 2)]) ∧
    waking.twp.wakeHeld = true ∧ (w0.dev.held = .running ∧ w0.twp.clocked = false ∧ w0.twp.wakeHeld = false ∧ w0.twp.wakeEvt = false) ∧
    (waking.twp.clocked = false ∧ waking.twp.wakeEvt = true) ∧
    (alerting.twpRuns = true ∧ alerting.twp.araEn = true ∧ alerting.alerting ≠ 0 ∧ alerting.twp.answered = false) := by decide +kernel

def trc (f : Trc → Trc) : State := { w0 with trc := f { Trc.reset with slots := Trc.reset.slots.set 3 0x40 } }

theorem witness_TraceAndPinStreamRun :
    ((trc id).dev.gone.contains .trace = false ∧ (trc id).trc.state = .idle ∧ ((trc id).trc.slots[(3 : Fin 16)]).getLsbD 6 = true ∧ (trc id).readingOut (trc id).nextTarget = false) ∧
    ((trc fun t => { t with state := .armed }).trc.state ≠ .idle ∧ (∀ i : Fin 16, (w0.trc.slots[i]).getLsbD 6 = false) ∧
      (mailing true).readingOut (mailing true).nextTarget = true) ∧
    ((trc fun t => { t with armPending := true }).trc.armPending = true) ∧
    (let s := trc fun t => { t with state := .armed, manualTrig := true }
     s.trc.state = .armed ∧ s.trc.manualTrig = true ∧ s.trc.trigLate = false) ∧
    (let s := trc fun t => { t with state := .armed, evtEn := true, evtHit := true }
     s.trc.manualTrig = false ∧ s.trc.evtEn = true ∧ s.trc.evtHit = true) ∧
    (let s := trc fun t => { t with state := .armed, thrEn := true, thrHit := true }
     s.trc.manualTrig = false ∧ (s.trc.evtEn && s.trc.evtHit) = false ∧ s.trc.thrEn = true ∧ s.trc.thrHit = true) ∧
    (let s := trc fun t => { t with state := .armed, frameEn := true, frameHit := true }
     s.trc.manualTrig = false ∧ (s.trc.evtEn && s.trc.evtHit) = false ∧ (s.trc.thrEn && s.trc.thrHit) = false ∧ s.trc.frameEn = true ∧
      s.trc.frameHit = true) ∧
    (let s := trc fun t => { t with state := .triggered, left := 0 }
     s.trc.state = .triggered ∧ s.trc.left = 0) ∧
    ({ w0 with dev := { w0.dev with gone := [.trace] } } : State).dev.gone.contains .trace = true ∧
    (¬ (w0.dev.gone.contains .trace = true ∨ w0.dbgLock = true ∨ (w0.trc.state ≠ .idle ∧ w0.trc.target = w0.trc.pinBuf) ∨ w0.trc.pinBusy = true)) ∧
    (let s := trc fun t => { t with pinBusy := true }
     s.trc.pinBusy = true ∧ s.dbgLock = false ∧ s.pwr.vioOk = true) ∧ State.reset.pwr.vioOk = false := by decide +kernel

def flx (f : Flx → Flx) : State := { wc .quiet with flx := f Flx.reset }

def lockedDown : State := { flx id with keeper := { w0.keeper with lockNow := true } }

theorem witness_InjectionsAndCapturesRun :
    mayWrite .m0 = true ∧
    (let s := flx id
     s.flx.chan = 0 ∧ s.dbgLock = false ∧ s.used 0 = true ∧ s.flx.injOn = false ∧ s.dev.state = .run ∧ (s.ch 0).st = .quiet ∧
      s.muted = false ∧ (s.ch 0).ident.running = false ∧ s.flx.signal ≠ 3 ∧ s.joinedTwin 0 = false ∧ s.flx.point ≠ 3) ∧
    lockedDown.dbgLock = true ∧ (let s := flx fun x => { x with ch := 9 }
     s.flx.chan = 9 ∧ s.used 9 = false) ∧
    (flx fun x => { x with injOn := true }).flx.injOn = true ∧ (flx fun x => { x with signal := 3 }).flx.signal = 3 ∧
    (let s : State := { wj .quiet with flx := { Flx.reset with ch := 2 } }
     s.flx.chan = 2 ∧ s.used 2 = true ∧ s.joinedTwin 2 = true ∧ inMask s.swp.solo 2 = false) ∧
    (let s := flx fun x => { x with point := 3, level := 39 }
     s.flx.point = 3 ∧ s.flx.level.toNat < 40) ∧
    (let s := flx fun x => { x with injOn := true }
     s.flx.injFade = none) ∧ (flx fun x => { x with injFade := some 3 }).flx.injFade ≠ none ∧
    (flx fun x => { x with capRun := true, capCount := 8192 }).flx.capRun = true ∧
    (let s := flx fun x => { x with capWait := true, capSync := false }
     s.flx.capWait = true ∧ s.flx.capSync = false) ∧
    (let s := flx fun x => { x with capRun := true, capCount := 8192 }
     8192 ≤ s.flx.capCount) ∧ (w0.flx.capRun = false ∧ w0.flx.capWait = false) := by decide +kernel

/-- Context 0 loads a page. -/
def peek (sel : BitVec 32) (built : Bool := true) : State :=
  { w0 with
    coef := w0.coef.set 0 { Coef.reset with sel := sel, asked := sel, state := .loading }
    bld := { w0.bld with build := if built then w0.bld.build else none } }

theorem witness_CoefficientPagesLoad :
    mayWrite .m0 = true ∧ ((peek 0).coef[(0 : Fin 16)]).state = .loading ∧
    ((peek 0x100).page 0x100).toOption.isSome = true ∧ (peek 0 false).bld.build = none ∧
    ((peek 0).bld.build.isSome = true ∧ selKind 0 = 0 ∧ 10 < selKind 0xB00) ∧
    (1 ≤ selKind 0x109 ∧ selKind 0x109 ≤ 9 ∧ (peek 0x109).used (selChan 0x109) = false) ∧
    (selKind 0x00010A00 = 10 ∧ (wBuild false).streams.length ≤ selIndex 0x00010A00) ∧
    (selKind 0x600 = 6 ∧ selChan 0x600 = 0 ∧ chanItems (wBuild false).streams (wCfg 1 true) [] (selKind 0x600) (selBank 0x600) = none) := by
  decide +kernel

theorem witness_RegisterWritesAreTheirCommands :
    mayWrite .m0 = true ∧ ((0x01 : Byte), Instr.arm .m0) ∈ [((0x01 : Byte), Instr.arm .m0)] ∧ (0x40 : Byte).toNat = 2 ^ ChCmd.clear.bit ∧
    (0x0E ≤ (0x0F : Byte).toNat ∧ (0x0F : Byte).toNat ≤ 0x0F) ∧ 0x70 ≤ (0x70 : Byte).toNat ∧
    ((twp fun t => { t with staged := [(0, 0x0E)] }).twpRuns = true) ∧ canWrite .m5 3 = false ∧ canWrite .m3 3 = true := by decide +kernel

theorem witness_MastersWithoutTheRightAreDenied :
    regRight .m3 0x10 0x04 = false ∧ regRight .m5 0x0C 0x20 = false ∧ regRight .m6 0x10 0x40 = false := by decide

/-! ## Single steps held against the spec's words -/

/-- Table 16-17: SYS_ID reads 0x0F64_4E47 at W0x00:0x04, by a mailbox read of R283. -/
theorem test_reads_identity :
    goes (.mbRead .a 7 0x30000004 4) (mailing false) (fun t => (t.port .a).resp.data == [0x47, 0x4E, 0x64, 0x0F] &&
      (t.port .a).resp.seq == 7) = true := by decide +kernel

/-- R102: 63 lies outside 64 to 8,192, so the field stays and the event tells. -/
theorem test_fade_len_refused :
    goes (.fadeLenWrite .m0 0 63) w0 (fun t => (t.ch 0).fgk.fadeLen == 0x200 && t.evt.total == 1) = true := by decide +kernel

/-- R102: 8,192 lies within. -/
theorem test_fade_len_taken :
    goes (.fadeLenWrite .m0 0 8192) w0 (fun t => (t.ch 0).fgk.fadeLen == 8192 && t.evt.total == 0) = true := by decide +kernel

/-- R102: LAG 16 is taken and is not yet in force. -/
theorem test_lag_waits_for_reset :
    goes (.lagWrite .m4 16) w0 (fun t => t.mtb.lag == 16 && t.mtb.lagNow == 2) = true := by decide +kernel

/-- Table 4-7: ENABLE from OFF in RUN starts the ramp. -/
theorem test_enable : goes (.enable .m0 0) w0 (fun t => (t.ch 0).st == .rampUp && (t.ch 1).st == .off) = true := by
  decide +kernel

/-- Table 4-7: no row for ENABLE in UNBUILT, which leaves the channel. -/
theorem test_enable_unbuilt : goes (.enable .m0 0) (wd .unbuilt) (fun t => (t.ch 0).st == .off) = true := by decide +kernel

/-- Table 4-7: PLAY in RUN, from QUIET. -/
theorem test_play : goes (.play .m0 0) (wc .quiet) (fun t => (t.ch 0).st == .openLoop) = true := by decide +kernel

/-- Table 4-7: STOP of a ramping channel ramps it down. -/
theorem test_stop_ramp : goes (.stop .m0 0) (wc .rampUp) (fun t => (t.ch 0).st == .rampDown) = true := by decide +kernel

/-- R324: HALT turns every live channel OFF and names its cause. -/
theorem test_halt :
    goes (.halt .m0) (wc .openLoop) (fun t => t.dev.state == .halt && (t.ch 0).st == .off && t.dev.haltCause == .host) = true := by
  decide +kernel

/-- R324: a tripped channel stays tripped through HALT. -/
theorem test_halt_keeps_trips : goes (.halt .m0) (wc .tripped) (fun t => (t.ch 0).st == .tripped) = true := by decide +kernel

/-- R322: RUN has no row in BUILT (Table 12-4); the state stays and REFUSE tells code STATE. -/
theorem test_run_refused :
    goes (.run .m0) (wd .built) (fun t => t.dev.state == .built && t.dev.refuse != 0 && t.evt.total == 1) = true := by
  decide +kernel

/-- Table 12-4: RUN in ARMED. R323: a quiet channel of CH_MASK plays. -/
theorem test_run :
    goes (.run .m0) { wc .quiet with dev := { w0.dev with state := .armed } }
      (fun t => t.dev.state == .run && (t.ch 0).st == .openLoop) = true := by decide +kernel

/-- R32: the debug master has no write right. -/
theorem test_debug_is_denied :
    goes (.halt .m3) w0 (fun t => t.dev.state == .run && t.evt.total == 1) = true := by decide +kernel

/-- R337: clearing all flags leaves EVENT counts alone. -/
theorem test_clear_all :
    goes (.clrAll .m0) { w0 with evt := { w0.evt with flags := 5, total := 9 } } (fun t => t.evt.flags == 0 && t.evt.total == 9) = true := by
  decide +kernel

/-- R37: the mailbox may not change REMAP. -/
theorem test_matrix_remap_denied :
    goes (.sysMatrixWrite .m1 1) w0 (fun t => t.mx.remap == false && t.evt.total == 1) = true := by decide +kernel

/-- R37: PARK = 2 by the mailbox. -/
theorem test_matrix_park : goes (.sysMatrixWrite .m2 4) w0 (fun t => t.mx.park == 2 && t.evt.total == 0) = true := by decide +kernel

/-- R354: the first byte sets the pointer, the second is staged and the pointer advances. -/
theorem test_two_wire_stages :
    goes (.twpWriteByte 0x10) (twp fun t => { t with phase := .pointer }) (fun t => t.twp.pointer == 0x10 && t.twp.phase == .write) = true ∧
    goes (.twpWriteByte 0xAA) (twp fun t => { t with phase := .write, pointer := 0xFF })
      (fun t => t.twp.pointer == 0 && t.twp.staged == [(0xFF, 0xAA)]) = true := by decide +kernel

/-- R355: the byte staged for offset 0 becomes the window of the next transaction. -/
theorem test_two_wire_window :
    goes .twpStop (twp fun t => { t with phase := .write, staged := [(0, 0x0D)] }) (fun t => t.twp.window == 0x0D && t.twp.staged == []) = true := by
  decide +kernel

/-- R370: TRC_CTL.STOP ends a run without COMPLETE. -/
theorem test_trace_stop :
    goes (.trcStop .m0) (trc fun t => { t with state := .armed }) (fun t => t.trc.state == .idle && t.ram6.buf0.complete == false) = true := by
  decide +kernel

/-- R99, R92: a request on the idle graph with fading on starts with the pre-roll of the incoming bank. -/
theorem test_request_b : goes (.reqB .m0 0) grIdle (fun t => (t.ch 0).fg.phase == .preroll && (t.ch 0).fg.incoming) = true := by
  decide +kernel

/-- Table 10-1: lock is gained from LOCKING. -/
theorem test_lane_locked :
    goes (.laneLocked .a) (onA fun l => { l with lane := .locking, carrier := true, crcRun := 64 }) (fun t => (t.port .a).lane == .locked) = true := by decide +kernel

/-- R295: no fuse is touched by a power-on reset, and the block is held. -/
theorem test_power_on : goes .powerOnReset w0 (fun t => t.dev.held == .por && t.fuse == w0.fuse && t.bld.build == none) = true := by
  decide +kernel

/-- One of 32 samples beyond 60 V: the mean is that of the clipped samples, 60 V / 32, and OVL is set (R183, R184). -/
theorem test_clipped_mean : adcMean voltRange (9000000 :: List.replicate 31 0) = (245760, true) := by decide +kernel

/-- Eight limit acts in the last 16 modulation cycles are no short (R208). -/
theorem test_eight_acts : goes (.shortTrip 0)
    (wc .openLoop fun k => { k with stage := { k.stage with actCycles := List.replicate 8 true } })
    (fun t => (t.ch 0).st == .openLoop && (t.ch 0).keep.shorts == 0) = true := by decide +kernel

/-- A current below I_LIM is no limit act (R180). -/
theorem test_below_limit : goes (.currentLimit { chan := 0, leg := false, high := true, amps := 1, gap := 0, same := false }) (driven false)
    (fun t => (t.ch 0).stage.acts == ((driven false).ch 0).stage.acts) = true := by decide +kernel

/-- Of two loops pending on a model unit with one deadline, Table 4-5 serves the coil model before the die model (R113). -/
theorem test_coil_before_die :
    (let s := (wc .openLoop fun k => { k with cls := { k.cls with coil := { run := some (999900, 1000092), missDue := false } } }).modDie 0
        fun d => { d with cls := { run := some (999900, 1000092), missDue := false } }
     s.served (.coil 0) && ! s.served (.die 0)) = true := by decide +kernel

/-! ## Witnesses of the clauses that the statements about blocks, twins, resets and ports divide their cases into -/

theorem witness_TickBoundaryMovesOneTick_commit :
    w0.twp.flight = none ∧ ({ wTick 64 with m4Held := true } : TickIn).m4Held = true ∧
    (Instr.tickBoundary { wTick 64 with m4Held := true }).wf = true := by decide +kernel

theorem witness_MemoriesAndBlocksFail_twin :
    (let s := wj .openLoop
     s.hitBy (.slice 0) 2 = true ∧ (s.ch 2).st.playing = true ∧ s.joinedTwin 2 = true ∧ s.follows 2 = false) ∧
    ((wf .openLoop).hitBy (.slice 0) 2 = true ∧ (wf .openLoop).joinedTwin 2 = true ∧ (wf .openLoop).follows 2 = true) ∧
    ((wc .openLoop).joinedTwin 0 = false ∧ (wj .openLoop).swp.joined = true ∧ w0.swp.joined = false) := by decide +kernel

/-- PARK = 3 from a mailbox: with REMAP as it stands it is refused alone, with another REMAP from M0 the rest acts. -/
theorem witness_MatrixByteIsJudgedByItsWriter_park :
    ((0x06 : Byte).getLsbD 0 = w0.mx.remap ∧ ((0x06 : Byte) >>> 1).setWidth 2 = (3 : BitVec 2)) ∧
    ((0x07 : Byte).getLsbD 0 ≠ w0.mx.remap ∧ ((0x07 : Byte) >>> 1).setWidth 2 = (3 : BitVec 2)) := by decide +kernel

def patchBusyNow : State := loader .built (fun l => { l with patchCheck := true }) 8
def patchTooLong : State := loader .built (fun l => { l with patchOver := true }) 8

theorem witness_LoaderCommandsTakeEffect_patch :
    (patchBusyNow.bld.build.isSome = true ∧ patchBusyNow.dev.state = .built ∧ patchBusyNow.ldr.patchBusy = true) ∧
    (patchTooLong.bld.build.isSome = true ∧ patchTooLong.ldr.patchBusy = false ∧ patchTooLong.ldr.patchOver = true) ∧
    ¬ ((ldIdle .unbuilt).bld.build.isSome = true) := by decide +kernel

/-- VAUX left its range during a rollback write. -/
def rollingCut (full : Bool) : State := { rolling full with keeper := { (rolling full).keeper with vauxCut := true } }

theorem witness_LoadsEndInABuildOrACode_vaux :
    (rolling false).keeper.vauxCut = false ∧ (rollingCut false).keeper.vauxCut = true ∧
    ((rollingCut false).keeper.fuseBusy = true ∧ (rollingCut false).fuse.rb.all (fun r => r.used) = false) ∧
    (({ rolling false with pwr := { w0.pwr with vauxMv := 4749 } } : State).keeper.vauxCut = false) ∧
    ((rollingCut true).fuse.rb.all (fun r => r.used) = true) := by decide +kernel

theorem witness_SynchronisingResetAndSettings_held :
    w0.dev.held = .running ∧ State.reset.dev.held ≠ .running ∧ State.reset.swp.joined = false ∧ mayWrite .m3 = false := by
  decide +kernel

/-- CH2 is out of a joined pair and its partner drives. -/
def outTripped : State := wj .tripped fun k => { k with keep := { k.keep with tripCause := 3 } }

theorem witness_ChannelCommandsMoveTheChannel_out :
    (closable .quiet).mismatchBars 0 = false ∧ (tripped .armed).outHalf 0 = false ∧
    (let s : State := { outTripped with swp := { outTripped.swp with mismatch := 4 }, bld := { w0.bld with build := some (wBuild true) } }
     s.outHalf 2 = true ∧ s.clearable 2 = true ∧ s.joinedTwin 2 = false ∧ s.used 2 = true) := by decide +kernel

/-- A CLOSE of M0 meets CLOSED_LOOP, whose tick may still drop it, and waits. -/
def closing (l : List HeldCmd) : State := wc .closedLoop fun k => { k with loop := { k.loop with heldCmds := l } }

def heldClose : HeldCmd := { host := some (.m0, [0x10]), cmd := .close }

theorem witness_EachStateTakesItsOwnCommands_waits :
    ((closing []).used 0 = true ∧ (closing []).follows 0 = false ∧ (closing []).undecided 0 = true ∧
      ((closing []).ch 0).loop.heldCmds = [] ∧ (closing []).judge 0 .quiet = some .quiet) ∧
    (w0.undecided 0 = false ∧ w0.judge 0 .close = none ∧ w0.used 9 = false) ∧
    (let s := wc .openLoop fun k => { k with loop := { k.loop with paceFaultRun := 3 } }
     s.undecided 0 = true ∧ (s.ch 0).st = .openLoop) ∧
    (let s := wc .openLoop fun k => { k with prot := { k.prot with openRun := 4, blkCount := 1919 } }
     s.undecided 0 = true ∧ (s.ch 0).st.playing = true ∧ (s.ch 0).prot.openActed = false) ∧
    (let s := closing [heldClose]
     let u := s.modCh 0 fun c => { c with loop := { c.loop with heldCmds := [] } }
     (s.ch 0).loop.heldCmds = [{ host := some (.m0, [0x10]), cmd := .close }] ∧ u.follows 0 = false ∧ u.judge 0 .close = none) := by
  decide +kernel

/-- Nothing is due on the held CLOSE's channel, nor on a paced one once its decisions are taken, nor anywhere on a device at
rest. -/
theorem witness_EachStateTakesItsOwnCommands_settled :
    (let u := (closing [heldClose]).modCh 0 fun c => { c with loop := { c.loop with heldCmds := [] } }
     u.settle 0 = u) ∧ (closing []).settled 0 ∧ (paced.duePatch.settle 0).settled 0 := by
  refine ⟨(settled_of_nothing_due _ _ ?_ ?_ ?_ ?_ ?_ ?_).2, settled_of_nothing_due _ _ ?_ ?_ ?_ ?_ ?_ ?_,
    settled_of_nothing_due _ _ ?_ ?_ ?_ ?_ ?_ ?_⟩ <;> decide +kernel

theorem witness_DeviceCommandsMoveTheDevice_calm :
    (wd .built).settleAll = wd .built ∧ (wd .armed).settleAll = wd .armed ∧ w0.settleAll = w0 ∧ (closing []).settleAll = closing [] := by
  refine ⟨settleAll_of_nothing_due _ ?_ ?_ ?_, settleAll_of_nothing_due _ ?_ ?_ ?_, settleAll_of_nothing_due _ ?_ ?_ ?_,
    settleAll_of_nothing_due _ ?_ ?_ ?_⟩ <;> decide +kernel

theorem witness_DeviceCommandsMoveTheDevice_waits :
    ((closing []).dev.state = .run ∧ (closing []).dev.disarming = false ∧ ((closing []).ch 0).st.playing = true ∧
      (closing []).undecided 0 = true) ∧ ((wc .openLoop).undecided 0 = false ∧ ((wc .openLoop).ch 0).st.playing = true) ∧
    (let s := wc .off fun k => { k with loop := { k.loop with heldCmds := [heldClose] } }
     (s.ch 0).st = .off ∧ s.undecided 0 = true) ∧
    (w0.swp.playsPart = false ∧ ∀ n, (w0.ch n).ident.running = false ∧ (w0.ch n).ident.fitPending = false ∧ (w0.ch n).diag.cls = 0) := by
  decide +kernel

theorem witness_RampsEndInTheirState_reset : ((ramped .rampDown).ch 0).loop.resetPending = false := by decide +kernel

/-- CH0 closed in a spell of suspect sense that was reported before. -/
def reported : State :=
  wc .closedLoop fun k => { k with loop := { k.loop with suspect := true, lfReported := true } }

/-- CH0 tripped in this tick from CLOSED_LOOP, with a following error that would have been the fourth drop. -/
def lateDrop : State :=
  wc .tripped fun k => { k with
    loop := { k.loop with feDue := true, dropTimes := [999000, 998000, 997000] }
    keep := { k.keep with tripAt := 1000000, tripFrom := .closedLoop, tripCause := 9 } }

/-- CH0 closed with a sense that turned suspect in this tick, beside a following error of the tick before or without one. -/
def feedbackLost (fe was : Bool) : State :=
  wc .closedLoop fun k => { k with loop := { k.loop with suspect := true, feDue := fe, feSuspect := was } }

theorem witness_LoopOpensAndCloses_order :
    (((feedbackLost false false).ch 0).st = .closedLoop ∧ ((feedbackLost false false).ch 0).loop.dropSent = false ∧
      ((feedbackLost false false).ch 0).loop.feDue = false ∧ ((feedbackLost false false).ch 0).loop.suspect = true ∧
      ((feedbackLost false false).ch 0).loop.lfReported = false ∧ ((feedbackLost false false).ch 0).dropsMet w0.now = false) ∧
    (((feedbackLost true true).ch 0).loop.feDue = true ∧ ((feedbackLost true true).ch 0).loop.feSuspect = true ∧
      ((feedbackLost true false).ch 0).loop.feSuspect = false ∧ ((feedbackLost true true).ch 0).ident.running = false ∧
      ((feedbackLost true true).ch 0).dropsMet (w0.now - 1) = false) := by decide +kernel

theorem witness_LoopOpensAndCloses_late :
    ((reported.ch 0).st = .closedLoop ∧ (reported.ch 0).loop.dropSent = false ∧ (reported.ch 0).loop.suspect = true ∧
      (reported.ch 0).loop.lfReported = true ∧ (reported.ch 0).dropsMet reported.now = false) ∧
    ((lateDrop.ch 0).st = .tripped ∧ (lateDrop.ch 0).keep.tripAt = lateDrop.now ∧ (lateDrop.ch 0).keep.tripFrom = .closedLoop ∧
      (lateDrop.ch 0).dropsMet (lateDrop.now - 1) = true ∧ (lateDrop.ch 0).keep.tripCause.toNat ≠ causeDrops) := by decide +kernel

/-- A fit that completed waits for the boundary. -/
def fitDue (f : FitIn) : State :=
  let s := (fitting .quiet).modCh 0 fun k => { k with keep := { k.keep with fit := { k.keep.fit with resid := f.resid } } }
  { s with swp := { s.swp with fitQ := [(BitVec.ofNat 32 s.dev.tick, fitMsg 0 (fitCode (wCfg 1 true) f) f)] } }

theorem witness_IdentificationRuns_boundary :
    let f := wFit 0x3F800000
    let s := fitDue f
    s.cfg 0 = some (wCfg 1 true) ∧ (s.ch 0).ident.fitPending = true ∧ (s.ch 0).st ≠ .retry ∧ (s.ch 0).loop.runPlay = false ∧
    (s.ch 0).keep.fit.resid = f.resid ∧
    s.swp.fitQ = [(BitVec.ofNat 32 s.dev.tick, fitMsg 0 (fitCode (wCfg 1 true) f) f)] := by decide +kernel

/-- The last tick of a change of the mains source. -/
def mainsFading : State := { w0 with mtb := { w0.mtb with repFade := 1 } }

theorem witness_MainsSourceAndLearner_fade :
    mainsFading.mtb.repFade = 1 ∧ mainsFading.dev.held = .running ∧ mainsFading.twp.flight = none ∧ (wTick 64).wf = true := by
  decide +kernel

/-- CH0 ended a half-bridge in this modulation cycle. -/
def actedNow : State := (driven false).modCh 0 fun k => { k with stage := { k.stage with actCycles := [true] } }

theorem witness_StageReportsAndSettings_same :
    (actedNow.ch 0).stage.actCycles.head? = some true ∧ ((driven false).ch 0).stage.actCycles.head? ≠ some true := by decide +kernel

theorem witness_ShortsAndLoadChecks_twin :
    seriesDue.outHalf 0 = false ∧ (checked 32).mismatchBars 0 = false ∧ (muteEnd true).mismatchBars 0 = false := by decide +kernel

theorem witness_CommandsAndMutesAreCarried_active :
    ((wj .quiet).ch 2).fgk.active = false ∧ ((wj .quiet).ch 2).fgk.active ≠ true ∧ (mayWrite .m3 = false ∧ (wj .quiet).swp.joined = true) := by
  decide +kernel

theorem witness_DiagnosticsFollowTheLoad_report :
    ((diag .openLoop).ch 0).diag.rptDue = false ∧
    (let s := (diag .openLoop).modCh 0 fun k => { k with diag := { k.diag with rptDue := true } }
     (s.ch 0).diag.rptDue = true) := by decide +kernel

/-- The unlocked twin 5 ns or 5.1 ns out of phase, 2 s after its lane came up. -/
def phased (e : Int) : State :=
  let s := unlocked true
  { s with swp := { s.swp with tbErr := BitVec.ofInt 16 e, laneUpAt := 616000 } }

theorem witness_TwinsJoin_phase :
    (phased 50).swp.inPhase = true ∧ (phased (-50)).swp.inPhase = true ∧ (phased 51).swp.inPhase = false ∧
    (phased 0).swp.laneUpAt + 384000 ≤ (phased 0).now ∧
    ({ phased 0 with now := 999999 } : State).now < (phased 0).swp.laneUpAt + 384000 ∧ (wPlan false).twinMask = bitOf 2 := by
  decide +kernel

/-- A carried entry for CH2, due now, on the lead half or on the half that follows. -/
def carries (kind code origin : Nat) (rx : Bool) (s : State) : State :=
  { s with swp := { s.swp with applyQ := [(rx, { wEntry with
      kind := BitVec.ofNat 8 kind, code := BitVec.ofNat 8 code, origin := BitVec.ofNat 8 origin, apply := BitVec.ofNat 32 s.dev.tick })] } }

/-- That entry is the one that is due. -/
def isDue (s : State) (kind origin : Nat) : Bool :=
  match dueEntry s.dev.tick s.swp.applyQ with
  | some ((_, e), rest) => e.kind.toNat = kind && e.origin.toNat = origin && rest.isEmpty && e.mask = bitOf 2
  | none => false

theorem witness_CarriedCommandsApplyAtTheirTick_requests :
    isDue (carries 2 3 1 true (wj .quiet)) 2 1 = true ∧ isDue (carries 3 1 1 true (wj .quiet)) 3 1 = true ∧
    isDue (carries 6 0 1 true (wj .quiet)) 6 1 = true ∧ isDue (carries 7 0 1 true (wj .quiet)) 7 1 = true ∧
    ((wj .quiet).joinedTwin 2 = true ∧ (wj .quiet).follows 2 = false ∧ (wf .quiet).follows 2 = true) ∧
    ((wj .quiet).judge 2 .stop = some .rampDown ∧ (wj .quiet).judge 2 .enable = none) ∧
    ((wj .quiet).identOk 2 = true ∧ (wj .off).identOk 2 = false) ∧
    ((wj .quiet).cfg 2 = some (wCfg 1 true) ∧ ((wj .quiet).ch 2).fg.phase = .idle) ∧
    (let s := wj .rampUp fun k => { k with twin := { k.twin with partnerState := BitVec.ofNat 4 ChState.rampUp.code, partnerHiz := true } }
     isDue (carries 1 ChState.quiet.code 1 true s) 1 1 = true ∧ (s.ch 2).twin.partnerState.toNat = ChState.rampUp.code ∧
      (s.ch 2).twin.partnerHiz = true) := by decide +kernel

/-- CH2 fades for a mute of the twin, or is quiet and muted by it. -/
def twinMuted (f : FadeEnd) : State :=
  let s := wj .quiet fun k => { k with loop := { k.loop with fading := f } }
  { s with dev := { s.dev with twinMute := true } }

theorem witness_CarriedCommandsApplyAtTheirTick_entries :
    isDue (carries 3 1 0 true (wj .quiet)) 3 0 = true ∧ isDue (carries 3 0 0 false (wj .quiet)) 3 0 = true ∧
    ((wj .quiet).ch 2).fgk.active = false ∧
    (isDue (carries 4 0 0 true (wj .quiet)) 4 0 = true ∧ (wj .quiet).dev.held = .running) ∧
    (isDue (carries 5 1 0 true (wj .openLoop)) 5 0 = true ∧ (wj .openLoop).twinned 2 = true ∧ ((wj .openLoop).ch 2).st.playing = true ∧
      (wj .openLoop).twinned 0 = false) ∧
    (isDue (carries 5 0 0 true (twinMuted .mute)) 5 0 = true ∧ (twinMuted .mute).twinned 2 = true ∧
      ((twinMuted .mute).ch 2).loop.fading = .mute) ∧
    ((twinMuted .none).dev.muteResume = false ∧ (∀ n, ((twinMuted .none).ch n).st ≠ .retry) ∧
      (∀ n, ((twinMuted .none).ch n).loop.fading ≠ .mute)) ∧
    (isDue (carries 6 0 0 true (wj .quiet)) 6 0 = true ∧ ((wj .quiet).ch 2).loop.resetPending = false ∧ ((wj .quiet).ch 2).st = .quiet) ∧
    (isDue (carries 7 0 0 true (wj .quiet)) 7 0 = true ∧ ((wj .quiet).ch 2).ident.running = false) := by decide +kernel

theorem witness_TwinLossIsDecided_share :
    ((partnerOff 0).ch 2).twin.shareFaulted = false ∧
    (((partnerOff 0).modCh 2 fun k => { k with twin := { k.twin with shareFaulted := true } }).ch 2).twin.shareFaulted = true := by
  decide +kernel

/-- CH2 stands in QUIET, its fade of a rejoin over, and its partner is off. -/
def fadedOut (x : ChState) : State :=
  let s := wj x fun k => { k with twin := { k.twin with partnerState := 0 } }
  { s with swp := { s.swp with rejoin := s.swp.rejoin.set 2 (.fadeOut 999999) } }

theorem witness_FarewellAndRejoin_phases :
    ((rejoining .none 4).swp.rejoinMask = bitOf 2 ∧ ((rejoining .none 4).ch 2).st ≠ .off) ∧
    (let s := wj .off fun k => { k with twin := { k.twin with partnerState := 3 } }
     s.rejoinOk 2 = true ∧ (s.ch 2).st = .off ∧ s.swp.rejoin[2] = .none) ∧
    (let s : State := { w0 with swp := { w0.swp with rejoinMask := bitOf 0 } }
     s.swp.joined = false ∧ s.swp.rejoinMask = bitOf 0) ∧
    ((fadedOut .off).swp.rejoin[2] = .fadeOut 999999 ∧ ((fadedOut .off).ch 2).st.playing = false ∧ ((fadedOut .off).ch 2).st ≠ .quiet) ∧
    ((fadedOut .quiet).joinedTwin 2 = true ∧ ((fadedOut .quiet).ch 2).st = .quiet ∧ ((fadedOut .quiet).ch 2).loop.fading = .none ∧
      999999 ≤ (fadedOut .quiet).now ∧ ChState.ofCode ((fadedOut .quiet).ch 2).twin.partnerState.toNat = .off) ∧
    (returning.used 2 = true ∧ (returning.ch 2).loop.runPlay = false) ∧ (leaving ⟨true, 40, false⟩ 40).plan = some (wPlan false) := by
  decide +kernel

/-- The frame whose tag fails, as the sixteenth mark and as an earlier one. -/
theorem witness_BadFramesAreCountedAndDiscarded_auth :
    ({ (port (some strange) none 15).port .a with crcRun := ((port (some strange) none 15).port .a).crcRun + 1 } : LinkPort).auth
      (parseDown (plain 1 1).bytes) = .fails ∧
    16 ≤ (((true :: ((port (some strange) none 15).port .a).rejWin).take 1024).filter id).length := by decide +kernel

theorem witness_LanesFallAndPortsReset_carrier :
    ((w0.port .a).lane = .down ∧ (1 : BitVec 2).getLsbD Port.a.num = true ∧ w0.dev.gone.contains (.link .a) = false) ∧
    ((carried true none).port .a).carrier = true := by decide +kernel

/-- Port A in session, on a device whose keeper or journal has failed, or with a report under way. -/
def attesting (ok failed busy : Bool) : State :=
  let s := mailing false
  { s with
    keeper := { s.keeper with ok := ok }, jrn := { s.jrn with failed := failed }
    portA := { s.portA with attest := if busy then some 1 else none } }

theorem witness_MailboxRequestsTakeEffectOnce_cases :
    ((mailing false).port .a).lane ≠ .down ∧ (w0.port .a).lane = .down ∧ (onA fun l => { l with lane := .locked }).portA.session = none ∧
    (((mailing false).port .a).dropStale (mailing false).jrn).readout = false ∧
    (((mailing true).port .a).dropStale (mailing true).jrn).readout = true ∧
    (attesting false false false).keeper.ok = false ∧
    ((attesting true true false).keeper.ok = true ∧ (attesting true true false).jrn.failed = true) ∧
    ((attesting true false true).jrn.failed = false ∧ ((attesting true false true).port .a).attest ≠ none) ∧
    (let s : State := { mailing false with dev := { w0.dev with state := .built } }
     let w := s.busWrite Port.a.master 0x30000028 (slice [0x80] 0 1)
     w.2.1 = false ∧ w.1.dev.state = .standby ∧ w.1.dev.held = .running) := by decide +kernel

/-- The device is not in STANDBY, which is what the clauses about ports and registers ask. -/
theorem witness_standbyHeld :
    w0.standbyHeld ∧ (mailing false).standbyHeld ∧ (twp id).standbyHeld ∧ stood.standbyHeld ∧ (halted .host).standbyHeld ∧
    ((mailing false).busWrite Port.a.master 0x30000260 (slice [3] 0 1)).1.standbyHeld := by
  unfold State.standbyHeld; decide +kernel

theorem witness_EnrollmentBurnsTheOwnerKey_refused :
    (enrolling 196 id).win.enrollOpen ≠ some .m1 ∧ (enrolling 195 id).win.enrollBuf.length < 196 ∧
    (enrolling 196 fun w => { w with overflow := true }).win.overflow = true ∧
    (let s : State := { enrolling 0 fun w => { w with enrollCheck := some (.m0, [], 3) } with
        keeper := { w0.keeper with vauxCut := true }, pwr := { w0.pwr with vauxMv := 4749 } }
     s.keeper.vauxCut = true ∧ s.vauxRange = false ∧ s.keeper.failed = false) ∧
    ((true && (enrolling 0 id).vauxRange && ! (enrolling 0 id).keeper.vauxCut) = true) := by decide +kernel

theorem witness_DebugLockAndTestMode_refused :
    ({ lockable with keeper := { w0.keeper with failed := true } } : State).keeper.failed = true ∧
    (lockable.lockOk .m1 = true ∧ ({ lockable with win := SecWin.reset } : State).win.lockOpen ≠ some .m1) ∧ lockable.vauxRange = true ∧
    shipped.dev.held = .running ∧ shipped.dev.state = .built ∧
    ({ shipped with dev := { w0.dev with state := .halt } } : State).dev.state = .halt ∧ lockedDown.dbgLock = true ∧
    (lockable.port .a).session.isSome = true := by decide +kernel

/-- Undervoltage holds CH0 at the end of its ramp, or lets it retry. -/
def uvHeld : State := { held .rampUp with dev := { w0.dev with state := .armed } }

theorem witness_DeviceCommandsMoveTheDevice_cases :
    (let s : State := { wc .quiet with dev := { w0.dev with state := .armed } }
     s.mismatchBars 0 = false ∧ (s.ch 0).loop.fading ≠ .quiet) ∧
    (let s : State := { sweeping 7 with dev := { w0.dev with state := .armed } }
     s.used 0 = true ∧ (s.ch 0).st = .quiet ∧ (s.ch 0).ident.running = true ∧ s.kernelWhole = true) ∧
    (let s : State := { wc .rampUp with dev := { w0.dev with state := .armed } }
     (s.ch 0).st = .rampUp ∧ s.dev.disarming = false ∧ s.muted = false ∧ s.kernelWhole = true) ∧
    ((wc .retry).ch 0).st = .retry ∧ ((uvHeld.ch 0).st = .rampUp ∧ (uvHeld.ch 0).loop.uvHold = true) ∧ ((wc .rampDown).ch 0).st = .rampDown ∧
    ((halted .host).dev.held = .running ∧ (halted .host).standbyBusy = false) ∧
    (let s : State := { halted .host with ldr := { w0.ldr with patchCheck := true } }
     s.dev.state = .halt ∧ s.standbyBusy = true) ∧
    ((wd .armed).dev.state ≠ .unbuilt ∧ (wd .armed).dev.state ≠ .built ∧ (wd .armed).dev.state ≠ .halt) ∧
    ((0x03 : Byte) ≠ 0 ∧ ∀ i : Fin 8, (0x03 : Byte) ≠ 1#8 <<< i.val) ∧ w0.flx.injOn = false ∧ (wd .built).ldr.patchBusy = false := by
  decide +kernel

/-- CH0's reset waits for the end of its ramp. -/
def resetDown : State :=
  wc .rampDown fun k => { k with loop := { k.loop with resetPending := true }, stage := { k.stage with rampDone := true } }

theorem witness_ResetsClearWhatTheirRowSays_cases :
    ((wd .boot).dev.state = .boot ∧ w0.dev.state ≠ .boot) ∧ (stood.dev.state = .standby ∧ stood.pwr.vioOk = true) ∧
    stood.dev.held ≠ .running ∧ inMask w0.chMask 9 = false ∧
    ((resetDown.ch 0).loop.resetPending = true ∧ (resetDown.ch 0).st = .rampDown ∧ (resetDown.ch 0).stage.rampDone = true) ∧
    (let s := wc .rampUp fun k => { k with loop := { k.loop with resetPending := true, uvHold := true } }
     (s.ch 0).loop.resetPending = true ∧ (s.ch 0).st = .rampUp ∧ (s.ch 0).loop.uvHold = true) ∧
    (w0.keeper.fuseBusy = false ∧ w0.keeper.lockBusy = false ∧ w0.win.enrollCheck = none) ∧
    ((w0.ch 0).ident.running = false ∧ (w0.ch 0).ident.fitPending = false ∧ (w0.ch 0).diag.cls = 0) := by decide +kernel

/-- PVDD is back; CH2 is held here, and its partner may have played on. -/
def pvddBack (out : Bool) : State :=
  let s := wj .rampUp fun k => { k with loop := { k.loop with uvHold := true, uvResume := true }, twin := { k.twin with outHeld := out } }
  { s with pwr := { s.pwr with uv := true, pvddOk := false, outAt := 998080 } }

theorem witness_SuppliesHoldAndRecover_cases :
    ((pvddBack false).pwr.uv = true ∧ (pvddBack false).pwr.outAt + 1920 ≤ (pvddBack false).now) ∧
    ({ pvddBack false with now := 999999 } : State).now < (pvddBack false).pwr.outAt + 1920 ∧
    (((pvddBack true).ch 2).loop.uvHold = true ∧ ((pvddBack true).ch 2).twin.outHeld = true) ∧
    (((pvddBack false).ch 2).st = .rampUp ∧ ((pvddBack false).ch 2).loop.uvHold = true ∧ ((pvddBack false).ch 2).twin.outHeld = false) ∧
    (∀ n, (w0.ch n).loop.resetPending = false) ∧ ((wc .rampDown).ch 0).loop.resetPending = false ∧ w0.dev.muteRaw = false ∧
    ({ w0 with dev := { w0.dev with muteRaw := true } } : State).dev.muteRaw = true := by decide +kernel

/-- The journal takes an entry beside a gap, or has no room left. -/
theorem witness_JournalWritesAndReads_push :
    ((journal id).jrn.failed = false ∧ (journal id).jrn.queue.length + 1 ≤ 1024 ∧ (journal id).jrn.gap = 0) ∧
    (let j := (journal fun j => { j with gap := 3 }).jrn
     j.gap ≠ 0 ∧ j.queue.length + 2 ≤ 1024) ∧
    (let j := (journal fun j => { j with queue := List.replicate 1024 wJe }).jrn
     j.failed = false ∧ 1024 < j.queue.length + 1) ∧
    (let j := (journal fun j => { j with queue := [{ wJe with kind := 0x11 }] }).jrn
     j.queue = { wJe with kind := 0x11 } :: [] ∧ j.started = true ∧ j.failed = false) ∧ wJe.kind ≠ 0x11 := by decide +kernel

theorem witness_TwoWirePortServes_flight :
    (twp fun t => { t with mute := true }).twp.mute = true ∧
    (twp fun t => { t with flight := some (2, [(0, 5)]) }).twp.flight = some (2, [(0, 5)]) ∧
    ((twp id).twp.flight = none ∧ (twp id).twp.held = false ∧ (twp fun t => { t with held := true }).twp.held = true) ∧
    ((twp id).twpServes 2 = true ∧ (twp id).twpServes 0x0E = false) ∧ (twp id).takesPart = false ∧ alerting.takesPart = true ∧
    (waking.pwr.vioOk = true ∧ waking.twp.clocked = false ∧ waking.dev.held = .running) ∧
    ({ waking with pwr := Pwr.reset } : State).pwr.vioOk = false ∧ w0.dev.gone.contains .twoWire = false := by decide +kernel

/-- An injection into CH0, whose bridge drives. -/
def injecting (x : ChState) (fade : Option Nat) : State :=
  let s := wc x fun k => { k with stage := { k.stage with bridge := 1 } }
  { s with flx := { Flx.reset with injOn := true, injFade := fade } }

theorem witness_InjectionsAndCapturesRun_tick :
    ((injecting .quiet none).flx.injOn = true ∧ ((injecting .quiet none).ch (injecting .quiet none).flx.injCh).st = .quiet ∧
      ((injecting .quiet none).ch 0).stage.bridge ≠ 0 ∧ ((injecting .quiet none).ch 0).ident.running = false) ∧
    (((injecting .rampDown (some 2)).ch 0).stage.bridge ≠ 0 ∧ ((injecting .rampDown (some 2)).ch 0).st ≠ .quiet ∧
      ((injecting .rampDown (some 2)).ch 0).st.playing = false ∧ (injecting .rampDown (some 2)).flx.injFade = some 2) ∧
    (injecting .quiet (some 1)).flx.injFade = some 1 ∧ ((flx fun x => { x with injOn := true }).ch 0).stage.bridge = 0 ∧
    ({ Flx.reset with injSignal := 1, noise := [1, 2, 3, 4] } : Flx).noise = [1, 2, 3, 4] := by decide +kernel

theorem witness_CoefficientPagesLoad_asked :
    ((peek 0x100).coef[(0 : Fin 16)]).asked = 0x100 ∧ ((peek 0x100).coef[(0 : Fin 16)]).state = .loading := by decide +kernel

theorem witness_RegisterWritesAreTheirCommands_flight :
    (let s := twp fun t => { t with staged := [(0, 0x0E)] }
     s.twpRuns = true ∧ s.twp.staged = [(0, 0x0E)] ∧ s.twp.flight = none ∧ s.twp.held = false) := by decide +kernel


/-- The test-access port beside a pin reset, and with DBG_LOCK in force. -/
theorem witness_TickBoundaryMovesOneTick_tap :
    ({ State.reset with dev := { Dev.reset with held := .pin } } : State).dev.held = .pin ∧ w0.dbgLock = false ∧
    lockedDown.dbgLock = true ∧ (w0.twp.flight = none ∧ w0.twp.readDue = none) := by decide +kernel

/-- CH0 tripped in this tick from RETRY, its fit late. -/
def lateFit : State :=
  (fitLate .tripped).modCh 0 fun k => { k with keep := { k.keep with tripAt := 1000000, tripFrom := .retry, tripCause := 9 } }

theorem witness_DeadlineMissesFallBack_retry :
    (lateFit.slot (.ident 0)).missDue = true ∧ (lateFit.ch 0).ident.fitPending = true ∧ (lateFit.ch 0).st = .tripped ∧
    (lateFit.ch 0).keep.tripAt = lateFit.now ∧ (lateFit.ch 0).keep.tripFrom = .retry ∧
    (lateFit.ch 0).keep.tripCause.toNat ≠ causeIdent := by decide +kernel

theorem witness_LocalHighImpedanceEnds_core : Chan.die 0 = 0 ∧ (laneDeaf.die 0).hizLocal = true := by decide +kernel

/-- Five binary32 values of 1.0. -/
theorem witness_IdentificationRuns_point :
    (fitPoint (0x3F800000 * (2 ^ 128 + 2 ^ 96 + 2 ^ 64 + 2 ^ 32 + 1))).isSome = true ∧
    0x3F800000 * (2 ^ 128 + 2 ^ 96 + 2 ^ 64 + 2 ^ 32 + 1) < 2 ^ 160 := by decide +kernel

theorem witness_SynchronisingResetAndSettings_wider :
    w0.widerReset = false ∧ (∃ n, (resetDown.ch n).loop.resetPending = true) ∧ (wj .quiet).widerReset = false :=
  ⟨by decide +kernel, ⟨0, by decide +kernel⟩, by decide +kernel⟩

/-- The half of CH2 that a shutdown holds, that is out of one, or that ramps freely. -/
theorem witness_CarriedCommandsApply_held :
    (((pvddBack false).ch 2).st = .rampUp ∧ ((pvddBack false).ch 2).loop.uvHold = true) ∧
    ((pvddBack true).ch 2).twin.outHeld = true ∧ ((wj .quiet).ch 2).st ≠ .rampUp ∧
    (carriedOk .quiet .openLoop = true ∧ (wj .quiet).barred 2 .openLoop = false) := by decide +kernel

/-- The QUIET that tells a half in OFF of its rejoin. -/
theorem witness_CarriedCommandsApply_notice :
    (let s := carries 1 ChState.quiet.code 1 true (wf .off)
     isDue s 1 1 = true ∧ s.twinned 2 = true ∧ s.follows 2 = true ∧ (s.ch 2).st = .off ∧ s.swp.rejoin[2] = .none) ∧
    ((wf .quiet).ch 2).st ≠ .off := by decide +kernel

theorem witness_CarriedCommandsApply_release : isDue (carries 5 0 0 false (wj .quiet)) 5 0 = true := by decide +kernel

theorem witness_TwinLossIsDecided_lead : inMask (wj .quiet).swp.lead 2 = true := by decide +kernel

theorem witness_FarewellAndRejoin_vain :
    (let s := wj .off
     let t : State := { s with swp := { s.swp with rejoin := s.swp.rejoin.set 2 (.out 999999) } }
     t.swp.rejoin[2] = .out 999999 ∧ (t.ch 2).st = .off ∧ 999999 ≤ t.now) := by decide +kernel

theorem witness_ResetsClearWhatTheirRowSays_injection :
    (injecting .quiet none).flx.injOn = true ∧ (injecting .quiet none).dev.held = .running ∧ w0.flx.injOn = false := by decide +kernel

/-- A read phase of CH0's window while the matrix serves no burst of M4, or a commit is in flight. -/
def reading (h : Bool) (due : Option Bool) : State :=
  twp fun t => { t with phase := .read, window := 2, pointer := 0x20, held := h, readDue := due }

theorem witness_TwoWirePortServes_read :
    ((reading true none).twp.held = true ∧ (reading true none).twpNeedsBus = true ∧ (reading true none).twp.mute = false ∧
      (reading true none).twp.phase = .read) ∧
    ((reading false none).twp.flight = none ∧ (reading false none).twpServes (reading false none).twp.window.toNat = true ∧
      (reading false none).twp.snap = none ∧ (reading false none).twp.pointer ≠ 0 ∧
      (regAt ((reading false none).winRegs .m4 2) 0x20).isSome = true) ∧
    ((reading true (some true)).twp.readDue = some true ∧ (reading true (some true)).twp.phase = .read ∧ (wTick 64).wf = true ∧
      { wTick 64 with m4Held := true }.wf = true) := by decide +kernel

/-- Slot 3 of buffer 0, one sample long, is streamed. -/
def streaming (f : Trc → Trc) : State :=
  let b := { TrcBuf.reset with slots := (List.replicate 16 0).set 3 0x40, data := [List.replicate 16 7], count := 1 }
  { w0 with
    ram6 := w0.ram6.setBuf false b
    trc := f { Trc.reset with
      pinBusy := true, pinGap := 2, pinRead := some { buf := false, slots := [3], first := 0, next := 0, stop := 1 } } }

theorem witness_PinStreamRuns_blocks :
    (streaming fun t => { t with pinWait := 1 }).trc.pinWait = 0 + 1 ∧ (streaming id).trc.pinWait = 0 ∧
    ((streaming fun t => { t with pinRead := none }).trc.pinRead.bind (nextBlock (streaming id).ram6)) = none ∧
    (((streaming id).trc.pinRead.bind (nextBlock (streaming id).ram6)).isSome = true) ∧
    (match (streaming id).trc.pinRead.bind (nextBlock (streaming id).ram6) with
     | some (blk, _) => (pinNibbles blk).drop 28 != [] && decide (28 < (pinNibbles blk).length)
     | none => false) = true ∧
    (streaming fun t => { t with pinSent := 29, pinData := [5] }).trc.pinData = 5 :: [] ∧ lockedDown.dbgLock = true ∧
    w0.trc.pinBusy = false := by decide +kernel

/-! ## The test-access port (R405) -/

/-- An edge pair of TST_TCK. -/
def clock (l : List (Bool × Bool)) : List TapEdge := l.flatMap fun e => [.rise e.1 e.2, .fall]

/-- Five rising edges with TMS high reset the controller from any state. -/
theorem test_tap_resets : ∀ t ∈ [TapState.testLogicReset, .runTestIdle, .selectDr, .captureDr, .shiftDr, .exit1Dr, .pauseDr,
    .exit2Dr, .updateDr, .selectIr, .captureIr, .shiftIr, .exit1Ir, .pauseIr, .exit2Ir, .updateIr],
    ((clock (List.replicate 5 (true, false))).foldl Tap.edge { Tap.reset with state := t }).state = .testLogicReset := by decide

/-- With an instruction of all ones, the bypass register delays TST_TDI by one bit, and TST_TDO changes on falling edges
alone. -/
theorem test_tap_bypass :
    let t : Tap := { Tap.reset with state := .captureDr, inst := some [true, true] }
    let u := (clock [(false, false), (false, true), (false, false)]).foldl Tap.edge t
    u.state = .shiftDr ∧ u.tdo = some false ∧
      (u.edge (.rise false true)).tdo = some false ∧ ((clock [(false, true), (false, true)]).foldl Tap.edge t).tdo = some true := by decide

/-- TST_TCK edges that do not take turns, or are more than 20 MHz allows in a tick, make no tick. -/
theorem test_wf_tck :
    (Instr.tickBoundary { wTick 64 with tck := [.rise true true, .fall, .rise false false] }).wf = true ∧
    (Instr.tickBoundary { wTick 64 with tck := [.fall, .fall] }).wf = false ∧
    (Instr.tickBoundary { wTick 64 with tck := clock (List.replicate 105 (true, true)) }).wf = false ∧
    stops (.tickBoundary { wTick 64 with tck := [.fall, .fall] }) State.reset = true := by decide

end Sys2Proof.Tests
end

section
/-! PROOFS. The byte SYS_MATRIX, as R37 judges it by its writer, and the order of T0 that REMAP selects. -/

namespace Sys2Proof.Machine

variable {s : State} {m : Master} {v : Byte}

/-! ## What R37 says of a written byte -/

/-- PARK as a written byte of SYS_MATRIX carries it (Table 1-9). -/
def matrixPark (v : Byte) : BitVec 2 := (v >>> 1).setWidth 2

/-- The state with another REMAP. -/
def State.withRemap (s : State) (b : Bool) : State := { s with mx := { s.mx with remap := b } }

/-- The state with the fields of a byte of SYS_MATRIX, but for the park 3, which leaves PARK as it was (Table 1-9). -/
def State.withMatrix (s : State) (v : Byte) : State :=
  { s with mx := { s.mx with
      remap := v.getLsbD 0, park := if matrixPark v = 3 then s.mx.park else matrixPark v } }

/-- The writers whose byte of SYS_MATRIX is accepted (R37). -/
def State.takesMatrix (s : State) (m : Master) (v : Byte) : Prop :=
  m = .m0 ∨ ((m = .m1 ∨ m = .m2) ∧ v.getLsbD 0 = s.mx.remap)

theorem withMatrix_of_park_three (hp : matrixPark v = 3) : s.withMatrix v = s.withRemap (v.getLsbD 0) := by
  simp only [State.withMatrix, State.withRemap, if_pos hp]

theorem withRemap_same (h : v.getLsbD 0 = s.mx.remap) : s.withRemap (v.getLsbD 0) = s := by
  rw [h]; rfl

/-! ## The two halves of an accepted byte -/

/-- REMAP taken, with its entry where the park, being 3, makes none. -/
def State.takeRemap (s : State) (m : Master) (v : Byte) : State :=
  if matrixPark v = 3 && v.getLsbD 0 != s.mx.remap then (s.withRemap (v.getLsbD 0)).jotWrite m 0x00 0x10 [v] 0
  else s.withRemap (v.getLsbD 0)

/-- PARK taken with its entry, or refused with its event where it is 3. -/
def State.takePark (s : State) (m : Master) (v : Byte) : State :=
  if matrixPark v = 3 then s.raise Ev.parkRefused 0xFF 0
  else ({ s with mx := { s.mx with park := matrixPark v } }).jotWrite m 0x00 0x10 [v] 0

/-- The byte changes REMAP and leaves no park to take. -/
theorem remapAlone_iff : (matrixPark v = 3 && v.getLsbD 0 != s.mx.remap) = true ↔
    matrixPark v = 3 ∧ v.getLsbD 0 ≠ s.mx.remap := by
  rw [Bool.and_eq_true, decide_eq_true_eq, bne_iff_ne]

theorem takeRemap_of_same_remap (hr : v.getLsbD 0 = s.mx.remap) : s.takeRemap m v = s := by
  rw [State.takeRemap, if_neg fun h => (remapAlone_iff.mp h).2 hr, withRemap_same hr]

theorem takeRemap_of_park_ne_three (hp : matrixPark v ≠ 3) : s.takeRemap m v = s.withRemap (v.getLsbD 0) :=
  if_neg fun h => hp (remapAlone_iff.mp h).1

theorem takeRemap_of_remap_alone (hp : matrixPark v = 3) (hr : v.getLsbD 0 ≠ s.mx.remap) :
    s.takeRemap m v = (s.withMatrix v).jotWrite m 0x00 0x10 [v] 0 := by
  rw [withMatrix_of_park_three hp]
  exact if_pos (remapAlone_iff.mpr ⟨hp, hr⟩)

theorem takePark_of_three (hp : matrixPark v = 3) : s.takePark m v = s.raise Ev.parkRefused 0xFF 0 := if_pos hp

theorem takePark_of_ne_three (hp : matrixPark v ≠ 3) :
    (s.withRemap (v.getLsbD 0)).takePark m v = (s.withMatrix v).jotWrite m 0x00 0x10 [v] 0 := by
  simp only [State.takePark, State.withMatrix, if_neg hp, State.withRemap]

/-! ## The write, by its writer -/

/-- An accepted byte acts in its two halves; from a mailbox the REMAP that it carries is the one that stands. -/
theorem matrixWrite_of_takesMatrix (ha : s.takesMatrix m v) : s.matrixWrite m v = (s.takeRemap m v).takePark m v := by
  rcases ha with rfl | ⟨rfl | rfl, hr⟩
  · rfl
  · rw [takeRemap_of_same_remap hr]; exact if_pos hr
  · rw [takeRemap_of_same_remap hr]; exact if_pos hr

/-- Every other write is denied as a whole (R32). -/
theorem matrixWrite_of_not_takesMatrix (ha : ¬ s.takesMatrix m v) :
    s.matrixWrite m v = s.deny m 3 0x30000010 true := by
  cases m with
  | m0 => exact absurd (.inl rfl) ha
  | m1 => exact if_neg fun hr => ha (.inr ⟨.inl rfl, hr⟩)
  | m2 => exact if_neg fun hr => ha (.inr ⟨.inr rfl, hr⟩)
  | m3 | m4 | m5 | m6 => rfl

/-! ## The command SYS_MATRIX_WRITE -/

/-- What a command does is told by its state's silent part alone. -/
theorem Does.of_silent {c : Instr} {u u' : State} {evs : List (Nat × Nat × Nat)} {es : List JEntry}
    (h : Does c s u evs es) (hu : u.silent = u'.silent) : Does c s u' evs es := by
  obtain ⟨t, hx, ht, hr⟩ := h
  exact ⟨t, hx, ht.trans hu, hr⟩

theorem exec_sysMatrixWrite : exec (.sysMatrixWrite m v) s = .next (s.matrixWrite m v) := rfl

/-- A park that there is, is taken with REMAP and journalled. -/
theorem does_sysMatrixWrite_of_park_ne_three (ha : s.takesMatrix m v) (hp : matrixPark v ≠ 3) :
    Does (.sysMatrixWrite m v) s (s.withMatrix v) [] [s.writeEntry m 0x00 0x10 [v] 0 0] := by
  have hx : exec (.sysMatrixWrite m v) s = .next ((s.withMatrix v).jotWrite m 0x00 0x10 [v] 0) := by
    rw [exec_sysMatrixWrite, matrixWrite_of_takesMatrix ha, takeRemap_of_park_ne_three hp, takePark_of_ne_three hp]
  exact does_quietly hx rfl rfl rfl

/-- The park 3 with the REMAP that stands is refused by an event alone (R346). -/
theorem does_sysMatrixWrite_of_nothing_new (ha : s.takesMatrix m v) (hp : matrixPark v = 3)
    (hr : v.getLsbD 0 = s.mx.remap) :
    Does (.sysMatrixWrite m v) s (s.withMatrix v) [(Ev.parkRefused, 0xFF, 0)] [] := by
  have hx : exec (.sysMatrixWrite m v) s = .next (s.raise Ev.parkRefused 0xFF 0) := by
    rw [exec_sysMatrixWrite, matrixWrite_of_takesMatrix ha, takeRemap_of_same_remap hr, takePark_of_three hp]
  rw [withMatrix_of_park_three hp, withRemap_same hr]
  exact does_raise hx rfl rfl (by decide) (by decide) (by decide) (by decide)

/-- The park 3 with another REMAP, from M0 alone: REMAP is taken and journalled, the park is refused. -/
theorem does_sysMatrixWrite_of_remap_alone (ha : s.takesMatrix m v) (hp : matrixPark v = 3)
    (hr : v.getLsbD 0 ≠ s.mx.remap) :
    Does (.sysMatrixWrite m v) s (s.withMatrix v) [(Ev.parkRefused, 0xFF, 0)] [s.writeEntry m 0x00 0x10 [v] 0 0] := by
  have hx : exec (.sysMatrixWrite m v) s =
      .next (((s.withMatrix v).jotWrite m 0x00 0x10 [v] 0).raise Ev.parkRefused 0xFF 0) := by
    rw [exec_sysMatrixWrite, matrixWrite_of_takesMatrix ha, takeRemap_of_remap_alone hp hr, takePark_of_three hp]
  exact (does_raise hx rfl rfl (by decide) (by decide) (by decide) (by decide)).of_silent rfl

/-- An accepted byte sets REMAP and a park that there is; the park 3 raises its event; a change is journalled. -/
theorem does_sysMatrixWrite_of_takesMatrix (ha : s.takesMatrix m v) :
    Does (.sysMatrixWrite m v) s (s.withMatrix v)
      (if matrixPark v = 3 then [(Ev.parkRefused, 0xFF, 0)] else [])
      (if matrixPark v = 3 ∧ v.getLsbD 0 = s.mx.remap then [] else [s.writeEntry m 0x00 0x10 [v] 0 0]) := by
  by_cases hp : matrixPark v = 3
  · rw [if_pos hp]
    by_cases hr : v.getLsbD 0 = s.mx.remap
    · rw [if_pos ⟨hp, hr⟩]
      exact does_sysMatrixWrite_of_nothing_new ha hp hr
    · rw [if_neg fun h => hr h.2]
      exact does_sysMatrixWrite_of_remap_alone ha hp hr
  · rw [if_neg hp, if_neg fun h => hp h.1]
    exact does_sysMatrixWrite_of_park_ne_three ha hp

/-- A denied byte changes SYS_MXLOG alone, with its event and its entry (R32). -/
theorem does_sysMatrixWrite_of_not_takesMatrix (ha : ¬ s.takesMatrix m v) :
    Does (.sysMatrixWrite m v) s (s.mxLog m 3 1 0) [(Ev.accessDenied, 0xFF, 0)]
      [s.entry m.num 0x10 2 0 0xFF (mxData (s.mxLog m 3 1 0).pace 0x30000010)] := by
  have hx : exec (.sysMatrixWrite m v) s = .next ((s.mxLog m 3 1 0).jotRaise m.num 0x10 2 0 0xFF
      (mxData (s.mxLog m 3 1 0).pace 0x30000010) Ev.accessDenied 0xFF 0) := by
    rw [exec_sysMatrixWrite, matrixWrite_of_not_takesMatrix ha]; rfl
  exact does_jotRaise hx rfl rfl (by decide) (by decide) (by decide) (by decide)

/-! ## T0 and the boot -/

/-- Addresses below 0x20000 are those of T0. -/
theorem readByte_of_lt {a : Nat} (ha : a < 0x20000) : s.readByte m a = s.lowByte a := by
  have ht : targetOf a = 0 := if_pos ha
  simp only [State.readByte, ht]

/-- The half of T0 at address zero: the boot ROM until REMAP is set, then the working RAM. -/
theorem lowByte_of_lt {a : Nat} (ha : a < 0x10000) :
    s.lowByte a = if s.mx.remap then Mem.read s.ram a else Config.romByte a := by
  cases hr : s.mx.remap <;> simp [State.lowByte, ha, hr, Nat.mod_eq_of_lt ha]

/-- The other half of T0. -/
theorem lowByte_add_of_lt {a : Nat} (ha : a < 0x10000) :
    s.lowByte (a + 0x10000) = if s.mx.remap then Config.romByte a else Mem.read s.ram a := by
  cases hr : s.mx.remap <;> simp [State.lowByte, hr, Nat.mod_eq_of_lt ha]

/-- The end of a boot leaves REMAP set, whatever is journalled after it. -/
theorem bootOk_remap : s.bootOk.mx.remap = true := by
  simp [State.bootOk, State.jotDev, State.jotBoot]

/-- A boot under way that succeeds ends in `bootOk`. -/
theorem gives_bootComplete_ok (hh : s.dev.held = .running) (hb : s.dev.state = .boot) {P : State → Prop}
    (h : P s.bootOk) : Gives (.bootComplete .ok) s P := by
  have hx : execBootComplete .ok s = .next s.bootOk := by simp [execBootComplete, hh, hb]
  exact ⟨s.bootOk, hx, h⟩

/-- Settles O12: the write by its cases in R37, the halves of T0 by REMAP, and the end of the boot. -/
theorem matrixByteIsJudgedByItsWriter : Obligations.MatrixByteIsJudgedByItsWriter := by
  intro s m v
  refine ⟨does_sysMatrixWrite_of_takesMatrix, does_sysMatrixWrite_of_not_takesMatrix, fun a ha => ?_,
    fun hh hb => gives_bootComplete_ok hh hb bootOk_remap⟩
  rw [readByte_of_lt (by omega), readByte_of_lt (by omega), lowByte_of_lt ha, lowByte_add_of_lt ha]
  exact ⟨rfl, rfl⟩

end Sys2Proof.Machine
end

section
/-! PROOFS. A register write of one byte: the burst is one beat, which goes to the registers of its window
(R7, R32, R34). -/

namespace Sys2Proof.Machine

variable {s t : State} {m : Master} {w off : Nat}

theorem byMaster_of_right (h : regRight m w off = true) : s.byMaster m w off t = t := if_pos h

/-- The masters that the register rights name are kept from no register (R32). -/
theorem rightless_of_mayWrite (hm : mayWrite m = true) (w : Nat) (b : Beat) : rightless m w b = false := by
  simp [rightless, regRight_of_mayWrite hm]

theorem canWrite_regs_of_mayWrite (hm : mayWrite m = true) : canWrite m 3 = true := by
  revert hm; cases m <;> decide

/-- The register space lies in T3. -/
theorem targetOf_reg (hw : w < 256) (ho : off < 256) : targetOf (0x30000000 + 256 * w + off) = 3 := by
  simp only [targetOf]
  rw [if_neg (by omega), if_neg (by simp; omega), if_neg (by simp; omega), if_pos (by simp; omega)]

theorem lt_of_windowPresent (hp : windowPresent w = true) : w < 0x70 := by
  simp [windowPresent] at hp; omega

/-- A lone beat cannot cut the burst that it is (R38). -/
theorem busBeats_singleton (m : Master) (s : State) (wa : Nat) (l : List (Nat × Byte)) :
    State.busBeats m s [(wa, l)] = ((s.busBeat m wa l).1, (s.busBeat m wa l).2, false) := by
  cases h : resetsOwn m wa l <;> simp [State.busBeats, h]

/-- The registers wider than a beat stand in PWR, JRN and SWP (R34). -/
theorem wideBase_of_ge (hw : 7 ≤ w) (o : Nat) : wideBase w o = none := by
  simp [wideBase, show w ≠ 1 by omega, show w ≠ 3 by omega, show w ≠ 6 by omega]

/-- A beat that strobes all of a byte-wide register gives it its byte. -/
theorem merge_byte (off : Nat) (v : Byte) (base : Nat → Byte) : Beat.merge [(off, v)] off 1 base = v.toNat := by
  simp [Beat.merge, Beat.byte, leNat]

/-- A byte that the master may write is a burst of one beat. -/
theorem busWrite_byte {a : Nat} (hc : canWrite m (targetOf a) = true) (v : Byte) :
    (s.busWrite m a [v]).1 = (s.busBeat m (a / 4 * 4) [(a, v)]).1 := by
  have ha : withAddr a [v] = [(a, v)] := rfl
  have hb : beatsOf [(a, v)] = [(a / 4 * 4, [(a, v)])] := rfl
  simp [State.busWrite, ha, hc, hb, busBeats_singleton]

/-- A byte of the register space reaches its window at its offset. -/
theorem busBeat_byte (hw : w < 256) (ho : off < 256) (v : Byte) :
    (s.busBeat m ((0x30000000 + 256 * w + off) / 4 * 4) [(0x30000000 + 256 * w + off, v)]).1 =
      s.regBeat m w (off / 4 * 4) [(off, v)] := by
  have ha : (0x30000000 + 256 * w + off) / 4 * 4 = 0x30000000 + 256 * w + off / 4 * 4 := by omega
  have hwin : (0x30000000 + 256 * w + off / 4 * 4 - 0x30000000) / 256 = w := by omega
  have hal : (0x30000000 + 256 * w + off / 4 * 4) % 256 = off / 4 * 4 := by omega
  have hoff : (0x30000000 + 256 * w + off) % 256 = off := by omega
  simp only [State.busBeat, ha, targetOf_reg hw (show off / 4 * 4 < 256 by omega), hwin, hal, if_true, List.map, hoff]

/-- A beat of a window of narrow registers, by a master that has its rights, writes the registers that it touches. -/
theorem regBeat_of_narrow (hm : mayWrite m = true) (hp : windowPresent w = true) (hc : ¬ (0x60 ≤ w ∧ w < 0x70))
    (hn : wideBase w off = none) (b : Beat) : s.regBeat m w off b = s.applyWrites m w b (winWrites m w) := by
  simp [State.regBeat, hp, rightless_of_mayWrite hm, hc, hn]

theorem burstWf_byte (a : Nat) : burstWf a 1 = true := by
  simp [burstWf]; omega

/-- A command that leaves the device's state is followed by no STANDBY (R325). -/
theorem standbyAfter_of_dev (h : t.dev = s.dev) : s.standbyAfter t = t := by
  unfold State.standbyAfter State.standbyEnd
  by_cases hs : s.dev.state = .standby
  · rw [if_pos hs]
  · rw [if_neg hs, if_neg (by simp [h, hs])]

/-- One byte written to a window of narrow registers. -/
theorem exec_registerWrite_byte (hm : mayWrite m = true) (hp : windowPresent w = true) (hc : ¬ (0x60 ≤ w ∧ w < 0x70))
    (ho : off < 256) (hn : wideBase w (off / 4 * 4) = none) {a : BitVec 32} (ha : a.toNat = 0x30000000 + 256 * w + off)
    (v : Byte) : exec (.registerWrite m a [v]) s =
      .next (s.standbyAfter (s.applyWrites m w [(off, v)] (winWrites m w))) := by
  have hw : w < 256 := by have := lt_of_windowPresent hp; omega
  have hcan : canWrite m (targetOf (0x30000000 + 256 * w + off)) = true := by
    rw [targetOf_reg hw ho]; exact canWrite_regs_of_mayWrite hm
  have hx : exec (.registerWrite m a [v]) s = execRegisterWrite m a [v] s := rfl
  have hwf : burstWf (0x30000000 + 256 * w + off) [v].length = true := burstWf_byte _
  rw [hx, execRegisterWrite, ha, if_pos hwf, busWrite_byte hcan, busBeat_byte hw ho, regBeat_of_narrow hm hp hc hn]

theorem winWrites_ch (m : Master) (n : Chan) : winWrites m (0x10 + n.val) = State.wrCh m n := by
  have hn : 0x10 ≤ 0x10 + n.val ∧ 0x10 + n.val < 0x50 := by omega
  simp [winWrites, hn]

/-- One byte written to a channel's window. -/
theorem exec_registerWrite_chByte (hm : mayWrite m = true) (n : Chan) (ho : off < 256) (v : Byte) :
    exec (.registerWrite m (BitVec.ofNat 32 (0x30001000 + off + 256 * n.val)) [v]) s =
      .next (s.standbyAfter (s.applyWrites m (0x10 + n.val) [(off, v)] (State.wrCh m n))) := by
  rw [← winWrites_ch]
  refine exec_registerWrite_byte hm (by simp [windowPresent]; omega) (by omega) ho ?_ ?_ v
  · exact wideBase_of_ge (by omega) _
  · rw [BitVec.toNat_ofNat]; omega

end Sys2Proof.Machine
end

section
/-! PROOFS. A bank request, row by row of the table of R92. -/

namespace Sys2Proof.Machine

variable {s : State} {m : Master} {n : Chan} {bank : Bool} {src : Nat} {g : ChanCfg}

/-- A request goes without effect, with its event and its entry. -/
def State.refuseBank (s : State) (src : Nat) (n : Chan) (bank : Bool) : State :=
  s.jotRaise src 0x06 1 0 n.val (fgData bank (s.ch n).fgk) Ev.bankRequestRefused n.val 0

/-- The request that waits, in place of one that waited. -/
def State.latchBank (s : State) (n : Chan) (bank : Bool) : State :=
  s.modCh n fun k => { k with fgk := { k.fgk with latched := some bank } }

/-! ## The rows -/

theorem bankRequest_both : s.bankRequest src n true true = s.refuseBank src n true := rfl

theorem bankRequest_of_unfaded (h : ∀ g, s.cfg n = some g → g.dfn.fadeEn = false) :
    s.bankRequest src n (! bank) bank = s.refuseBank src n bank := by
  unfold State.bankRequest
  cases hg : s.cfg n with
  | none => simp [State.refuseBank]
  | some g => simp [State.refuseBank, h g hg]

section
variable (hg : s.cfg n = some g) (hf : g.dfn.fadeEn = true)
include hg hf

theorem bankRequest_of_idle_other (hi : (s.ch n).fg.phase = .idle) (ha : (s.ch n).fgk.active ≠ bank) :
    s.bankRequest src n (! bank) bank =
      (s.modCh n fun k => k.preroll g bank).jot src 0x06 0 0 n.val (fgData bank (s.ch n).fgk) := by
  simp [State.bankRequest, hg, hf, hi, ha]

theorem bankRequest_of_idle_active (hi : (s.ch n).fg.phase = .idle) (ha : (s.ch n).fgk.active = bank) :
    s.bankRequest src n (! bank) bank = s.jot src 0x06 5 0 n.val (fgData bank (s.ch n).fgk) := by
  simp [State.bankRequest, hg, hf, hi, ha]

theorem bankRequest_of_busy_first (hi : (s.ch n).fg.phase ≠ .idle) (hl : (s.ch n).fgk.latched = none) :
    s.bankRequest src n (! bank) bank =
      (s.latchBank n bank).jot src 0x06 3 0 n.val (fgData bank ((s.latchBank n bank).ch n).fgk) := by
  simp [State.bankRequest, State.latchBank, hg, hf, hi, hl]

theorem bankRequest_of_busy_again (hi : (s.ch n).fg.phase ≠ .idle) (hl : (s.ch n).fgk.latched ≠ none) :
    s.bankRequest src n (! bank) bank =
      (s.latchBank n bank).jotRaise src 0x06 4 0 n.val (fgData bank ((s.latchBank n bank).ch n).fgk)
        Ev.bankRequestReplaced n.val 0 := by
  have hs : (s.ch n).fgk.latched.isSome = true := Option.isSome_iff_ne_none.mpr hl
  simp [State.bankRequest, State.latchBank, hg, hf, hi, hs, State.jotRaise]

end

/-! ## The commands -/

theorem reqBank_of_untwinned (hj : s.joinedTwin n = false) (a b : Bool) :
    s.reqBank m n a b = s.bankRequest m.num n a b := by
  simp [State.reqBank, hj]

theorem reqBank_both : s.reqBank m n true true = s.refuseBank m.num n true := by
  simp [State.reqBank, bankRequest_both]

/-- The command of a request for a bank. -/
theorem exec_bankRequest {c : Instr} (hm : mayWrite m = true)
    (hc : (c = .reqA m n ∧ bank = false) ∨ (c = .reqB m n ∧ bank = true)) (hj : s.joinedTwin n = false) :
    exec c s = .next (s.bankRequest m.num n (! bank) bank) := by
  have hr := regRight_of_mayWrite hm (0x10 + n.val) 0x40
  rw [← reqBank_of_untwinned hj]
  rcases hc with ⟨rfl, rfl⟩ | ⟨rfl, rfl⟩
  · exact congrArg Host.Outcome.next (byMaster_of_right hr)
  · exact congrArg Host.Outcome.next (byMaster_of_right hr)

/-- Of a channel's registers a byte at 0x40 writes the request alone. -/
theorem applyWrites_request (v : Byte) (hv : v.toNat % 4 ≠ 0) :
    s.applyWrites m (0x10 + n.val) [(0x40, v)] (State.wrCh m n) =
      s.reqBank m n (v.toNat.testBit 0) (v.toNat.testBit 1) := by
  simp [State.applyWrites, State.wrCh, Beat.touches, merge_byte, hv]

theorem refuseBank_dev : (s.refuseBank src n bank).dev = s.dev := jotRaise_dev ..

/-- Both bits of CH_FG_REQ written at once are refused, twinned or not. -/
theorem exec_registerWrite_bothBanks (hm : mayWrite m = true) :
    exec (.registerWrite m (BitVec.ofNat 32 (0x30001040 + 256 * n.val)) [3]) s = .next (s.refuseBank m.num n true) := by
  have hb : s.applyWrites m (0x10 + n.val) [(0x40, 3)] (State.wrCh m n) = s.refuseBank m.num n true :=
    (applyWrites_request 3 (by decide)).trans reqBank_both
  have hx := exec_registerWrite_chByte (s := s) hm n (off := 0x40) (by decide) 3
  rw [hb, standbyAfter_of_dev refuseBank_dev] at hx
  exact hx

/-! ## What the commands do -/

theorem does_of_refuseBank {c : Instr} (hx : exec c s = .next (s.refuseBank m.num n bank)) :
    Does c s s [(Ev.bankRequestRefused, n.val, 0)] [s.entry m.num 0x06 1 0 n.val (fgData bank (s.ch n).fgk)] :=
  does_jotRaise hx rfl rfl (by decide) (by omega) (by decide) (by decide)

/-- A channel changed with an entry is a change of that channel alone. -/
theorem onlyChan_modCh_jot (f : Channel → Channel) (kind out code idx : Nat) (data : List Byte) :
    OnlyChan s ((s.modCh n f).jot src kind out code idx data) n :=
  ⟨rfl, fun _ hj => ch_modCh_ne s f hj⟩

/-- Settles O18, by the rows of the table of R92. -/
theorem bankRequestsFollowTheTable : Obligations.BankRequestsFollowTheTable := by
  intro s m n c bank hm hc
  have hx := exec_bankRequest (s := s) hm hc
  refine ⟨fun hj g hg hf hi => ⟨fun ha => ?other, fun ha => ?active⟩,
    fun hj g hg hf hi => ⟨fun hl => ?first, fun hl => ?again⟩,
    does_of_refuseBank (exec_registerWrite_bothBanks hm), fun hj hu => ?unfaded⟩
  case other =>
    rw [bankRequest_of_idle_other hg hf hi ha] at hx
    have hch := ch_modCh_same s n fun k => k.preroll g bank
    refine ⟨_, hx hj, onlyChan_modCh_jot .., Raises.same rfl, rfl, ?_⟩
    simp only [State.ch, jot_chans] at hch ⊢
    rw [hch]
    exact ⟨rfl, rfl, rfl, rfl, rfl, rfl, rfl⟩
  case active =>
    rw [bankRequest_of_idle_active hg hf hi ha] at hx
    exact does_quietly (hx hj) rfl rfl rfl
  case first =>
    rw [bankRequest_of_busy_first hg hf hi hl] at hx
    exact does_quietly (hx hj) rfl rfl rfl
  case again =>
    rw [bankRequest_of_busy_again hg hf hi hl] at hx
    exact does_jotRaise (hx hj) rfl rfl (by decide) (by omega) (by decide) (by decide)
  case unfaded =>
    rw [bankRequest_of_unfaded hu] at hx
    exact does_of_refuseBank (hx hj)

end Sys2Proof.Machine
end

section
/-! PROOFS. Synchronising resets, the end of acquisition, FADE_LEN and LAG. -/

namespace Sys2Proof.Machine

variable {s : State} {m : Master}

/-! ## The condition of R333 -/

theorem widerReset_iff : s.widerReset = true ↔ s.dev.held ≠ .running ∨ ∃ n, (s.ch n).loop.resetPending = true := by
  simp [State.widerReset, allChans]

/-- MTB_TRK_CTL is one of the registers that no rule keeps from M3 (R32). -/
theorem regRight_trkCtl (hm : mayWrite m = true ∨ m = .m3) : regRight m 0x0C 0x20 = true := by
  rcases hm with h | rfl
  · exact regRight_of_mayWrite h ..
  · rfl

/-! ## What a synchronising reset leaves -/

/-- The rate that a synchronising reset tracks from: that of the active port, or the one in force (R98). -/
def State.syncRate (s : State) : BitVec 3 := s.link.active.elim s.mtb.rate fun p => (s.port p).rate

/-- The state that a synchronising reset leaves, before its reports (R98, R99). -/
def State.synced (s : State) : State :=
  { s with
    stm := { Streams.reset with wide := true, ratio := nominalRatio s.syncRate.toNat, newest := s.stm.newest }
    mtb := { s.mtb with rate := s.syncRate, lagNow := s.mtb.lag }
    link := { s.link with arrOffset := 0 }
    chans := vmap (fun k => k.endFade.settle true) s.chans }

theorem syncRate_of_active {p : Port} (h : s.link.active = some p) : s.syncRate = (s.port p).rate := by
  simp [State.syncRate, h]

theorem syncRate_of_no_port (h : s.link.active = none) : s.syncRate = s.mtb.rate := by
  simp [State.syncRate, h]

theorem vmap_getElem {α β : Type} {k : Nat} (f : α → β) (v : Vector α k) (i : Fin k) : (vmap f v)[i] = f v[i] := by
  simp [vmap]

theorem ch_synced (n : Chan) : s.synced.ch n = (s.ch n).endFade.settle true := vmap_getElem ..

/-- The settle of a channel clears its graph; a swap under way ends with its incoming bank (R98, R99). -/
theorem endFade_settle (k : Channel) : k.endFade.settle true =
    { k with
      fg := { ChFg.reset with phase := .settle, waitStart := true, len := k.fgk.settle.toNat }
      fgk := { k.fgk with
        active := if k.fg.phase = .preroll ∨ k.fg.phase = .fade then k.fg.incoming else k.fgk.active } } := by
  unfold Channel.endFade
  by_cases h : k.fg.phase = .preroll ∨ k.fg.phase = .fade
  · rw [if_pos (by simpa using h), if_pos h]; rfl
  · rw [if_neg (by simpa using h), if_neg h]; rfl

theorem syncReset_of_not_wider (h : s.widerReset = false) (src trigger : Nat) : s.syncReset src trigger =
    s.synced.jotRaise src 0x07 0 trigger 0xFF [BitVec.ofNat 8 trigger] Ev.synchronisingReset 0xFF 0 := by
  unfold State.syncReset
  rw [if_neg (by simp [h])]
  cases ha : s.link.active <;> simp [State.synced, State.syncRate, ha] <;> rfl

/-! ## The command SYNC_RESET -/

/-- The byte that the command writes: LAG as it is, with the trigger. -/
def State.syncByte (s : State) : Byte := ((s.mtb.lag.setWidth 8 : Byte) <<< 1) ||| 1

theorem exec_syncReset (hm : mayWrite m = true ∨ m = .m3) : exec (.syncReset m) s = .next (s.syncWrite m [s.syncByte]) :=
  congrArg Host.Outcome.next (byMaster_of_right (regRight_trkCtl hm))

theorem syncWrite_of_wider (h : s.widerReset = true) (bs : List Byte) : s.syncWrite m bs = s := if_pos h

theorem syncWrite_of_not_joined (hw : s.widerReset = false) (hj : s.swp.joined = false) (bs : List Byte) :
    s.syncWrite m bs =
      (s.jotWrite m 0x0C 0x20 bs 0).synced.jotRaise m.num 0x07 0 0 0xFF [0] Ev.synchronisingReset 0xFF 0 := by
  have hu : (s.jotWrite m 0x0C 0x20 bs 0).widerReset = false := hw
  rw [State.syncWrite, if_neg (by simp [hw]), State.syncTrigger, if_pos (by simp [hj]), syncReset_of_not_wider hu]
  rfl

/-- A reset that is not wider than another clears, restarts and settles, and is journalled after its write. -/
theorem gives_syncReset (hm : mayWrite m = true ∨ m = .m3) (hw : s.widerReset = false) (hj : s.swp.joined = false)
    {P : State → Prop}
    (h : P ((s.jotWrite m 0x0C 0x20 [s.syncByte] 0).synced.jotRaise m.num 0x07 0 0 0xFF [0] Ev.synchronisingReset 0xFF 0)) :
    Gives (.syncReset m) s P :=
  ⟨_, (exec_syncReset hm).trans (congrArg Host.Outcome.next (syncWrite_of_not_joined hw hj _)), h⟩

/-! ## Settings -/

theorem exec_trackerAcquisitionEnd (hw : s.stm.wide = true) (ht : 4096 ≤ s.stm.acqTicks) :
    exec .trackerAcquisitionEnd s = .next { s with stm := { s.stm with wide := false, locked := true } } := by
  have hx : exec .trackerAcquisitionEnd s = execTrackerAcquisitionEnd s := rfl
  rw [hx, execTrackerAcquisitionEnd, if_pos (by simp [hw, ht])]

theorem exec_fadeLenWrite (hm : mayWrite m = true) (n : Chan) (v : BitVec 16) :
    exec (.fadeLenWrite m n v) s = .next (s.fadeLenWrite m n v) :=
  congrArg Host.Outcome.next (byMaster_of_right (regRight_of_mayWrite hm ..))

theorem fadeLenWrite_of_unused {n : Chan} (hu : s.used n = false) (v : BitVec 16) : s.fadeLenWrite m n v = s := by
  simp [State.fadeLenWrite, hu]

theorem fadeLenWrite_of_refused {n : Chan} {v : BitVec 16} (hu : s.used n = true)
    (hv : v.toNat % 16384 < 64 ∨ 8192 < v.toNat % 16384) :
    s.fadeLenWrite m n v = s.raise Ev.fadeLengthRefused n.val 0 := by
  simp [State.fadeLenWrite, hu, hv]

/-- FADE_LEN is the low fourteen bits of its register (Table 3-7). -/
theorem ofNat_mod_eq_setWidth (v : BitVec 16) : BitVec.ofNat 14 (v.toNat % 16384) = v.setWidth 14 := by
  apply BitVec.eq_of_toNat_eq
  simp

theorem fadeLenWrite_of_taken {n : Chan} {v : BitVec 16} (hu : s.used n = true) (hlo : 64 ≤ v.toNat % 16384)
    (hhi : v.toNat % 16384 ≤ 8192) : s.fadeLenWrite m n v =
      (s.modCh n fun k => { k with fgk := { k.fgk with fadeLen := v.setWidth 14 } }).jotWrite m (0x10 + n.val) 0x42
        (leBytes 2 v.toNat) 0 := by
  simp [State.fadeLenWrite, hu, hlo, hhi, ofNat_mod_eq_setWidth]

theorem exec_lagWrite (hm : mayWrite m = true ∨ m = .m3) (v : BitVec 5) :
    exec (.lagWrite m v) s = .next (s.lagWrite m v [(v.setWidth 8 : Byte) <<< 1]) :=
  congrArg Host.Outcome.next (byMaster_of_right (regRight_trkCtl hm))

theorem lagWrite_of_taken {v : BitVec 5} (hlo : 1 ≤ v.toNat) (hhi : v.toNat ≤ 16) (bs : List Byte) :
    s.lagWrite m v bs = ({ s with mtb := { s.mtb with lag := v } } : State).jotWrite m 0x0C 0x20 bs 0 := by
  have h0 : ¬ (v = 0 ∨ 16 < v.toNat) := by
    rintro (rfl | h)
    · exact absurd hlo (by decide)
    · omega
  exact if_neg (by simpa using h0)

theorem lagWrite_of_refused {v : BitVec 5} (hv : v.toNat = 0 ∨ 16 < v.toNat) (bs : List Byte) :
    s.lagWrite m v bs = s.raise Ev.lagRefused 0xFF 0 := by
  have h0 : v = 0 ∨ 16 < v.toNat := hv.imp_left fun h => BitVec.eq_of_toNat_eq h
  exact if_pos (by simpa using h0)

/-- Settles O20: the reset where none is wider, its absence where one is, and the settings by their ranges. -/
theorem synchronisingResetAndSettings : Obligations.SynchronisingResetAndSettings := by
  intro s m hm
  refine ⟨fun hj hw => ?reset, fun hw ht => does_quietly (exec_trackerAcquisitionEnd hw ht) rfl rfl rfl,
    fun hw => ?wider, fun n v hm hu => ⟨fun hlo hhi => ?taken, fun hv => ?refused⟩, fun n v hm hu => ?unused,
    fun v => ⟨fun hlo hhi => ?lag, fun hv => ?lagRefused⟩⟩
  case reset =>
    rw [← widerReset_iff, Bool.not_eq_true] at hw
    refine gives_syncReset hm hw hj ?_
    simp only [State.ch, jotRaise_stm, jotRaise_mtb, jotRaise_chans, jotRaise_silent, jotRaise_jrn]
    refine ⟨rfl, rfl, fun p hp => syncRate_of_active hp, syncRate_of_no_port, fun n => ?_,
      jotRaise_raises _ _ _ _ _ _ _ _ _ _ rfl (by decide), rfl, rfl⟩
    have hch := ch_synced (s := s.jotWrite m 0x0C 0x20 [s.syncByte] 0) n
    rw [endFade_settle] at hch
    simp only [State.ch] at hch
    rw [hch]
    exact ⟨rfl, rfl, rfl, rfl, rfl, rfl, rfl, rfl⟩
  case wider => rw [exec_syncReset hm, syncWrite_of_wider (widerReset_iff.mpr hw)]
  case taken =>
    have hx := exec_fadeLenWrite (s := s) hm n v
    rw [fadeLenWrite_of_taken hu hlo hhi] at hx
    exact does_quietly hx rfl rfl rfl
  case refused =>
    have hx := exec_fadeLenWrite (s := s) hm n v
    rw [fadeLenWrite_of_refused hu hv] at hx
    exact does_raise hx rfl rfl (by decide) (by omega) (by decide) (by decide)
  case unused => rw [exec_fadeLenWrite hm, fadeLenWrite_of_unused hu]
  case lag =>
    have hx := exec_lagWrite (s := s) hm v
    rw [lagWrite_of_taken hlo hhi] at hx
    exact does_quietly hx rfl rfl rfl
  case lagRefused =>
    have hx := exec_lagWrite (s := s) hm v
    rw [lagWrite_of_refused hv] at hx
    exact does_raise hx rfl rfl (by decide) (by decide) (by decide) (by decide)

end Sys2Proof.Machine
end

section
/-! PROOFS. Flags and masks: a map of the 256 sources by its bytes, the flags that a clear takes, the masks that a
write changes, and ANSWERED (R337, R339, R362). -/

namespace Sys2Proof.Machine

variable {s : State} {m : Master}

/-! ## A byte of a map of the 256 sources -/

/-- A byte moved to group g stands in the bits of that group alone. -/
theorem shifted_byte_get (v : Byte) (g : Nat) (j : Fin 256) :
    (v.setWidth 256 <<< (8 * g)).getLsbD j.val = (decide (j.val / 8 = g) && v.getLsbD (j.val % 8)) := by
  rw [BitVec.getLsbD_shiftLeft, BitVec.getLsbD_setWidth]
  by_cases hlo : j.val < 8 * g
  · have hg : j.val / 8 ≠ g := by omega
    simp [hlo, hg]
  · by_cases hg : j.val / 8 = g
    · have hr : j.val - 8 * g = j.val % 8 := by omega
      have h256 : j.val % 8 < 256 := by omega
      simp [hlo, hg, hr, h256]
    · have hhi : 8 ≤ j.val - 8 * g := by omega
      simp [hlo, hg, BitVec.getLsbD_of_ge v _ hhi]

/-- A byte replaced in a map is that byte in its group, and the map elsewhere. -/
theorem setGroup_get (x : BitVec 256) (g : Nat) (v : Byte) (j : Fin 256) :
    (setGroup x g v).getLsbD j.val = if j.val / 8 = g then v.getLsbD (j.val % 8) else x.getLsbD j.val := by
  have hff : (0xFF#256 : BitVec 256) = (BitVec.allOnes 8).setWidth 256 := by decide
  have hone : (BitVec.allOnes 8).getLsbD (j.val % 8) = true := by
    rw [BitVec.getLsbD_allOnes]; exact decide_eq_true (Nat.mod_lt _ (by decide))
  rw [setGroup, hff, BitVec.getLsbD_or, BitVec.getLsbD_and, BitVec.getLsbD_not, shifted_byte_get, shifted_byte_get, hone]
  by_cases hg : j.val / 8 = g
  · simp [hg]
  · simp [hg]

/-! ## Clears (R337) -/

/-- A clear takes the flags of its mask but those raised in the running tick. -/
theorem clearFlags_get (mask : BitVec 256) (j : Fin 256) : (s.clearFlags mask).evt.flags.getLsbD j.val =
    (s.evt.flags.getLsbD j.val && ! (mask.getLsbD j.val && ! s.evt.raised.getLsbD j.val)) := by
  simp [State.clearFlags]

theorem clearFlags_frame (mask : BitVec 256) :
    s.clearFlags mask = { s with evt := { s.evt with flags := (s.clearFlags mask).evt.flags } } := rfl

theorem clearFlags_dev (mask : BitVec 256) : (s.clearFlags mask).dev = s.dev := rfl

theorem clearFlags_all : s.clearFlags (BitVec.allOnes 256) =
    { s with evt := { s.evt with flags := s.evt.flags &&& s.evt.raised } } := by
  have hall : ~~~(BitVec.allOnes 256 &&& ~~~s.evt.raised) = s.evt.raised := by
    rw [BitVec.allOnes_and, BitVec.not_not]
  rw [State.clearFlags, hall]

theorem exec_clrAll (hm : mayWrite m = true) :
    exec (.clrAll m) s = .next (s.clearFlags (BitVec.allOnes 256)) := if_pos hm

/-! ## A beat and the registers that it touches -/

theorem applyWrites_append (w : Nat) (b : Beat) (l l' : List RegWr) :
    s.applyWrites m w b (l ++ l') = (s.applyWrites m w b l).applyWrites m w b l' := by
  induction l generalizing s with
  | nil => rfl
  | cons r l ih => simp only [List.cons_append, State.applyWrites, ih]

theorem applyWrites_of_untouched (w : Nat) {b : Beat} {l : List RegWr} (h : ∀ r ∈ l, b.touches r.off r.n = false) :
    s.applyWrites m w b l = s := by
  induction l with
  | nil => rfl
  | cons r l ih =>
    have hr : b.touches r.off r.n = false := h r List.mem_cons_self
    simp [State.applyWrites, hr, ih fun r' hr' => h r' (List.mem_cons_of_mem _ hr')]

theorem touches_byte (off o : Nat) (v : Byte) : Beat.touches [(off, v)] o 1 = decide (o = off) := by
  rw [Bool.eq_iff_iff]
  simp [Beat.touches]
  omega

/-- The rows of a map's byte-wide registers, which stand one after another from `base`. -/
def byteRows (base : Nat) (act : Fin 32 → State → Nat → State) (l : List (Fin 32)) : List RegWr :=
  l.map fun g => ⟨base + g.val, 1, false, act g⟩

variable {base : Nat} {act : Fin 32 → State → Nat → State}

theorem byteRows_untouched (w : Nat) {off : Nat} {l : List (Fin 32)} (v : Byte) (h : ∀ g ∈ l, base + g.val ≠ off) :
    s.applyWrites m w [(off, v)] (byteRows base act l) = s := by
  refine applyWrites_of_untouched w fun r hr => ?_
  obtain ⟨g, hg, rfl⟩ := List.mem_map.mp hr
  simp [touches_byte, h g hg]

/-- A byte written to one register of a map writes that register alone. -/
theorem byteRows_write (w : Nat) (g : Fin 32) (v : Byte) :
    s.applyWrites m w [(base + g.val, v)] (byteRows base act (List.finRange 32)) = act g s v.toNat := by
  obtain ⟨l, l', hl⟩ := List.append_of_mem (List.mem_finRange g)
  have hnd : (l ++ g :: l').Nodup := hl ▸ List.nodup_finRange 32
  obtain ⟨-, hnd', hdis⟩ := List.nodup_append.mp hnd
  have hbefore : ∀ i ∈ l, base + i.val ≠ base + g.val := fun i hi he =>
    hdis i hi g List.mem_cons_self (Fin.ext (Nat.add_left_cancel he))
  have hafter : ∀ i ∈ l', base + i.val ≠ base + g.val := fun i hi he =>
    (List.nodup_cons.mp hnd').1 (Fin.ext (Nat.add_left_cancel he) ▸ hi)
  have hsplit : byteRows base act (l ++ g :: l') =
      byteRows base act l ++ [⟨base + g.val, 1, false, act g⟩] ++ byteRows base act l' := by simp [byteRows]
  rw [hl, hsplit, applyWrites_append, applyWrites_append, byteRows_untouched w v hbefore,
    byteRows_untouched w v hafter]
  simp [State.applyWrites, touches_byte, merge_byte]

/-- Window 2 holds EVT_CTL, EVT_HIST_IDX, and the three maps of the sources a byte at a time. -/
theorem winWrites_evt : winWrites m 2 = (State.wrEvt m).take 2 ++
    byteRows 0x20 (fun g s v => s.clearFlags (BitVec.ofNat 256 (v % 256) <<< (8 * g.val))) (List.finRange 32) ++
    byteRows 0x40 (fun g s v => s.maskWrite m false g (byteV v)) (List.finRange 32) ++
    byteRows 0x60 (fun g s v => s.maskWrite m true g (byteV v)) (List.finRange 32) := rfl

/-- The register EVT_FLAG_g clears the flags of its group that its byte names. -/
theorem applyWrites_flagByte (g : Fin 32) (v : Byte) :
    s.applyWrites m 2 [(0x20 + g.val, v)] (winWrites m 2) = s.clearFlags (v.setWidth 256 <<< (8 * g.val)) := by
  have hctl : ∀ r ∈ (State.wrEvt m).take 2, Beat.touches [(0x20 + g.val, v)] r.off r.n = false := by
    simp [State.wrEvt, touches_byte]; omega
  have hv : BitVec.ofNat 256 (v.toNat % 256) = v.setWidth 256 := by
    rw [Nat.mod_eq_of_lt v.isLt, BitVec.ofNat_toNat]
  rw [winWrites_evt, applyWrites_append, applyWrites_append, applyWrites_append, applyWrites_of_untouched 2 hctl,
    byteRows_write, byteRows_untouched 2 v fun i _ => by omega, byteRows_untouched 2 v fun i _ => by omega, hv]

theorem exec_registerWrite_flagByte (hm : mayWrite m = true) (g : Fin 32) (v : Byte) :
    exec (.registerWrite m (BitVec.ofNat 32 (0x30000220 + g.val)) [v]) s =
      .next (s.clearFlags (v.setWidth 256 <<< (8 * g.val))) := by
  have ha : (BitVec.ofNat 32 (0x30000220 + g.val)).toNat = 0x30000000 + 256 * 2 + (0x20 + g.val) := by
    rw [BitVec.toNat_ofNat]; omega
  have hx := exec_registerWrite_byte (s := s) hm (w := 2) (by decide) (by decide) (by omega) rfl ha v
  rwa [applyWrites_flagByte, standbyAfter_of_dev (clearFlags_dev _)] at hx

/-! ## Masks (R339) and ANSWERED (R362) -/

theorem exec_evtMaskWrite (hm : mayWrite m = true) (upstream : Bool) (g : Fin 32) (v : Byte) :
    exec (.evtMaskWrite m upstream g v) s = .next (s.maskWrite m upstream g v) := if_pos hm

theorem notAlertResponse_get (j : Fin 256) :
    notAlertResponse.getLsbD j.val = decide (j.val ≠ Ev.alertResponse) := by
  rw [notAlertResponse, BitVec.getLsbD_not, bit_get _ _ j.isLt]
  simp

theorem eq_zero_iff_get (x : BitVec 256) : x = 0 ↔ ∀ j : Fin 256, x.getLsbD j.val = false := by
  refine ⟨fun h j => by simp [h], fun h => BitVec.eq_of_getLsbD_eq fun i hi => ?_⟩
  simpa using h ⟨i, hi⟩

/-- ANSWERED outlives a new alert mask that makes no flag alerting but that of the alert-response source. -/
theorem loadAmask_answered (x : BitVec 256) : (s.loadAmask x).twp.answered = true ↔
    s.twp.answered = true ∧ ∀ j : Fin 256, j.val ≠ Ev.alertResponse → s.evt.flags.getLsbD j.val = true →
      x.getLsbD j.val = false → s.evt.amask.getLsbD j.val = false := by
  simp only [State.loadAmask, State.alerting, Bool.and_eq_true, decide_eq_true_eq, eq_zero_iff_get]
  refine and_congr_right fun _ => forall_congr' fun j => ?_
  simp only [BitVec.getLsbD_and, BitVec.getLsbD_not, notAlertResponse_get, j.isLt]
  cases s.evt.flags.getLsbD j.val with
  | false => simp
  | true =>
    cases x.getLsbD j.val with
    | true => simp
    | false => cases s.evt.amask.getLsbD j.val <;> simp

/-- Settles O53: the flags bit by bit under an occurrence, the two clears and a reset, and the masks with ANSWERED. -/
theorem flagsAndMasksChangeAlone : Obligations.FlagsAndMasksChangeAlone := by
  intro s m hm
  refine ⟨fun src idx arg q h => ?occurrence, ?all, fun g v => ⟨_, exec_registerWrite_flagByte hm g v, fun j => ?byte,
    clearFlags_frame _⟩, ⟨_, rfl, rfl⟩, fun g v => ⟨_, exec_evtMaskWrite hm true g v, ?umask, rfl⟩,
    fun g v => ⟨_, exec_evtMaskWrite hm false g v, ?amask, ?answered, rfl⟩⟩
  case occurrence =>
    obtain ⟨hset, -, -⟩ := raise_raises s src idx arg q h ⟨src, h⟩
    exact hset List.mem_cons_self
  case all => rw [exec_clrAll hm, clearFlags_all]
  case byte => rw [clearFlags_get, shifted_byte_get]
  case umask => exact setGroup_get s.evt.umask g.val v
  case amask => exact setGroup_get s.evt.amask g.val v
  case answered => exact loadAmask_answered _

end Sys2Proof.Machine
end

section
/-! PROOFS. INJ_GO on a mismatched channel of a joined pair: R374 refuses it by TWIN_MASK and SWP_SOLO alone, and a mismatch
(R244) does not lift the refusal. -/

namespace Sys2Proof.Machine

variable {s : State} {m : Master}

/-! ## INJ_GO by the REASON of R374 -/

theorem exec_injGo (hm : mayWrite m = true) : exec (.injGo m) s = .next (s.injGo m) :=
  congrArg Host.Outcome.next (if_pos (regRight_of_mayWrite hm 0x0B 0x04))

/-- A refused INJ_GO starts and ends no injection. -/
theorem injGo_injOn_of_refused (h : s.injBad ≠ 0) : (s.injGo m).flx.injOn = s.flx.injOn := by
  by_cases hl : s.injBad = 3 <;> simp [State.injGo, State.jot, h, hl]

/-- Case 5 of R374 judges a channel by TWIN_MASK and SWP_SOLO of a joined pair; SWP_MISMATCH has no part in it. -/
theorem injBad_of_twin_without_solo (hl : s.dbgLock = false) (hu : s.used s.flx.chan = true) (hi : s.flx.injOn = false)
    (hd : s.dev.state = .armed ∨ s.dev.state = .run)
    (hq : (s.ch s.flx.chan).st = .quiet ∨ (s.ch s.flx.chan).st.playing = true) (hm : s.muted = false)
    (hr : (s.ch s.flx.chan).ident.running = false) (hg : s.flx.signal ≠ 3) (hj : s.swp.joined = true)
    (ht : s.twinned s.flx.chan = true) (hs : inMask s.swp.solo s.flx.chan = false) : s.injBad = 2 := by
  have hdev : (s.dev.state != .armed && s.dev.state != .run) = false := by
    rcases hd with hd | hd <;> rw [hd] <;> rfl
  have hst : (! (decide ((s.ch s.flx.chan).st = .quiet) || (s.ch s.flx.chan).st.playing)) = false := by
    rcases hq with hq | hq <;> simp [hq]
  simpa [State.injBad, hl, hu, hi, hdev, hst, hm, hr, hj, ht, hs] using hg

/-- A mismatched channel counts as none of the pair's (R244). -/
theorem joinedTwin_of_mismatch {n : Chan} (h : inMask s.swp.mismatch n = true) : s.joinedTwin n = false := by
  simp [State.joinedTwin, h]

/-! ## A joined pair whose channel 0 is mismatched -/

/-- A loudspeaker of 4 ohm (Table 2-11). -/
def fourOhm : Model :=
  { kind := 1, re := 0x40800000, le := 0x3A03126F, bl := 0x40A00000, mms := 0x3C23D70A, kms := 0x447A0000,
    rms := 0x3F800000, xlim := 0x3BA3D70A, fb := 0 }

/-- A channel of one input at unity gain, with empty lists in both banks. -/
def oneInput : ChanCfg :=
  { dfn := { law := 1, fadeEn := true, firFade := false, sectMax := 4, fir := none, firShadow := none, phase := 0,
             inputs := [(0, 0x20000000)] }
    bankA := ⟨[], []⟩, bankB := ⟨[], []⟩, law := [], model := fourOhm, table := none, prot := [], diag := []
    imgModel := fourOhm, imgTable := none }

/-- A build of channel 0 alone, which is twinned and led by this device, the TB leader. -/
def twinBuild : Build :=
  { claim := { chMask := 1, streams := 1, fir := 0, models := 1, ptables := 0, ripple := 3, xtal := false, sections := 0 }
    streams := [(0, 0)], chans := (Vector.replicate 64 none).set 0 (some oneInput)
    twin := some { twinMask := 1, leadMask := 1, pairId := 7, tbFollower := false }
    policy := none, bench := false, rollback := 0, id := 1, digest := 2 }

/-- A device in RUN, joined, whose channel 0 stands in QUIET and is mismatched; FLX_CFG is that of a reset but for CH 0. -/
def mismatchedPair : State :=
  State.modCh
    { State.reset with
      dev := { Dev.reset with held := .running, state := .run }
      bld := { Bld.reset with build := some twinBuild }
      swp := { Twin.reset with laneUp := true, tbLock := true, joined := true, lead := 1, mismatch := 1 } }
    0 fun k => { k with st := .quiet }

theorem mismatchedPair_used : mismatchedPair.used mismatchedPair.flx.chan = true := rfl

theorem mismatchedPair_quiet : (mismatchedPair.ch mismatchedPair.flx.chan).st = .quiet := rfl

theorem mismatchedPair_mismatch : inMask mismatchedPair.swp.mismatch mismatchedPair.flx.chan = true := by decide

/-- INJ_GO on the mismatched channel is refused with TWIN (R374). -/
theorem mismatchedPair_injBad : mismatchedPair.injBad = 2 :=
  injBad_of_twin_without_solo rfl mismatchedPair_used rfl (.inr rfl) (.inl mismatchedPair_quiet) rfl rfl (by decide) rfl
    (by decide) (by decide)

/-- Refutes O57: its first clause counts a mismatched channel of a joined pair as none of the pair's and has INJ_GO accepted on
it, where R374 and the model refuse the write with TWIN, for CH is in TWIN_MASK and its bit in SWP_SOLO is 0. -/
theorem not_injectionsAndCapturesRun : ¬ Obligations.InjectionsAndCapturesRun := by
  intro h
  obtain ⟨haccepted, -⟩ := h mismatchedPair .m0 rfl
  obtain ⟨t, hx, hflx, -⟩ := haccepted rfl mismatchedPair_used rfl
    ⟨.inr rfl, .inl mismatchedPair_quiet, rfl, rfl, by decide⟩ (.inl (joinedTwin_of_mismatch mismatchedPair_mismatch))
    (.inl (by decide))
  have hon : t.flx.injOn = true := by rw [hflx]
  have hoff : (mismatchedPair.injGo .m0).flx.injOn = false :=
    injGo_injOn_of_refused (by rw [mismatchedPair_injBad]; decide)
  have ht : mismatchedPair.injGo .m0 = t := Host.Outcome.next.inj ((exec_injGo rfl).symm.trans hx)
  rw [ht, hon] at hoff
  exact Bool.noConfusion hoff

end Sys2Proof.Machine
end

section
/-! PROOFS. The coefficient peek: what a write of COEF_SEL loads, which page or code a selector gives, and the context
that a capture leaves (R388 to R391). -/

namespace Sys2Proof.Machine

variable {s : State} {m : Master} {q : Fin 16} {sel : BitVec 32} {b : Build}

/-! ## The contexts -/

/-- The state with one context changed. -/
def State.setCoef (s : State) (q : Fin 16) (c : Coef) : State := { s with coef := s.coef.set q.val c }

theorem setCoef_same (c : Coef) : (s.setCoef q c).coef[q] = c := by simp [State.setCoef]

theorem setCoef_ne (c : Coef) {j : Fin 16} (h : j ≠ q) : (s.setCoef q c).coef[j] = s.coef[j] := by
  have hv : q.val ≠ j.val := fun e => h (Fin.ext e.symm)
  simp [State.setCoef, hv]

theorem setCoef_frame (c : Coef) : s.setCoef q c = { s with coef := (s.setCoef q c).coef } := rfl

/-! ## A write of the whole of COEF_SEL (R388) -/

/-- The context as a write of its whole selector leaves it. -/
def Coef.load (c : Coef) (v : BitVec 32) : Coef :=
  { c with sel := v &&& selMask, asked := v &&& selMask, state := .loading, code := 0, count := 0, words := [] }

theorem exec_coefSelWrite (hm : mayWrite m = true) (v : BitVec 32) :
    exec (.coefSelWrite m q v) s = .next (s.setCoef q ((s.coef[q]).load v)) := if_pos hm

/-! ## The page of a selector (R391) -/

theorem pageCap_le (kind : Nat) : pageCap kind ≤ 60 := by
  unfold pageCap; split_ifs <;> decide

/-- A page holds no more items than its kind's capacity. -/
theorem page_ok_le {n : Nat} {w : List (BitVec 32)} (h : s.page sel = .ok (n, w)) : n ≤ 60 := by
  have hcap := pageCap_le (selKind sel)
  unfold State.page at h
  split at h
  · cases h
  · dsimp only at h
    split at h
    · cases h
    · split at h
      · cases h
      · simp only [Except.ok.injEq, Prod.mk.injEq] at h
        rw [← h.1, List.length_take]
        omega

theorem page_of_no_build (hb : s.bld.build = none) : s.page sel = .error 1 := by
  simp [State.page, hb]

section
variable (hb : s.bld.build = some b)
include hb

theorem page_of_no_kind (hk : selKind sel = 0 ∨ 10 < selKind sel) : s.page sel = .error 2 := by
  simp [State.page, hb, hk]

theorem page_of_streams_end (hk : selKind sel = 10) (hi : b.streams.length ≤ selIndex sel) :
    s.page sel = .error 5 := by
  simp [State.page, hb, hk, hi]

section
variable (hlo : 1 ≤ selKind sel) (hhi : selKind sel ≤ 9)
include hlo hhi

theorem page_of_unused (hu : s.used (selChan sel) = false) : s.page sel = .error 3 := by
  have hc : s.cfg (selChan sel) = none := by simpa [State.used] using hu
  have hk : ¬ (selKind sel = 0 ∨ 10 < selKind sel) := by omega
  have hs : selKind sel ≠ 10 := by omega
  simp [State.page, hb, hc, hk, hs]

variable {c : ChanCfg} (hc : s.cfg (selChan sel) = some c)
include hc

theorem page_of_no_object
    (ho : chanItems b.streams c (s.ch (selChan sel)).issue.table (selKind sel) (selBank sel) = none) :
    s.page sel = .error 4 := by
  have hk : ¬ (selKind sel = 0 ∨ 10 < selKind sel) := by omega
  have hs : selKind sel ≠ 10 := by omega
  simp [State.page, hb, hc, hk, hs, ho]

theorem page_of_items_end {l : List (List (BitVec 32))}
    (ho : chanItems b.streams c (s.ch (selChan sel)).issue.table (selKind sel) (selBank sel) = some l)
    (hi : l.length ≤ selIndex sel) : s.page sel = .error 5 := by
  have hk : ¬ (selKind sel = 0 ∨ 10 < selKind sel) := by omega
  have hs : selKind sel ≠ 10 := by omega
  simp [State.page, hb, hc, hk, hs, ho, hi]

end
end

/-! ## The capture (R389) -/

/-- The context as a capture at a tick leaves it, with the page or the code of its selector. -/
def Coef.capture (c : Coef) (tick : Nat) : Except (BitVec 8) (Nat × List (BitVec 32)) → Coef
  | .ok (n, w) =>
    { c with tick := BitVec.ofNat 32 tick, state := .valid, code := 0, count := BitVec.ofNat 8 n, words := w }
  | .error e => { c with tick := BitVec.ofNat 32 tick, state := .error, code := e, count := 0, words := [] }

variable {c : Coef} {tick : Nat} (r : Except (BitVec 8) (Nat × List (BitVec 32)))

theorem capture_sel : (c.capture tick r).sel = c.sel := by cases r <;> rfl
theorem capture_asked : (c.capture tick r).asked = c.asked := by cases r <;> rfl
theorem capture_tick : (c.capture tick r).tick = BitVec.ofNat 32 tick := by cases r <;> rfl

theorem exec_coefPageCapture (h : (s.coef[q]).state = .loading) : exec (.coefPageCapture q) s =
    .next (s.setCoef q ((s.coef[q]).capture s.dev.tick (s.page (s.coef[q]).asked))) := by
  have hx : exec (.coefPageCapture q) s = execCoefPageCapture q s := rfl
  rw [hx, execCoefPageCapture, if_pos h]
  dsimp only
  cases s.page (s.coef[q]).asked <;> rfl

/-- Settles O58: the write's context, and the capture by the page or the code of R391 that the selector gives. -/
theorem coefficientPagesLoad : Obligations.CoefficientPagesLoad := by
  intro s q
  refine ⟨fun m v hm => ⟨_, exec_coefSelWrite hm v, setCoef_frame _, fun j hj => setCoef_ne _ hj, setCoef_same _⟩,
    fun hl => ⟨_, exec_coefPageCapture hl, setCoef_frame _, fun j hj => setCoef_ne _ hj, ?_⟩⟩
  rw [setCoef_same]
  refine ⟨capture_sel _, capture_asked _, capture_tick _, fun n w hp => ?page, fun e he => ?code⟩
  case page =>
    rw [hp]
    exact ⟨rfl, rfl, rfl, page_ok_le hp⟩
  case code =>
    have hp : s.page (s.coef[q]).asked = .error e := by
      rcases he with ⟨b, hb, hk, hi, rfl⟩ | ⟨b, c, hb, hlo, hhi, hc, ⟨ho, rfl⟩ | ⟨l, ho, hi, rfl⟩⟩ | ⟨hb, rfl⟩ |
        ⟨hb, hk, rfl⟩ | ⟨hb, hlo, hhi, hu, rfl⟩
      · exact page_of_streams_end hb hk hi
      · exact page_of_no_object hb hlo hhi hc ho
      · exact page_of_items_end hb hlo hhi hc ho hi
      · exact page_of_no_build hb
      · obtain ⟨b, hb⟩ := Option.isSome_iff_exists.mp hb
        exact page_of_no_kind hb hk
      · obtain ⟨b, hb⟩ := Option.isSome_iff_exists.mp hb
        exact page_of_unused hb hlo hhi hu
    rw [hp]
    exact ⟨rfl, rfl, rfl, rfl⟩

end Sys2Proof.Machine
end

section
/-! PROOFS. What the operations on channels, patches, loads, traces and injections leave of the device's own state: all
of it. -/

namespace Sys2Proof.Machine

variable (s : State)

/-! ## Passes -/

theorem foldl_dev {α : Type} {f : State → α → State} (hf : ∀ s a, (f s a).dev = s.dev) (l : List α) :
    (l.foldl f s).dev = s.dev := by
  induction l generalizing s with
  | nil => rfl
  | cons a l ih => rw [List.foldl_cons, ih, hf]

theorem overChans_dev {f : State → Chan → State} (hf : ∀ s n, (f s n).dev = s.dev) (p : State → Chan → Bool) :
    (s.overChans p f).dev = s.dev := by
  refine foldl_dev s (fun u n => ?_) _
  split
  · exact hf u n
  · rfl

/-! ## Entries of the channels, moves and commands -/

@[simp] theorem jotCh_dev (src : Nat) (n : Chan) (old new : ChState) (out code : Nat) :
    (s.jotCh src n old new out code).dev = s.dev := rfl

@[simp] theorem carry_dev (kind code origin cause : Nat) (mask : BitVec 64) :
    (s.carry kind code origin cause mask).dev = s.dev := rfl

@[simp] theorem raiseLast_dev (src idx arg : Nat) : (s.raiseLast src idx arg).dev = s.dev := raise_dev ..

theorem raiseFor_dev {f : State → State} (hf : ∀ s, (f s).dev = s.dev) (src idx arg : Nat) :
    (s.raiseFor src idx arg f).dev = s.dev := (hf _).trans (raise_dev ..)

@[simp] theorem abortIdent_dev (n : Chan) : (s.abortIdent n).dev = s.dev := by
  unfold State.abortIdent; dsimp only; split <;> simp

@[simp] theorem abortSweep_dev (n : Chan) : (s.abortSweep n).dev = s.dev := by
  unfold State.abortSweep; split <;> simp

@[simp] theorem moveTo_dev (src : Nat) (jot : Bool) (n : Chan) (new : ChState) (cause : Nat) :
    (s.moveTo src jot n new cause).dev = s.dev := by
  unfold State.moveTo; dsimp only; split_ifs <;> simp

@[simp] theorem decide_dev (src : Nat) (jot : Bool) (n : Chan) (new : ChState) (cause : Nat) :
    (s.decide src jot n new cause).dev = s.dev := by
  unfold State.decide; split_ifs <;> simp

@[simp] theorem refuseCmd_dev (o : Origin) (n : Chan) : (s.refuseCmd o n).dev = s.dev := by
  cases o <;> simp [State.refuseCmd]

@[simp] theorem command_dev (o : Origin) (k : ChCmd) (n : Chan) : (s.command o k n).dev = s.dev := by
  unfold State.command; dsimp only
  split
  · cases o <;> simp
  · split
    · simp
    · cases o <;> dsimp only <;> split_ifs <;> simp

/-! ## Trips, drops and reports -/

@[simp] theorem trip_dev (src : Nat) (n : Chan) (cause : Nat) : (s.trip src n cause).dev = s.dev := by
  unfold State.trip; dsimp only
  split
  · split_ifs <;> simp
  · split <;> simp
  · simp

@[simp] theorem engineTrip_dev (n : Chan) (cause : Nat) : (s.engineTrip n cause).dev = s.dev := by
  unfold State.engineTrip; split_ifs <;> simp

@[simp] theorem faultDrop_dev (n : Chan) (cause t : Nat) : (s.faultDrop n cause t).dev = s.dev := by
  unfold State.faultDrop; dsimp only; split_ifs <;> simp

@[simp] theorem checkFails_dev (n : Chan) (cause : Nat) : (s.checkFails n cause).dev = s.dev := by
  unfold State.checkFails; dsimp only; split_ifs <;> simp

@[simp] theorem retryFailed_dev (n : Chan) : (s.retryFailed n).dev = s.dev := by
  unfold State.retryFailed; dsimp only; split_ifs <;> simp

@[simp] theorem checkFailed_dev (n : Chan) (cause : Nat) : (s.checkFailed n cause).dev = s.dev := by
  unfold State.checkFailed; dsimp only; split_ifs <;> simp

@[simp] theorem paceReport_dev (n : Chan) : (s.paceReport n).dev = s.dev := by
  unfold State.paceReport; dsimp only; split_ifs <;> simp

@[simp] theorem openReport_dev (n : Chan) : (s.openReport n).dev = s.dev := by
  unfold State.openReport; dsimp only
  split
  · split_ifs <;> simp
  · rfl

@[simp] theorem feReport_dev (n : Chan) : (s.feReport n).dev = s.dev := by
  unfold State.feReport; dsimp only
  split
  · exact raiseFor_dev _ (fun u => faultDrop_dev u ..) ..
  · rfl

@[simp] theorem lfActs_dev (n : Chan) (k : Channel) : (s.lfActs n k).dev = s.dev := by
  unfold State.lfActs; split <;> simp

@[simp] theorem lfReport_dev (n : Chan) : (s.lfReport n).dev = s.dev := by
  unfold State.lfReport; dsimp only; split_ifs <;> simp

@[simp] theorem settle_dev (n : Chan) : (s.settle n).dev = s.dev := by simp [State.settle]

/-! ## Loads and patches -/

@[simp] theorem refuseBld_dev (patch : Bool) (src code : Nat) (at_ : BitVec 32) (digest : BitVec 128)
    (data : List Byte) : (s.refuseBld patch src code at_ digest data).dev = s.dev := by simp [State.refuseBld]

@[simp] theorem cutLoad_dev (src code : Nat) : (s.cutLoad src code).dev = s.dev := by
  unfold State.cutLoad; split <;> simp [State.endLoad]

@[simp] theorem cutPatch_dev (src code : Nat) : (s.cutPatch src code).dev = s.dev := by
  unfold State.cutPatch; split <;> simp

@[simp] theorem modCfg_dev (n : Chan) (f : ChanCfg → ChanCfg) : (s.modCfg n f).dev = s.dev := by
  unfold State.modCfg; split <;> rfl

@[simp] theorem setClass_dev (n : Chan) (new : BitVec 4) : (s.setClass n new).dev = s.dev := by
  unfold State.setClass; dsimp only; split <;> simp

@[simp] theorem recheckPages_dev : s.recheckPages.dev = s.dev := rfl

@[simp] theorem loadAmask_dev (a : BitVec 256) : (s.loadAmask a).dev = s.dev := rfl

@[simp] theorem applyRec_dev (old : ChanCfg) (n : Chan) (new : ChanCfg) (bench : Bool) (r : Record) :
    (s.applyRec old n new bench r).dev = s.dev := by
  cases r with
  | diag => unfold State.applyRec; dsimp only; split <;> simp
  | _ => simp [State.applyRec]

@[simp] theorem applyPatch_dev (p : Patch) : (s.applyPatch p).dev = s.dev := by
  unfold State.applyPatch
  split
  · rfl
  · split
    · simp [State.refusePatch]
    · simp only [jotRaise_dev, recheckPages_dev]
      rw [foldl_dev]
      · refine overChans_dev _ (fun u n => ?_) _
        split
        · rw [foldl_dev _ fun u r => applyRec_dev u ..]; simp
        · rfl
      · intro u r
        split <;> simp

@[simp] theorem duePatch_dev : s.duePatch.dev = s.dev := by
  unfold State.duePatch
  split
  · split <;> simp
  · split <;> simp
  · rfl

/-! ## Host commands and what transitions of the device command -/

@[simp] theorem order_dev (n : Chan) (h : HeldCmd) : (s.order n h).dev = s.dev := by
  unfold State.order; split_ifs <;> simp

@[simp] theorem judgeHost_dev (m : Master) (n : Chan) (bs : List Byte) (k : ChCmd) :
    (s.judgeHost m n bs k).dev = s.dev := by simp [State.judgeHost]

theorem hostCmd_dev (m : Master) (n : Chan) (k : ChCmd) : (s.hostCmd m n k).dev = s.dev :=
  judgeHost_dev s m n [1#8 <<< k.bit] k

@[simp] theorem runChan_dev (n : Chan) : (s.runChan n).dev = s.dev := by
  unfold State.runChan; dsimp only; split_ifs <;> simp

/-! ## The loss of a build -/

@[simp] theorem injEnd_dev : s.injEnd.dev = s.dev := by
  unfold State.injEnd; split <;> simp

@[simp] theorem trcEnd_dev : s.trcEnd.dev = s.dev := rfl

@[simp] theorem beforeUnbuilt_dev : s.beforeUnbuilt.dev = s.dev := overChans_dev s (fun u n => by simp) _

@[simp] theorem dropTwin_dev : s.dropTwin.dev = s.dev := by
  unfold State.dropTwin; dsimp only; split <;> simp [State.jotTwin, State.setJoin]

@[simp] theorem reReference_dev : s.reReference.dev = s.dev := by
  unfold State.reReference; dsimp only; split_ifs <;> simp

@[simp] theorem dropBuild_dev : s.dropBuild.dev = s.dev := by
  unfold State.dropBuild; split <;> simp

/-! ## Resets, traces, injections and captures -/

@[simp] theorem cutMaybe_dev (m : Master) : (s.cutMaybe m).dev = s.dev := by
  unfold State.cutMaybe; dsimp only; split <;> simp [State.cutBurst, State.draw]

theorem soft_dev (m : Master) : (s.soft m).dev = s.dev := by
  unfold State.soft; split <;> simp

theorem trcArm_dev (m : Master) : (s.trcArm m).dev = s.dev := by
  unfold State.trcArm; split <;> simp [State.cfgRefuse]

theorem trcTrig_dev (m : Master) : (s.trcTrig m).dev = s.dev := by
  unfold State.trcTrig; dsimp only; split <;> simp

theorem trcStop_dev (m : Master) : (s.trcStop m).dev = s.dev := by simp [State.trcStop]

theorem pinGo_dev (m : Master) : (s.pinGo m).dev = s.dev := by
  unfold State.pinGo; dsimp only; split <;> simp [State.cfgRefuse, State.draw]

theorem pinStop_dev (m : Master) : (s.pinStop m).dev = s.dev := by simp [State.pinStop]

theorem injGo_dev (m : Master) : (s.injGo m).dev = s.dev := by
  unfold State.injGo; dsimp only; split_ifs <;> simp [State.draw]

theorem injFadeOut_dev : s.injFadeOut.dev = s.dev := by
  unfold State.injFadeOut; split <;> rfl

theorem capGo_dev : s.capGo.dev = s.dev := by
  unfold State.capGo; split <;> rfl

/-! ## The matrix byte, the warning level and the masks -/

theorem deny_dev (m : Master) (target addr : Nat) (write : Bool) : (s.deny m target addr write).dev = s.dev := by
  unfold State.deny; dsimp only; split <;> simp

theorem takePark_dev (m : Master) (v : Byte) : (s.takePark m v).dev = s.dev := by
  unfold State.takePark; split <;> simp

theorem takeRemap_dev (m : Master) (v : Byte) : (s.takeRemap m v).dev = s.dev := by
  unfold State.takeRemap; split <;> simp [State.withRemap]

theorem matrixWrite_dev (m : Master) (v : Byte) : (s.matrixWrite m v).dev = s.dev := by
  by_cases ha : s.takesMatrix m v
  · rw [matrixWrite_of_takesMatrix ha, takePark_dev, takeRemap_dev]
  · rw [matrixWrite_of_not_takesMatrix ha, deny_dev]

theorem pvddWarnWrite_dev (m : Master) (v : Byte) : (s.pvddWarnWrite m v).dev = s.dev := by
  unfold State.pvddWarnWrite; dsimp only; split <;> simp

theorem maskWrite_dev (m : Master) (upstream : Bool) (g : Fin 32) (v : Byte) :
    (s.maskWrite m upstream g v).dev = s.dev := by
  cases upstream <;> simp [State.maskWrite]

end Sys2Proof.Machine
end

section
/-! PROOFS. A device command leaves the device out of STANDBY, all but STANDBY itself, and what follows the end of the
transaction that carried a command (R322 to R325). -/

namespace Sys2Proof.Machine

variable {s t : State} {m : Master}

/-! ## What follows a command (R325) -/

theorem standbyEnd_of_awake (h : t.dev.state ≠ .standby) : t.standbyEnd = t := if_neg (by simp [h])

theorem standbyEnd_of_held (h : t.dev.held ≠ .running) : t.standbyEnd = t := if_neg (by simp [h])

/-- A command that takes no device to STANDBY is followed by nothing. -/
theorem standbyAfter_of_awake (h : s.dev.state ≠ .standby → t.dev.state ≠ .standby) : s.standbyAfter t = t := by
  unfold State.standbyAfter
  split
  · rfl
  · next hs => exact standbyEnd_of_awake (h hs)

/-! ## The device commands (Table 12-4) -/

theorem refuseDev_state (bs : List Byte) (code : Nat) : (s.refuseDev m bs code).dev.state = s.dev.state := by
  simp [State.refuseDev]

theorem refuseDev_held (bs : List Byte) (code : Nat) : (s.refuseDev m bs code).dev.held = s.dev.held := by
  simp [State.refuseDev]

/-- An accepted command leaves the state that it names, whatever it does to the channels. -/
theorem toDev_state {act : State → State} (hact : ∀ u, (act u).dev.state = u.dev.state) (bs : List Byte)
    (new : DevState) : (s.toDev m bs new act).dev.state = new := hact _

theorem enterHalt_state (src : Nat) (cause : HaltCause) : (s.enterHalt src cause).dev.state = .halt := by
  simp [State.enterHalt, State.jotDev]

section
variable (h : s.dev.state ≠ .standby)
include h

theorem arm_awake : (s.arm m).dev.state ≠ .standby := by
  unfold State.arm
  split_ifs
  · rwa [refuseDev_state]
  · rwa [refuseDev_state]
  · rwa [refuseDev_state]
  · exact ne_of_eq_of_ne (toDev_state (fun u => congrArg Dev.state (overChans_dev u (fun u n => order_dev u ..) _)) ..)
      (by decide)

theorem run_awake : (s.run m).dev.state ≠ .standby := by
  unfold State.run
  split_ifs
  · rwa [refuseDev_state]
  · rwa [refuseDev_state]
  · rwa [refuseDev_state]
  · rwa [refuseDev_state]
  · exact ne_of_eq_of_ne (toDev_state (fun u => congrArg Dev.state (overChans_dev u runChan_dev _)) ..) (by decide)

theorem hold_awake : (s.hold m).dev.state ≠ .standby := by
  unfold State.hold
  split_ifs
  · rwa [refuseDev_state]
  · rwa [refuseDev_state]
  · exact ne_of_eq_of_ne (toDev_state (fun u => congrArg Dev.state (overChans_dev u (fun u n => order_dev u ..) _)) ..)
      (by decide)

theorem disarm_awake : (s.disarm m).dev.state ≠ .standby := by
  unfold State.disarm
  split_ifs
  · rwa [refuseDev_state]
  · refine ne_of_eq_of_ne (toDev_state (fun u => ?_) ..) h
    rw [overChans_dev _ fun u n => order_dev u ..]

theorem discard_awake : (s.discard m).dev.state ≠ .standby := by
  unfold State.discard
  split_ifs
  · rwa [refuseDev_state]
  · have hact (u : State) : u.trcEnd.dropBuild.dev.state = u.dev.state := by rw [dropBuild_dev, trcEnd_dev]
    exact ne_of_eq_of_ne (toDev_state hact ..) (by decide)

theorem haltCmd_awake : (s.haltCmd m).dev.state ≠ .standby := by
  unfold State.haltCmd
  split
  · rw [enterHalt_state]; decide
  · rw [enterHalt_state]; decide
  · rw [enterHalt_state]; decide
  · rw [enterHalt_state]; decide
  · rwa [refuseDev_state]

theorem haltClear_awake : (s.haltClear m).dev.state ≠ .standby := by
  unfold State.haltClear
  split_ifs
  · rwa [refuseDev_state]
  · rwa [refuseDev_state]
  · exact ne_of_eq_of_ne (toDev_state (fun u => rfl) ..) (by split <;> decide)

end

/-- A device that is held in STANDBY refuses STANDBY and stays held; of another the end of what carried the command
takes it there. -/
theorem standbyAfter_standby (hs : s.standbyHeld) : s.standbyAfter (s.standby m) = (s.standby m).standbyEnd := by
  unfold State.standbyAfter
  split
  · next hst =>
    have hr : s.standby m = s.refuseDev m [0x80] refState := by simp [State.standby, hst]
    rw [standbyEnd_of_held]
    rw [hr, refuseDev_held, hs hst]; decide
  · rfl

end Sys2Proof.Machine
end

section
/-! PROOFS. One burst into the register space: a byte of any window, the whole of a register in one beat, an absent
window, a window's number, and a master that may not write there (R7, R9, R32 to R34, R380). -/

namespace Sys2Proof.Machine

variable {s t : State} {m : Master} {w off : Nat} {bs : List Byte}

/-! ## A byte of a window -/

theorem exec_registerWrite_regByte (hc : canWrite m 3 = true) (hw : w < 256) (ho : off < 256) {a : BitVec 32}
    (ha : a.toNat = 0x30000000 + 256 * w + off) (v : Byte) :
    exec (.registerWrite m a [v]) s = .next (s.standbyAfter (s.regBeat m w (off / 4 * 4) [(off, v)])) := by
  have hx : exec (.registerWrite m a [v]) s = execRegisterWrite m a [v] s := rfl
  have hwf : burstWf (0x30000000 + 256 * w + off) [v].length = true := burstWf_byte _
  have hcan : canWrite m (targetOf (0x30000000 + 256 * w + off)) = true := by rwa [targetOf_reg hw ho]
  rw [hx, execRegisterWrite, ha, if_pos hwf, busWrite_byte hcan, busBeat_byte hw ho]

/-- A byte that changes nothing is a step that changes nothing. -/
theorem exec_registerWrite_of_regBeat_same (hc : canWrite m 3 = true) (hw : w < 256) (ho : off < 256)
    {v : Byte} (h : s.regBeat m w (off / 4 * 4) [(off, v)] = s) :
    exec (.registerWrite m (BitVec.ofNat 32 (0x30000000 + 256 * w + off)) [v]) s = .next s := by
  have ha : (BitVec.ofNat 32 (0x30000000 + 256 * w + off)).toNat = 0x30000000 + 256 * w + off := by
    rw [BitVec.toNat_ofNat]; omega
  rw [exec_registerWrite_regByte hc hw ho ha, h, standbyAfter_of_dev rfl]

/-! ## An absent window (R380) -/

theorem regBeat_of_absent (hp : windowPresent w = false) (wo : Nat) (b : Beat) : s.regBeat m w wo b = s :=
  if_pos (by simp [hp])

theorem readReg_of_absent (hp : windowPresent w = false) : s.readReg m w off = 0 := if_pos (by simp [hp])

theorem canRead_regs_of_mayWrite (hm : mayWrite m = true) : canRead m 3 = true := by
  revert hm; cases m <;> decide

/-- One byte read in the register space, of a window behind the injection's. -/
theorem busRead_regByte (hm : mayWrite m = true) (hlo : 0x0C ≤ w) (hw : w < 256) (ho : off < 256) :
    s.busRead m (0x30000000 + 256 * w + off) 1 = (s, [s.readReg m w off], false) := by
  have ht := targetOf_reg hw ho
  have hcan := canRead_regs_of_mayWrite hm
  have hwin : (0x30000000 + 256 * w + off - 0x30000000) / 256 = w := by omega
  have hoff : (0x30000000 + 256 * w + off) % 256 = off := by omega
  have hcap : touchesCap (0x30000000 + 256 * w + off) 1 = false := by simp [touchesCap]; omega
  simp [State.busRead, State.readByte, ht, hcan, hwin, hoff, hcap]

/-- The windows that Table 0-3 leaves out. -/
theorem windowPresent_of_absent (h : (0x0E ≤ w ∧ w ≤ 0x0F) ∨ (0x58 ≤ w ∧ w ≤ 0x5F) ∨ 0x70 ≤ w) :
    windowPresent w = false := by
  simp [windowPresent]; omega

theorem twpServes_of_absent (hp : windowPresent w = false) : s.twpServes w = false := by simp [State.twpServes, hp]

/-- A transaction whose only byte names an absent window selects none (R353, R355). -/
theorem twpCommit_of_absent {v : Byte} (hp : windowPresent v.toNat = false) (hst : s.twp.staged = [(0, v)])
    (hf : s.twp.flight = none) (hh : s.twp.held = false) :
    s.twpCommit = { s with twp := { s.twp with staged := [], trans := s.twp.trans + 1 } } := by
  have hserve (u : State) : u.twpServes v.toNat = false := twpServes_of_absent hp
  simp [State.twpCommit, State.twpWrite, runsOf, hst, hf, hh, hserve]

theorem exec_twpStop_of_absent {v : Byte} (hs : s.standbyHeld) (hp : windowPresent v.toNat = false)
    (hr : s.twpRuns = true) (hst : s.twp.staged = [(0, v)]) (hf : s.twp.flight = none) (hh : s.twp.held = false) :
    exec .twpStop s = .next { s with twp := { s.twp with
      staged := [], trans := s.twp.trans + 1, phase := .idle, readDue := none, snap := none } } := by
  have hx : exec .twpStop s = execTwpStop s := rfl
  have hrun : s.dev.held = .running := by
    simp only [State.twpRuns, Bool.and_eq_true, decide_eq_true_eq] at hr
    obtain ⟨⟨⟨hrun, -⟩, -⟩, -⟩ := hr
    exact hrun
  have hawake : s.dev.state ≠ .standby := fun h => by rw [hs h] at hrun; cases hrun
  rw [hx, execTwpStop, if_pos hr, twpCommit_of_absent hp hst hf hh]
  exact congrArg Host.Outcome.next (standbyEnd_of_awake hawake)

/-! ## A window's number (R33) -/

theorem byteRows_off_pos {base : Nat} {act : Fin 32 → State → Nat → State} {l : List (Fin 32)} (hb : 0 < base) :
    ∀ r ∈ byteRows base act l, 0 < r.off := by
  intro r hr
  obtain ⟨g, -, rfl⟩ := List.mem_map.mp hr
  exact Nat.add_pos_left hb _

theorem wrEvt_off_pos : ∀ r ∈ State.wrEvt m, 0 < r.off := by
  have hctl : ∀ r ∈ (State.wrEvt m).take 2, 0 < r.off := by simp [State.wrEvt]
  change ∀ r ∈ winWrites m 2, 0 < r.off
  simp only [winWrites_evt, List.mem_append]
  rintro r (((hr | hr) | hr) | hr)
  · exact hctl r hr
  · exact byteRows_off_pos (by decide) r hr
  · exact byteRows_off_pos (by decide) r hr
  · exact byteRows_off_pos (by decide) r hr

/-- No register that a write changes stands at offset 0 of its window. -/
theorem winWrites_off_pos : ∀ r ∈ winWrites m w, 0 < r.off := by
  unfold winWrites
  split_ifs
  · simp [State.wrCh]
  · simp [State.wrSd]
  · split
    · simp [State.wrSys]
    · simp [State.wrPwr]
    · exact wrEvt_off_pos
    · simp [State.wrLnk]
    · simp [State.wrLnk]
    · simp [State.wrSwp]
    · simp [State.wrSec]
    · simp [State.wrBld]
    · simp [State.wrTwp]
    · simp [State.wrTrc]
    · simp [State.wrFlx]
    · simp [State.wrMtb]
    · simp

theorem regBeat_window_number (v : Byte) : s.regBeat m w 0 [(0, v)] = s := by
  have hwide : wideBase w 0 = none := by simp [wideBase]
  have hany : ((winWrites m w).any fun r => r.off ≤ 0 && 0 < r.off + r.n) = false := by
    rw [List.any_eq_false]
    intro r hr
    have := winWrites_off_pos r hr
    simp; omega
  have hfix : writable m w 0 = false := by
    simp only [writable, Nat.zero_div, Nat.zero_mul, hwide, hany]
    simp
  have hright : rightless m w [(0, v)] = false := by simp [rightless, hfix]
  have hnone : s.applyWrites m w [(0, v)] (winWrites m w) = s := applyWrites_of_untouched w fun r hr => by
    have := winWrites_off_pos r hr
    simp [Beat.touches]; omega
  have hsel : ∀ q, s.coefBeat q [(0, v)] = s := fun q => if_neg (by simp [Beat.touches])
  unfold State.regBeat
  rw [hright, hwide, hnone]
  split_ifs
  · rfl
  · contradiction
  · exact hsel _
  · rfl

/-! ## A master that may not write the register space (R32) -/

theorem exec_registerWrite_of_denied (hc : canWrite m 3 = false) (hw : w < 256) (ho : off < 256) (v : Byte) :
    exec (.registerWrite m (BitVec.ofNat 32 (0x30000000 + 256 * w + off)) [v]) s =
      .next (s.denyReg m w off) := by
  have hx : exec (.registerWrite m (BitVec.ofNat 32 (0x30000000 + 256 * w + off)) [v]) s =
      execRegisterWrite m (BitVec.ofNat 32 (0x30000000 + 256 * w + off)) [v] s := rfl
  have ha : (BitVec.ofNat 32 (0x30000000 + 256 * w + off)).toNat = 0x30000000 + 256 * w + off := by
    rw [BitVec.toNat_ofNat]; omega
  have hwf : burstWf (0x30000000 + 256 * w + off) [v].length = true := burstWf_byte _
  have hall : withAddr (0x30000000 + 256 * w + off) [v] = [(0x30000000 + 256 * w + off, v)] := rfl
  have hbus : (s.busWrite m (0x30000000 + 256 * w + off) [v]).1 = s.denyReg m w off := by
    simp [State.busWrite, hall, targetOf_reg hw ho, hc, beatsOf, State.busBeats, State.denyReg]
  have hdev : (s.denyReg m w off).dev = s.dev := deny_dev ..
  rw [hx, execRegisterWrite, ha, if_pos hwf, hbus, standbyAfter_of_dev hdev]

/-- A denied write changes SYS_MXLOG alone, with its event and its entry. -/
theorem does_registerWrite_of_denied (hc : canWrite m 3 = false) (hw : w < 256) (ho : off < 256) (v : Byte) :
    Does (.registerWrite m (BitVec.ofNat 32 (0x30000000 + 256 * w + off)) [v]) s (s.mxLog m 3 1 0)
      [(Ev.accessDenied, 0xFF, 0)]
      [s.entry m.num 0x10 2 0 0xFF (mxData (s.mxLog m 3 1 0).pace (0x30000000 + 256 * w + off))] := by
  have hx : exec (.registerWrite m (BitVec.ofNat 32 (0x30000000 + 256 * w + off)) [v]) s =
      .next ((s.mxLog m 3 1 0).jotRaise m.num 0x10 2 0 0xFF
        (mxData (s.mxLog m 3 1 0).pace (0x30000000 + 256 * w + off)) Ev.accessDenied 0xFF 0) :=
    exec_registerWrite_of_denied hc hw ho v
  exact does_jotRaise hx rfl rfl (by decide) (by decide) (by decide) (by decide)

/-! ## A register written in one beat -/

/-- Bytes of one aligned word are one beat. -/
theorem beatsOf_word {wa : Nat} {e : Nat × Byte} {l : List (Nat × Byte)} (h : ∀ x ∈ e :: l, x.1 / 4 * 4 = wa) :
    beatsOf (e :: l) = [(wa, e :: l)] := by
  induction l generalizing e with
  | nil => simp [beatsOf, h]
  | cons x l ih =>
    have htail : beatsOf (x :: l) = [(wa, x :: l)] := ih fun y hy => h y (List.mem_cons_of_mem _ hy)
    have he : e.1 / 4 * 4 = wa := h e List.mem_cons_self
    unfold beatsOf at htail ⊢
    rw [List.foldr_cons, htail]
    simp [he]

theorem mem_withAddr {a : Nat} {x : Nat × Byte} (h : x ∈ withAddr a bs) : a ≤ x.1 ∧ x.1 < a + bs.length := by
  obtain ⟨i, hi, rfl⟩ := List.mem_map.mp h
  have := List.mem_range.mp hi
  exact ⟨Nat.le_add_right .., Nat.add_lt_add_left this a⟩

theorem withAddr_ne_nil {a : Nat} (h : bs ≠ []) : withAddr a bs ≠ [] := by
  simpa [withAddr] using h

/-- A burst inside one aligned word of a window reaches it as one beat. -/
theorem busWrite_word (hc : canWrite m 3 = true) (hw : w < 256) (ho : off < 256) (hal : off % 4 = 0) (hne : bs ≠ [])
    (hlen : bs.length ≤ 4) :
    (s.busWrite m (0x30000000 + 256 * w + off) bs).1 = s.regBeat m w off (withAddr off bs) := by
  have hmem : ∀ x ∈ withAddr (0x30000000 + 256 * w + off) bs,
      x.1 / 4 * 4 = 0x30000000 + 256 * w + off ∧ canWrite m (targetOf x.1) = true := by
    intro x hx
    obtain ⟨hlo, hhi⟩ := mem_withAddr hx
    have hsplit : x.1 = 0x30000000 + 256 * w + (off + (x.1 - (0x30000000 + 256 * w + off))) := by omega
    refine ⟨by omega, ?_⟩
    rw [hsplit, targetOf_reg hw (by omega), hc]
  have hbad : (withAddr (0x30000000 + 256 * w + off) bs).filter (fun e => ! canWrite m (targetOf e.1)) = [] := by
    rw [List.filter_eq_nil_iff]
    intro x hx
    simp [(hmem x hx).2]
  have hgood : (withAddr (0x30000000 + 256 * w + off) bs).filter (fun e => canWrite m (targetOf e.1)) =
      withAddr (0x30000000 + 256 * w + off) bs := List.filter_eq_self.mpr fun x hx => (hmem x hx).2
  have hbeats : beatsOf (withAddr (0x30000000 + 256 * w + off) bs) =
      [(0x30000000 + 256 * w + off, withAddr (0x30000000 + 256 * w + off) bs)] := by
    obtain ⟨e, l, hel⟩ := List.exists_cons_of_ne_nil (withAddr_ne_nil (a := 0x30000000 + 256 * w + off) hne)
    rw [hel] at hmem ⊢
    exact beatsOf_word fun x hx => (hmem x hx).1
  have hwin : (0x30000000 + 256 * w + off - 0x30000000) / 256 = w := by omega
  have hoff : (0x30000000 + 256 * w + off) % 256 = off := by omega
  have hrel : (withAddr (0x30000000 + 256 * w + off) bs).map (fun e => (e.1 % 256, e.2)) = withAddr off bs := by
    simp only [withAddr, List.map_map]
    refine List.map_congr_left fun i hi => ?_
    have := List.mem_range.mp hi
    simp only [Function.comp_apply, Prod.mk.injEq, and_true]
    omega
  simp only [State.busWrite, hbad, hgood, hbeats, busBeats_singleton, State.busBeat, targetOf_reg hw ho, if_true, hwin,
    hoff, hrel]

/-- A register of a window of narrow registers, or a part of it that starts a word, written in one beat. -/
theorem exec_registerWrite_word (hm : mayWrite m = true) (hp : windowPresent w = true) (hc : ¬ (0x60 ≤ w ∧ w < 0x70))
    (ho : off < 256) (hal : off % 4 = 0) (hn : wideBase w off = none) (hne : bs ≠ []) (hlen : bs.length ≤ 4)
    {a : BitVec 32} (ha : a.toNat = 0x30000000 + 256 * w + off) : exec (.registerWrite m a bs) s =
      .next (s.standbyAfter (s.applyWrites m w (withAddr off bs) (winWrites m w))) := by
  have hx : exec (.registerWrite m a bs) s = execRegisterWrite m a bs s := rfl
  have hw : w < 256 := by have := lt_of_windowPresent hp; omega
  have hpos : 1 ≤ bs.length := List.length_pos_of_ne_nil hne
  have hwf : burstWf (0x30000000 + 256 * w + off) bs.length = true := by
    simp [burstWf]; omega
  rw [hx, execRegisterWrite, ha, if_pos hwf,
    busWrite_word (canWrite_regs_of_mayWrite hm) hw ho hal hne hlen, regBeat_of_narrow hm hp hc hn]

/-- The registers that a byte writes give the step of its write. -/
theorem exec_registerWrite_gives (hm : mayWrite m = true) (hp : windowPresent w = true) (hc : ¬ (0x60 ≤ w ∧ w < 0x70))
    (ho : off < 256) (hn : wideBase w (off / 4 * 4) = none) {a : BitVec 32} (ha : a.toNat = 0x30000000 + 256 * w + off)
    {v : Byte} (h : s.applyWrites m w [(off, v)] (winWrites m w) = t) :
    exec (.registerWrite m a [v]) s = .next (s.standbyAfter t) :=
  h ▸ exec_registerWrite_byte hm hp hc ho hn ha v

/-! ## The value that a beat gives -/

theorem leBytes_succ (n v : Nat) : leBytes (n + 1) v = BitVec.ofNat 8 v :: leBytes n (v >>> 8) := by
  simp only [leBytes, List.range_succ_eq_map, List.map_cons, List.map_map, Nat.mul_zero, Nat.shiftRight_zero]
  congr 1
  refine List.map_congr_left fun i _ => ?_
  simp only [Function.comp_apply, Nat.succ_eq_add_one, ← Nat.shiftRight_add]
  congr 2
  omega

theorem length_leBytes (n v : Nat) : (leBytes n v).length = n := by simp [leBytes]

/-- The bytes of a number spell the number, within their width. -/
theorem leNat_leBytes (n v : Nat) : leNat (leBytes n v) = v % 256 ^ n := by
  induction n generalizing v with
  | zero => simp [leBytes, leNat, Nat.mod_one]
  | succ n ih =>
    have htail : leNat (leBytes (n + 1) v) = v % 256 + 256 * leNat (leBytes n (v >>> 8)) := by
      rw [leBytes_succ]; simp [leNat]
    have hsplit : v % 256 ^ (n + 1) = v % 256 + 256 * (v / 256 % 256 ^ n) := by rw [Nat.pow_succ', Nat.mod_mul]
    have hshift : v >>> 8 = v / 256 := Nat.shiftRight_eq_div_pow v 8
    rw [htail, ih, hsplit, hshift]

theorem byte_withAddr {i : Nat} (hi : i < bs.length) : Beat.byte (withAddr off bs) (off + i) = some (bs.getD i 0) := by
  have hfind : (withAddr off bs).find? (fun e => e.1 = off + i) = some (off + i, bs.getD i 0) := by
    have hrange : (List.range bs.length).find? (fun j => off + j = off + i) = some i := by
      rw [List.find?_range_eq_some]
      simp [hi]
      omega
    rw [withAddr, List.find?_map, Function.comp_def, hrange]
    rfl
  rw [Beat.byte, hfind]; rfl

/-- A beat that strobes a whole register gives it the number that its bytes spell. -/
theorem merge_withAddr (base : Nat → Byte) : Beat.merge (withAddr off bs) off bs.length base = leNat bs := by
  have hbytes : ((List.range bs.length).map fun i =>
      (Beat.byte (withAddr off bs) (off + i)).getD (base (off + i))) = bs := by
    refine List.ext_getElem (by simp) fun i hi hi' => ?_
    simp [byte_withAddr hi', hi']
  rw [Beat.merge, hbytes]

theorem merge_leBytes {n v : Nat} (hv : v < 256 ^ n) (base : Nat → Byte) :
    Beat.merge (withAddr off (leBytes n v)) off n base = v := by
  have h := merge_withAddr (off := off) (bs := leBytes n v) base
  rwa [length_leBytes, leNat_leBytes, Nat.mod_eq_of_lt hv] at h

theorem touches_withAddr (o n : Nat) : Beat.touches (withAddr off bs) o n =
    (List.range bs.length).any fun i => decide (o ≤ off + i) && decide (off + i < o + n) := by
  simp [Beat.touches, withAddr, List.any_map, Function.comp_def]

end Sys2Proof.Machine
end

section
/-! PROOFS. A register's bytes and its command have one effect; what an absent window, a window's number and a master
without the right to write take (R7, R9, R32, R33, R380). -/

namespace Sys2Proof.Machine

variable {s t : State} {m : Master}

/-! ## The commands -/

/-- A command that a register right guards, issued by a master that has every right. -/
theorem exec_of_byMaster {c : Instr} {w off : Nat} (hm : mayWrite m = true)
    (hx : exec c s = .next (s.byMaster m w off t)) : exec c s = .next t := by
  rw [hx, byMaster_of_right (regRight_of_mayWrite hm w off)]

/-- A write whose registers do what a command does, and which takes no device to STANDBY, is that command. -/
theorem exec_eq_of_awake {a : BitVec 32} {bs : List Byte} {c : Instr}
    (hr : exec (.registerWrite m a bs) s = .next (s.standbyAfter t)) (hx : exec c s = .next t)
    (h : s.dev.state ≠ .standby → t.dev.state ≠ .standby) : exec (.registerWrite m a bs) s = exec c s := by
  rw [hr, hx, standbyAfter_of_awake h]

theorem exec_eq_of_dev {a : BitVec 32} {bs : List Byte} {c : Instr}
    (hr : exec (.registerWrite m a bs) s = .next (s.standbyAfter t)) (hx : exec c s = .next t) (h : t.dev = s.dev) :
    exec (.registerWrite m a bs) s = exec c s := by
  rw [hr, hx, standbyAfter_of_dev h]

/-! ## Registers that a byte picks out of many -/

/-- Where the bytes of the alert masks and of the upstream masks begin (R339). -/
def maskBase (upstream : Bool) : Nat := if upstream then 0x60 else 0x40

theorem applyWrites_maskByte (upstream : Bool) (g : Fin 32) (v : Byte) :
    s.applyWrites m 2 [(maskBase upstream + g.val, v)] (winWrites m 2) = s.maskWrite m upstream g v := by
  have hctl : ∀ r ∈ (State.wrEvt m).take 2, Beat.touches [(maskBase upstream + g.val, v)] r.off r.n = false := by
    cases upstream <;> simp [State.wrEvt, touches_byte, maskBase] <;> omega
  have hv : byteV v.toNat = v := BitVec.ofNat_toNat 8 v
  rw [winWrites_evt, applyWrites_append, applyWrites_append, applyWrites_append, applyWrites_of_untouched 2 hctl]
  cases upstream with
  | false =>
    rw [maskBase, if_neg Bool.false_ne_true, byteRows_untouched 2 v fun i _ => by omega, byteRows_write,
      byteRows_untouched 2 v fun i _ => by omega, hv]
  | true =>
    rw [maskBase, if_pos rfl, byteRows_write, byteRows_untouched 2 v fun i _ => by omega,
      byteRows_untouched 2 v fun i _ => by omega, hv]

theorem applyWrites_trcCtl (v : Byte) : s.applyWrites m 0xA [(0x04, v)] (winWrites m 0xA) = s.trcCtlWrite m v := by
  have hcut : winWrites m 0xA = (State.wrTrc m).take 1 ++ (State.wrTrc m).drop 1 := rfl
  have hrest : ∀ r ∈ (State.wrTrc m).drop 1, Beat.touches [(0x04, v)] r.off r.n = false := by
    simp [State.wrTrc, Beat.touches]; omega
  rw [hcut, applyWrites_append, applyWrites_of_untouched 0xA hrest]
  simp [State.applyWrites, State.wrTrc, touches_byte, merge_byte, byteV]

/-- A byte of one bit of CH_CMD is the host command of that bit (Table 4-10). -/
theorem chCmdWrite_of_bit {n : Chan} {k : ChCmd} : s.chCmdWrite m n (2 ^ k.bit) = s.hostCmd m n k := by
  cases k <;> rfl

theorem applyWrites_chCmd (n : Chan) {k : ChCmd} {v : Byte} (hv : v.toNat = 2 ^ k.bit) :
    s.applyWrites m (0x10 + n.val) [(0x04, v)] (State.wrCh m n) = s.hostCmd m n k := by
  have hreg : s.applyWrites m (0x10 + n.val) [(0x04, v)] (State.wrCh m n) = s.chCmdWrite m n v.toNat := by
    simp [State.applyWrites, State.wrCh, Beat.touches, merge_byte]
  rw [hreg, hv, chCmdWrite_of_bit]

section
variable (hm : mayWrite m = true)
include hm

/-! ## SYS and PWR -/

theorem registerWrite_sysMatrix (v : Byte) : exec (.registerWrite m 0x30000010 [v]) s = exec (.sysMatrixWrite m v) s := by
  have hb : s.applyWrites m 0 [(0x10, v)] (winWrites m 0) = s.matrixWrite m v := by
    simp [winWrites, State.applyWrites, State.wrSys, Beat.touches, merge_byte, byteV]
  exact exec_eq_of_dev (exec_registerWrite_gives hm (by decide) (by decide) (by decide) rfl rfl hb) exec_sysMatrixWrite
    (matrixWrite_dev ..)

theorem registerWrite_sysCtl (v : Byte) :
    exec (.registerWrite m 0x30000028 [v]) s = .next (s.standbyAfter (s.sysCtlWrite m v.toNat)) := by
  have hb : s.applyWrites m 0 [(0x28, v)] (winWrites m 0) = s.sysCtlWrite m v.toNat := by
    simp [winWrites, State.applyWrites, State.wrSys, Beat.touches, merge_byte]
  exact exec_registerWrite_gives hm (by decide) (by decide) (by decide) rfl rfl hb

theorem registerWrite_pvddWarn (v : Byte) :
    exec (.registerWrite m 0x30000106 [v]) s = exec (.pvddWarnWrite m v) s := by
  have hb : s.applyWrites m 1 [(0x06, v)] (winWrites m 1) = s.pvddWarnWrite m v := by
    simp [winWrites, State.applyWrites, State.wrPwr, Beat.touches, merge_byte, byteV]
  exact exec_eq_of_dev (exec_registerWrite_gives hm (by decide) (by decide) (by decide) rfl rfl hb)
    (exec_of_byMaster hm rfl) (pvddWarnWrite_dev ..)

theorem registerWrite_soft : exec (.registerWrite m 0x3000010C [1]) s = exec (.soft m) s := by
  have hb : s.applyWrites m 1 [(0x0C, 1)] (winWrites m 1) = s.soft m := by
    simp [winWrites, State.applyWrites, State.wrPwr, Beat.touches, merge_byte]
  exact exec_eq_of_dev (exec_registerWrite_gives hm (by decide) (by decide) (by decide) rfl rfl hb)
    (exec_of_byMaster hm rfl) (soft_dev ..)

/-- The bits of SYS_CTL and their commands (Table 12-4). -/
theorem registerWrite_sysCtl_command (hs : s.standbyHeld) {v : Byte} {c : Instr}
    (h : (v, c) ∈ [((0x01 : Byte), Instr.arm m), (0x02, .run m), (0x04, .hold m), (0x08, .disarm m), (0x10, .discard m),
      (0x20, .halt m), (0x40, .haltClear m), (0x80, .standby m)]) :
    exec (.registerWrite m 0x30000028 [v]) s = exec c s := by
  have hr := registerWrite_sysCtl (s := s) hm v
  simp only [List.mem_cons, Prod.mk.injEq, List.not_mem_nil, or_false] at h
  obtain ⟨rfl, rfl⟩ | ⟨rfl, rfl⟩ | ⟨rfl, rfl⟩ | ⟨rfl, rfl⟩ | ⟨rfl, rfl⟩ | ⟨rfl, rfl⟩ | ⟨rfl, rfl⟩ | ⟨rfl, rfl⟩ := h
  · exact exec_eq_of_awake hr (exec_of_byMaster hm rfl) arm_awake
  · exact exec_eq_of_awake hr (exec_of_byMaster hm rfl) run_awake
  · exact exec_eq_of_awake hr (exec_of_byMaster hm rfl) hold_awake
  · exact exec_eq_of_awake hr (exec_of_byMaster hm rfl) disarm_awake
  · exact exec_eq_of_awake hr (exec_of_byMaster hm rfl) discard_awake
  · exact exec_eq_of_awake hr (exec_of_byMaster hm rfl) haltCmd_awake
  · exact exec_eq_of_awake hr (exec_of_byMaster hm rfl) haltClear_awake
  · rw [hr, exec_of_byMaster (c := .standby m) hm rfl]
    exact congrArg Host.Outcome.next (standbyAfter_standby hs)

/-! ## EVT -/

theorem registerWrite_clrAll : exec (.registerWrite m 0x3000020C [1]) s = exec (.clrAll m) s := by
  have hb : s.applyWrites m 2 [(0x0C, 1)] (winWrites m 2) = s.clearFlags (BitVec.allOnes 256) := by
    rw [winWrites_evt, applyWrites_append, applyWrites_append, applyWrites_append,
      byteRows_untouched 2 _ fun i _ => by omega, byteRows_untouched 2 _ fun i _ => by omega,
      byteRows_untouched 2 _ fun i _ => by omega]
    simp [State.applyWrites, State.wrEvt, touches_byte, merge_byte]
  exact exec_eq_of_dev (exec_registerWrite_gives hm (by decide) (by decide) (by decide) rfl rfl hb) (exec_clrAll hm)
    (clearFlags_dev _)

theorem registerWrite_maskByte {upstream : Bool} {g : Fin 32} {a : BitVec 32}
    (ha : a.toNat = 0x30000000 + 256 * 2 + (maskBase upstream + g.val)) (v : Byte) :
    exec (.registerWrite m a [v]) s = exec (.evtMaskWrite m upstream g v) s := by
  have hbase : maskBase upstream ≤ 0x60 := by cases upstream <;> decide
  exact exec_eq_of_dev (exec_registerWrite_gives hm (by decide) (by decide) (by omega) rfl ha (applyWrites_maskByte ..))
    (exec_evtMaskWrite hm ..) (maskWrite_dev ..)

theorem registerWrite_alertMask (g : Fin 32) (v : Byte) :
    exec (.registerWrite m (BitVec.ofNat 32 (0x30000240 + g.val)) [v]) s = exec (.evtMaskWrite m false g v) s :=
  registerWrite_maskByte hm (by rw [BitVec.toNat_ofNat, maskBase, if_neg Bool.false_ne_true]; omega) v

theorem registerWrite_upstreamMask (g : Fin 32) (v : Byte) :
    exec (.registerWrite m (BitVec.ofNat 32 (0x30000260 + g.val)) [v]) s = exec (.evtMaskWrite m true g v) s :=
  registerWrite_maskByte hm (by rw [BitVec.toNat_ofNat, maskBase, if_pos rfl]; omega) v

/-! ## TRC and FLX -/

theorem registerWrite_trcCtl (v : Byte) :
    exec (.registerWrite m 0x30000A04 [v]) s = .next (s.standbyAfter (s.trcCtlWrite m v)) :=
  exec_registerWrite_gives hm (by decide) (by decide) (by decide) rfl rfl (applyWrites_trcCtl v)

/-- The bits of TRC_CTL and their commands (R371). -/
theorem registerWrite_trcCtl_command {v : Byte} {c : Instr}
    (h : (v, c) ∈ [((0x01 : Byte), Instr.trcArm m), (0x02, .trcTrig m), (0x04, .trcStop m), (0x08, .pinGo m),
      (0x10, .pinStop m)]) : exec (.registerWrite m 0x30000A04 [v]) s = exec c s := by
  have hr := registerWrite_trcCtl (s := s) hm v
  simp only [List.mem_cons, Prod.mk.injEq, List.not_mem_nil, or_false] at h
  obtain ⟨rfl, rfl⟩ | ⟨rfl, rfl⟩ | ⟨rfl, rfl⟩ | ⟨rfl, rfl⟩ | ⟨rfl, rfl⟩ := h
  · exact exec_eq_of_dev hr (exec_of_byMaster hm rfl) (trcArm_dev ..)
  · exact exec_eq_of_dev hr (exec_of_byMaster hm rfl) (trcTrig_dev ..)
  · exact exec_eq_of_dev hr (exec_of_byMaster hm rfl) (trcStop_dev ..)
  · exact exec_eq_of_dev hr (exec_of_byMaster hm rfl) (pinGo_dev ..)
  · exact exec_eq_of_dev hr (exec_of_byMaster hm rfl) (pinStop_dev ..)

theorem registerWrite_flxCtl (v : Byte) :
    exec (.registerWrite m 0x30000B04 [v]) s = .next (s.standbyAfter (s.flxCtlWrite m v)) := by
  have hb : s.applyWrites m 0xB [(0x04, v)] (winWrites m 0xB) = s.flxCtlWrite m v := by
    simp [winWrites, State.applyWrites, State.wrFlx, Beat.touches, merge_byte, byteV]
  exact exec_registerWrite_gives hm (by decide) (by decide) (by decide) rfl rfl hb

/-- The bits of FLX_CTL and their commands (R374 to R377). -/
theorem registerWrite_flxCtl_command {v : Byte} {c : Instr}
    (h : (v, c) ∈ [((0x01 : Byte), Instr.injGo m), (0x02, .injStop m), (0x04, .capGo m)]) :
    exec (.registerWrite m 0x30000B04 [v]) s = exec c s := by
  have hr := registerWrite_flxCtl (s := s) hm v
  simp only [List.mem_cons, Prod.mk.injEq, List.not_mem_nil, or_false] at h
  obtain ⟨rfl, rfl⟩ | ⟨rfl, rfl⟩ | ⟨rfl, rfl⟩ := h
  · exact exec_eq_of_dev hr (exec_of_byMaster hm rfl) (injGo_dev ..)
  · exact exec_eq_of_dev hr (exec_of_byMaster hm rfl) (injFadeOut_dev ..)
  · exact exec_eq_of_dev hr (exec_of_byMaster hm rfl) (capGo_dev ..)

/-! ## CH_CMD -/

theorem exec_chCmd (n : Chan) (k : ChCmd) : exec (k.instr m n) s = .next (s.hostCmd m n k) := by
  cases k <;> exact exec_of_byMaster hm rfl

theorem registerWrite_chCmdByte (n : Chan) (v : Byte) :
    exec (.registerWrite m (BitVec.ofNat 32 (0x30001004 + 256 * n.val)) [v]) s =
      .next (s.standbyAfter (s.applyWrites m (0x10 + n.val) [(0x04, v)] (State.wrCh m n))) :=
  exec_registerWrite_chByte hm n (off := 0x04) (by decide) v

theorem registerWrite_chCmd (n : Chan) {k : ChCmd} {v : Byte} (hv : v.toNat = 2 ^ k.bit) :
    exec (.registerWrite m (BitVec.ofNat 32 (0x30001004 + 256 * n.val)) [v]) s = exec (k.instr m n) s := by
  have hr := registerWrite_chCmdByte (s := s) hm n v
  rw [applyWrites_chCmd n hv] at hr
  exact exec_eq_of_dev hr (exec_chCmd hm n k) (hostCmd_dev ..)

/-! ## Settings -/

/-- FLX_FREQ takes every value (assumption 62). -/
theorem registerWrite_flxFreq (v : BitVec 32) : exec (.registerWrite m 0x30000B0C (leBytes 4 v.toNat)) s =
    .next { s with flx := { s.flx with freq := v } } := by
  have hb : s.applyWrites m 0xB (withAddr 0x0C (leBytes 4 v.toNat)) (winWrites m 0xB) =
      { s with flx := { s.flx with freq := v } } := by
    simp [winWrites, State.applyWrites, State.wrFlx, touches_withAddr, length_leBytes, List.range_succ,
      merge_leBytes (n := 4) v.isLt]
  have hr := exec_registerWrite_word (s := s) hm (w := 0xB) (off := 0x0C) (bs := leBytes 4 v.toNat) (by decide)
    (by decide) (by decide) rfl rfl (by simp [leBytes]) (by simp [length_leBytes]) (a := 0x30000B0C) rfl
  rw [hb] at hr
  exact hr.trans (congrArg Host.Outcome.next (standbyAfter_of_dev rfl))

theorem registerWrite_pvddMin (v : BitVec 16) : exec (.registerWrite m 0x30000118 (leBytes 2 v.toNat)) s =
    .next { s with pwr := { s.pwr with pvddMin := v } } := by
  have hb : s.applyWrites m 1 (withAddr 0x18 (leBytes 2 v.toNat)) (winWrites m 1) =
      { s with pwr := { s.pwr with pvddMin := v } } := by
    simp [winWrites, State.applyWrites, State.wrPwr, touches_withAddr, length_leBytes, List.range_succ,
      merge_leBytes (n := 2) v.isLt]
  have hr := exec_registerWrite_word (s := s) hm (w := 1) (off := 0x18) (bs := leBytes 2 v.toNat) (by decide)
    (by decide) (by decide) rfl rfl (by simp [leBytes]) (by simp [length_leBytes]) (a := 0x30000118) rfl
  rw [hb] at hr
  exact hr.trans (congrArg Host.Outcome.next (standbyAfter_of_dev rfl))

end

/-- Settles O59: the registers by their windows, the absent windows, the windows' numbers and the denied masters. -/
theorem registerWritesAreTheirCommands : Obligations.RegisterWritesAreTheirCommands := by
  intro s m hs
  refine ⟨fun hm => ⟨registerWrite_sysMatrix hm, registerWrite_pvddWarn hm, registerWrite_soft hm,
    registerWrite_clrAll hm,
    fun v c => registerWrite_sysCtl_command hm hs, fun v c => registerWrite_trcCtl_command hm,
    fun v c => registerWrite_flxCtl_command hm,
    fun g v => ⟨registerWrite_alertMask hm g v, registerWrite_upstreamMask hm g v⟩,
    fun n k v => registerWrite_chCmd hm n, registerWrite_flxFreq hm, registerWrite_pvddMin hm, fun w hw => ?absent⟩,
    fun hc w v => ?number, fun hc w o v => does_registerWrite_of_denied hc w.isLt o.isLt v⟩
  case absent =>
    have hp := windowPresent_of_absent hw
    refine ⟨fun o v => ⟨?_, ?_⟩, exec_twpStop_of_absent hs hp⟩
    · exact exec_registerWrite_of_regBeat_same (canWrite_regs_of_mayWrite hm) w.isLt o.isLt (regBeat_of_absent hp ..)
    · rw [busRead_regByte hm (by omega) w.isLt o.isLt, readReg_of_absent hp]
  case number =>
    exact exec_registerWrite_of_regBeat_same (off := 0) hc w.isLt (by decide) (regBeat_window_number v)

end Sys2Proof.Machine
end
